-- ==== Sys2Proof/Word.lean ====
section
/-! DEFINITION. The word types of the CN-412: the byte of a frame, the 16-bit quantities (generations, check
values, counters) and the 32-bit node tag. -/

namespace Sys2Proof

/-- One byte of a lane frame, a coupler frame or a record (11). -/
abbrev Byte := BitVec 8

/-- A 16-bit quantity: a generation (R6), a check value (R5) or a counter (R105, R141). -/
abbrev Word := BitVec 16

/-- A node's factory-set 32-bit identity (R2). -/
abbrev Tag := BitVec 32

end Sys2Proof
end

