-- ==== Sys2Proof/Config.lean ====
section
/-! DEFINITION. What the part fixes: capacities (R122), limits and timer lengths. Timer lengths are in
microseconds. The settings (R172) are state, not configuration: they are loaded at start-up. -/

namespace Sys2Proof.Config

/-- Greatest number of cars of a consist (R1). -/
def maxConsist : Nat := 24

/-- Capacity of a lane send queue (R122). -/
def sendCapacity : Nat := 8
/-- Capacity of a lane receive queue (R122). -/
def receiveCapacity : Nat := 16
/-- Capacity of a control queue (R122). -/
def controlCapacity : Nat := 4
/-- Capacity of a COMMAND queue (R122). -/
def commandCapacity : Nat := 8
/-- Capacity of a PROCESS queue (R122). -/
def processCapacity : Nat := 16
/-- Capacity of a BULK queue (R122). -/
def bulkCapacity : Nat := 16

/-- The engine's deadline: 600 ms (R23). -/
def deadlineTime : Nat := 600000
/-- The pause after a failed sweep: 20 ms (R74). -/
def pauseTime : Nat := 20000
/-- The pattern hold: 1 ms (R79). -/
def patternHoldTime : Nat := 1000
/-- The recentre period: 250 ms (R77). -/
def recentrePeriod : Nat := 250000
/-- The relay's operate time: 15 ms (R145, R146). -/
def relayTime : Nat := 15000
/-- The scrub period: 100 ms (R143). -/
def scrubPeriod : Nat := 100000
/-- The time of a write or a lock: 5 ms (R178, R179). -/
def storeTime : Nat := 5000

/-- Full sweeps of one TRAINING (R74). -/
def maxSweeps : Nat := 3
/-- Unanswered sends of a frame on one line (R97). -/
def maxSends : Nat := 3
/-- Unanswered run that forces a line SILENT (R98). -/
def maxUnanswered : Nat := 3
/-- Consecutive holds at which a frame ends CONGESTED (R99). -/
def maxHolds : Nat := 2000
/-- The attempt count at which the engine fails (R22). -/
def maxAttempts : Nat := 5
/-- The hop count at which an ALERT is forwarded no further (R28). -/
def maxHops : Nat := 24
/-- Phase steps of a full sweep (R75). -/
def phaseSteps : Nat := 64
/-- Consecutive matching symbols at which a phase step passes (R75). -/
def matchRun : Nat := 32

end Sys2Proof.Config
end

