-- ==== Sys2Proof/Syntax.lean ====
section
/-! DEFINITION. The commands of the CN-412: one constructor for each row of the table of operations and events.
The table gives no operands; those here are what the row's rules read from outside the node (an end, a line, a
lane, an input level, the bytes of an arriving frame or of a lane transaction, the symbols a sweep saw). -/

namespace Sys2Proof

/-- The two coupler ends (R65). -/
inductive EndId where
  | end1
  | end2
deriving DecidableEq, Repr

/-- The two lines of an end (R65). -/
inductive LineId where
  | lineA
  | lineB
deriving DecidableEq, Repr

/-- The two lanes of a car (chapter 9). -/
inductive LaneId where
  | laneA
  | laneB
deriving DecidableEq, Repr

/-- The opposite end of the same node (R19). -/
def EndId.other : EndId → EndId
  | .end1 => .end2
  | .end2 => .end1

/-- The partner line of the same end. -/
def LineId.partner : LineId → LineId
  | .lineA => .lineB
  | .lineB => .lineA

/-- The other lane. -/
def LaneId.other : LaneId → LaneId
  | .laneA => .laneB
  | .laneB => .laneA

/-- What a receiver took from a line behind the kind byte of a frame (11.3, R90): the flags and the body length
byte, the body bytes received, and the frame check, absent when a loss of carrier cut the frame short before it. -/
structure RawFrame where
  flags : Byte
  length : Byte
  body : List Byte
  check : Option Word
deriving DecidableEq, Repr

/-- How the time from a lane controller's assertion of select to its release stood at the port. -/
inductive TransactionSpan where
  /-- The reply slot was EMPTY or READY when select was asserted, and no reset came (R156). -/
  | fromReady
  /-- The reply slot was PENDING when select was asserted, and no reset came (R156). -/
  | fromPending
  /-- The lane's LRST or NRST was asserted at some moment of it, so the transaction is abandoned (R169, R170). -/
  | acrossReset
deriving DecidableEq, Repr

/-- The commands. A frame command is the arrival, on the named line, of a frame of the kind it is named after. A
request command is the handling of the request of its kind that stands PENDING in the named lane's reply slot
(R158). -/
inductive Instr where
  | powerOn
  | nodeReset
  | nodeResetRelease
  | startUpComplete
  | laneReset (l : LaneId)
  | laneResetRelease (l : LaneId)
  | couplerSenseChange (e : EndId) (coupled : Bool)
  | carrierChange (e : EndId) (x : LineId) (present : Bool)
  | settleTimerExpiry (e : EndId) (x : LineId)
  | fullSweepStart (e : EndId)
  /-- `runs` holds, for each phase step from 0, the longest run of consecutive received symbols that matched the
  training pattern within the step's share of the sweep (R75). -/
  | fullSweepEnd (e : EndId) (runs : List Nat)
  | trainingPauseEnd (e : EndId) (x : LineId)
  | silenceTimerExpiry (e : EndId) (x : LineId)
  | recentreTurn
  /-- `runs` as for `fullSweepEnd`, indexed by the phase step from 0; only the steps the sweep visits are read. -/
  | recentreSweepEnd (e : EndId) (runs : List Nat)
  | patternHoldEnd (e : EndId) (x : LineId)
  | beaconDue (e : EndId) (x : LineId)
  | transmissionEnd (e : EndId) (x : LineId)
  /-- A frame whose kind byte `kind` is none of the twelve codes. -/
  | unknownFrameKind (e : EndId) (x : LineId) (kind : Byte) (f : RawFrame)
  | beacon (e : EndId) (x : LineId) (f : RawFrame)
  | patternRequest (e : EndId) (x : LineId) (f : RawFrame)
  | alert (e : EndId) (x : LineId) (f : RawFrame)
  | tally (e : EndId) (x : LineId) (f : RawFrame)
  | closure (e : EndId) (x : LineId) (f : RawFrame)
  | commit (e : EndId) (x : LineId) (f : RawFrame)
  | commitPurge
  | admissionAtCommit
  | dissent (e : EndId) (x : LineId) (f : RawFrame)
  | defer (e : EndId) (x : LineId) (f : RawFrame)
  | data (e : EndId) (x : LineId) (f : RawFrame)
  | accept (e : EndId) (x : LineId) (f : RawFrame)
  | hold (e : EndId) (x : LineId) (f : RawFrame)
  | refuse (e : EndId) (x : LineId) (f : RawFrame)
  | replyTimeout (e : EndId)
  | holdWaitEnd (e : EndId)
  | pendingSend (e : EndId)
  | arbiterOffer (e : EndId)
  | resolverExamination
  | deadlineExpiry
  | releaseEnd
  | engageEnd
  | scrub
  | writeComplete
  | lockComplete
  /-- `bytes` are the whole bytes the lane controller clocked in until it released select (R155). -/
  | laneTransaction (l : LaneId) (span : TransactionSpan) (bytes : List Byte)
  | unknownRequest (l : LaneId)
  | null (l : LaneId)
  | attach (l : LaneId)
  | detach (l : LaneId)
  | setVotes (l : LaneId)
  | send (l : LaneId)
  | fetch (l : LaneId)
  | readDirectory (l : LaneId)
  | readNode (l : LaneId)
  | readLines (l : LaneId)
  | readCounters (l : LaneId)
  | readNotices (l : LaneId)
  | clearNotices (l : LaneId)
  | setMask (l : LaneId)
  | startInauguration (l : LaneId)
  | retrainLine (l : LaneId)
  | readSetting (l : LaneId)
  | writeSetting (l : LaneId)
  | lockCommissioning (l : LaneId)
deriving DecidableEq, Repr

end Sys2Proof
end

