-- ==== Sys2Proof/WellFormed.lean ====
section
/-! DEFINITION. Which commands can reach the node at all. The meanings are total: they answer on every command,
well-formed or not; these checks say which operands an outside world can offer. -/

namespace Sys2Proof

/-- The twelve kind codes of coupler frames (11.3). -/
def kindCodes : List Byte :=
  [0x01, 0x02, 0x10, 0x11, 0x12, 0x13, 0x14, 0x15, 0x20, 0x30, 0x31, 0x32]

/-- A receiver takes the body length from byte 2 and reads the frame check at the place it names (R183), so it
never holds more body bytes than that, and it holds a frame check only behind a whole body. -/
def RawFrame.wellFormed (f : RawFrame) : Bool :=
  decide (f.body.length ≤ f.length.toNat) && (f.check.isNone || decide (f.body.length = f.length.toNat))

/-- A sweep visits phase steps 0..63 (R75, R80). -/
def sweepWellFormed (runs : List Nat) : Bool := decide (runs.length = Config.phaseSteps)

/-- The checks on a command's operands. -/
def Instr.wellFormed : Instr → Bool
  | .fullSweepEnd _ runs => sweepWellFormed runs
  | .recentreSweepEnd _ runs => sweepWellFormed runs
  | .unknownFrameKind _ _ kind f => !(kindCodes.contains kind) && f.wellFormed
  | .beacon _ _ f | .patternRequest _ _ f | .alert _ _ f | .tally _ _ f | .closure _ _ f | .commit _ _ f
  | .dissent _ _ f | .defer _ _ f | .data _ _ f | .accept _ _ f | .hold _ _ f | .refuse _ _ f => f.wellFormed
  | .powerOn | .nodeReset | .nodeResetRelease | .startUpComplete | .laneReset _ | .laneResetRelease _
  | .couplerSenseChange _ _ | .carrierChange _ _ _ | .settleTimerExpiry _ _ | .fullSweepStart _
  | .trainingPauseEnd _ _ | .silenceTimerExpiry _ _ | .recentreTurn | .patternHoldEnd _ _ | .beaconDue _ _
  | .transmissionEnd _ _ | .commitPurge | .admissionAtCommit | .replyTimeout _ | .holdWaitEnd _ | .pendingSend _
  | .arbiterOffer _ | .resolverExamination | .deadlineExpiry | .releaseEnd | .engageEnd | .scrub
  | .writeComplete | .lockComplete | .laneTransaction _ _ _ | .unknownRequest _ | .null _ | .attach _ | .detach _
  | .setVotes _ | .send _ | .fetch _ | .readDirectory _ | .readNode _ | .readLines _ | .readCounters _
  | .readNotices _ | .clearNotices _ | .setMask _ | .startInauguration _ | .retrainLine _ | .readSetting _
  | .writeSetting _ | .lockCommissioning _ => true

end Sys2Proof
end

