-- ==== Sys2Proof/Decode.lean ====
section
/-! DEFINITION. The command that a word spells by the table's bits. No row of the table of operations and events
gives bits, so no word spells a command. (The bytes of coupler frames and lane requests are decoded in
Machine/Operands.lean.) -/

namespace Sys2Proof

/-- No row of spec/opcode_table.json gives bits: every word is refused. -/
def decodeTableWord (_nbits _w : Nat) : Option Instr := none

end Sys2Proof
end

