-- ==== Sys2Proof/Machine/State.lean ====
section
/-! DEFINITION. Everything the spec gives the node to hold, as plain data, and the state right after power-on. -/

namespace Sys2Proof.Machine

open Sys2Proof

/-- A timer: stopped, or running toward a length in microseconds. The time run so far is not held; a running
timer's end is a command (log 3). -/
abbrev Timer := Option Nat

/-- A running timer. -/
abbrev Timer.running (t : Timer) : Bool := Option.isSome t

/-! ## The consist directory (chapter 1) -/

/-- Which way a car faces (R3). -/
inductive Orientation where
  | direct
  | reversed
deriving DecidableEq, Repr

/-- Whether a car has a driver's cab (R2). -/
inductive CarKind where
  | intermediate
  | cab
deriving DecidableEq, Repr

/-- A directory entry (R2). The absent claim of an INTERMEDIATE car is held as no, as its encoding does (R182,
log 31). -/
structure Entry where
  position : Nat
  tag : Tag
  orientation : Orientation
  unit : Nat
  kind : CarKind
  claim : Bool
deriving DecidableEq, Repr

/-- An entry as lists of TALLY, CLOSURE and the candidate carry it: with its prior generation (R2). -/
structure ListedEntry where
  entry : Entry
  prior : Word
deriving DecidableEq, Repr

/-- The active directory record (R1). N is the length of `entries` (log 32). -/
structure Directory where
  generation : Word
  entries : List Entry
  referenceTag : Tag
  ownPosition : Option Nat
  ownOrientation : Option Orientation
  check : Word
  claimConflict : Bool
deriving DecidableEq, Repr

/-- The empty values of R1. -/
def Directory.empty : Directory :=
  { generation := 0, entries := [], referenceTag := 0, ownPosition := none, ownOrientation := none,
    check := 0xFFFF, claimConflict := false }

/-- An attempt identifier (R21). -/
structure AttemptId where
  tag : Tag
  claim : Bool
  number : Byte
deriving DecidableEq, Repr

/-- The candidate record (R8). N is the length of `entries` (log 32). -/
structure Candidate where
  attempt : AttemptId
  entries : List ListedEntry
  check : Word
  ownPosition : Nat
deriving DecidableEq, Repr

/-! ## The inauguration engine (chapters 2 and 3) -/

/-- The seven engine states (2.1). -/
inductive EngineState where
  | quiet
  | alerted
  | leading
  | relaying
  | closed
  | mismatch
  | failed
deriving DecidableEq, Repr

/-- The part a node has in the attempt of its context (2.1). -/
inductive Role where
  | starter
  | relay
  | closer
deriving DecidableEq, Repr

/-- Why a node is in MISMATCH (R53). -/
inductive MismatchCause where
  | localCause
  | remoteCause
deriving DecidableEq, Repr

/-- The attempt context (2.1, R18). -/
structure AttemptContext where
  attempt : AttemptId
  role : Role
  tallyEnd : Option EndId
  ownPosition : Nat
deriving DecidableEq, Repr

/-- Three yes-or-no values: a lane's votes (R47), or the effective values of the vote register (R49). -/
structure Votes where
  inhibit : Bool
  claim : Bool
  bypass : Bool
deriving DecidableEq, Repr

/-- No to all three. -/
def Votes.none : Votes := { inhibit := false, claim := false, bypass := false }

/-- The engine's record (2.1), with its vote register (R49). -/
structure Engine where
  state : EngineState
  context : Option AttemptContext
  count : Nat
  number : Byte
  deadline : Timer
  cause : Option MismatchCause
  effective : Votes
deriving DecidableEq, Repr

/-- The engine after power-on and node reset (R17, R49, R53). -/
def Engine.reset : Engine :=
  { state := .quiet, context := none, count := 0, number := 0, deadline := none, cause := none,
    effective := Votes.none }

/-! ## Frames and messages (chapters 5, 6, 7) -/

/-- Service class of a message (R111). -/
inductive TrafficClass where
  | command
  | process
  | bulk
deriving DecidableEq, Repr

/-- A message's address (R106). -/
inductive Address where
  | position (t : Nat)
  | offset (d : Int)
  | tag (t : Tag)
  | broadcast
deriving DecidableEq, Repr

/-- The DATA frame's fields on the line (R111); target 0 is a broadcast. -/
structure DataFrame where
  target : Nat
  hops : Nat
  origin : Nat
  generation : Word
  cls : TrafficClass
  payload : List Byte
deriving DecidableEq, Repr

/-- What a class queue record keeps with its frame but not on the line (R129). -/
inductive Origin where
  | through
  | local_ (lane : LaneId) (address : Address) (accepted : Word)
deriving DecidableEq, Repr

/-- A class queue record (R129). -/
structure DataRecord where
  frame : DataFrame
  origin : Origin
deriving DecidableEq, Repr

/-- Reasons of a DISSENT (2.8). -/
inductive DissentReason where
  | overlength
  | duplicateTag
  | entryMismatch
  | checkMismatch
deriving DecidableEq, Repr

/-- A control frame, as it stands in a control queue (R128). A PATTERN-REQUEST is `live` while the recentre that
placed it has not been abandoned (R78). -/
inductive ControlFrame where
  | patternRequest (line : LineId) (live : Bool)
  | alert (originator : Tag) (hops : Nat) (restart : Bool) (sender : EngineState)
  | tally (attempt : AttemptId) (entries : List ListedEntry)
  | closure (attempt : AttemptId) (entries : List ListedEntry) (check : Word)
  | commit (attempt : AttemptId) (generation : Word) (check : Word)
  | dissent (attempt : AttemptId) (reason : DissentReason)
  | defer (attempt : AttemptId) (tag : Tag)
deriving DecidableEq, Repr

/-- A frame of the stop-and-wait sender: a control frame or a DATA frame with its origin (5.3). -/
inductive HeldFrame where
  | control (f : ControlFrame)
  | data (d : DataRecord)
deriving DecidableEq, Repr

/-- Reasons of a REFUSE (R100). -/
inductive RefuseReason where
  | malformed
  | notAdmitted
  | stale
deriving DecidableEq, Repr

/-- A receiver's answer (R103). -/
inductive Answer where
  | accept
  | hold
  | refuse (reason : RefuseReason)
deriving DecidableEq, Repr

/-- A final answer, as the receiver record keeps it (R102). -/
inductive FinalAnswer where
  | accept
  | refuse (reason : RefuseReason)
deriving DecidableEq, Repr

/-- What a line's transmit side sends as a frame: a beacon (R92), the sender's frame with its sequence bit (R94)
or a reply (R104). -/
inductive LineFrame where
  | beacon (tag : Tag) (e : EndId) (generation : Word) (quiet : Bool)
  | held (bit : Bool) (f : HeldFrame)
  | reply (bit : Bool) (answer : Answer)
deriving DecidableEq, Repr

/-! ## The end units (chapters 4 and 5) -/

/-- The six line states (chapter 4). SILENT is left in the event that enters it (R72). -/
inductive LineState where
  | dark
  | settling
  | training
  | active
  | silent
  | failed
deriving DecidableEq, Repr

/-- The four end states (chapter 4). -/
inductive EndState where
  | opened
  | coupling
  | unadmitted
  | admitted
deriving DecidableEq, Repr

/-- Training cause of a record (R81). -/
inductive TrainingCause where
  | none
  | settle
  | silent
  | recentre
  | retrainRequest
deriving DecidableEq, Repr

/-- Outcome of the last full sweep (R81). -/
inductive SweepOutcome where
  | none
  | pass
  | noPass
  | narrow
deriving DecidableEq, Repr

/-- Outcome of the last recentre (R81). -/
inductive RecentreOutcome where
  | none
  | moved
  | retrain
  | abandoned
deriving DecidableEq, Repr

/-- A recorded window with its phase and margin (R81). -/
structure Window where
  low : Nat
  high : Nat
  width : Nat
  phase : Nat
  margin : Nat
deriving DecidableEq, Repr

/-- The training record (R81) but for the line state, which `LineUnit` holds. -/
structure TrainingRecord where
  cause : TrainingCause
  sweeps : Nat
  lastSweep : SweepOutcome
  /-- Absent: marked as never written, and read as zeros. -/
  window : Option Window
  lastRecentre : RecentreOutcome
  recentres : Word
deriving DecidableEq, Repr

/-- The record after power-on and node reset (R81). -/
def TrainingRecord.reset : TrainingRecord :=
  { cause := .none, sweeps := 0, lastSweep := .none, window := Option.none, lastRecentre := .none,
    recentres := 0 }

/-- The recentring mark of a line (R78): not recentring, waiting for the answer to its PATTERN-REQUEST, or being
swept. -/
inductive RecentreMark where
  | none
  | requested
  | sweeping
deriving DecidableEq, Repr

/-- A reply that waits for its line: its sequence bit, its answer, and, for the ACCEPT of a PATTERN-REQUEST, the line
whose pattern hold begins when that ACCEPT has been sent (R79, R103). -/
structure WaitingReply where
  bit : Bool
  answer : Answer
  holdAfter : Option LineId
deriving DecidableEq, Repr

/-- A reply that no pattern hold follows. -/
def WaitingReply.plain (bit : Bool) (a : Answer) : WaitingReply := { bit := bit, answer := a, holdAfter := none }

/-- The frames a line's transmit side has in hand: the one it is sending, and what waits for it to end in the
order of R92 and R104. -/
structure Transmitter where
  sending : Option LineFrame
  /-- The line whose pattern hold begins when the frame being sent has gone (R79, R103). -/
  holdAfter : Option LineId
  replies : List WaitingReply
  beaconDue : Bool
  frameDue : Bool
deriving DecidableEq, Repr

/-- Nothing sent as a frame and nothing waiting. -/
def Transmitter.idle : Transmitter :=
  { sending := none, holdAfter := none, replies := [], beaconDue := false, frameDue := false }

/-- One line of an end. -/
structure LineUnit where
  carrier : Bool
  state : LineState
  settleTimer : Timer
  /-- The SETTLING was entered by RETRAIN-LINE (R69). -/
  byRetrain : Bool
  /-- Asks the end's trainer for a full sweep (R73). -/
  wantsSweep : Bool
  pauseTimer : Timer
  silenceTimer : Timer
  holdTimer : Timer
  beaconTimer : Timer
  recentre : RecentreMark
  unanswered : Nat
  checkErrors : Word
  tx : Transmitter
  record : TrainingRecord
deriving DecidableEq, Repr

/-- A line after power-on and node reset (R88), its carrier detector as the input stands. -/
def LineUnit.reset (carrier : Bool) : LineUnit :=
  { carrier := carrier, state := .dark, settleTimer := none, byRetrain := false, wantsSweep := false,
    pauseTimer := none, silenceTimer := none, holdTimer := none, beaconTimer := none, recentre := .none,
    unanswered := 0, checkErrors := 0, tx := Transmitter.idle, record := TrainingRecord.reset }

/-- The peer identity (R82). -/
structure PeerId where
  tag : Tag
  peerEnd : EndId
  generation : Word
  quiet : Bool
deriving DecidableEq, Repr

/-- What a line trainer is doing (R73). -/
inductive TrainerJob where
  | free
  | fullSweep (x : LineId)
  | recentreSweep (x : LineId)
deriving DecidableEq, Repr

/-- A line trainer: its job, and the pass map of phase steps 0..63 (R73). -/
structure Trainer where
  job : TrainerJob
  passMap : List Bool
deriving DecidableEq, Repr

/-- A cleared pass map (R73). -/
def Trainer.clearedMap : List Bool := List.replicate Config.phaseSteps false

/-- The trainer after power-on and node reset (R73). -/
def Trainer.reset : Trainer := { job := .free, passMap := Trainer.clearedMap }

/-- The four sender states (5.3). -/
inductive SenderState where
  | idle
  | pending
  | awaiting
  | backing
deriving DecidableEq, Repr

/-- The sender's timer (5.3). -/
inductive SenderTimer where
  | stopped
  | reply
  | holdWait
deriving DecidableEq, Repr

/-- The stop-and-wait sender (5.3). -/
structure Sender where
  state : SenderState
  frame : Option HeldFrame
  nextBit : Bool
  currentBit : Bool
  currentLine : LineId
  /-- The line the frame was last sent on, which R96 and R98 name; it is not the current line while a frame that has
  moved still waits for the pattern hold of its new line (R97, R101). -/
  lastLine : LineId
  moved : Bool
  sends : Nat
  holds : Nat
  timer : SenderTimer
  /-- A send fell due while the current line was in pattern hold, and waits for the hold to end (R79, R97). -/
  waitsHold : Bool
deriving DecidableEq, Repr

/-- The sender after power-on and node reset (R94; the fields the rule does not name: log 25). -/
def Sender.reset : Sender :=
  { state := .idle, frame := none, nextBit := false, currentBit := false, currentLine := .lineA,
    lastLine := .lineA, moved := false, sends := 0, holds := 0, timer := .stopped, waitsHold := false }

/-- The receiver record (R102). -/
structure ReceiverRecord where
  bit : Bool
  answer : FinalAnswer
deriving DecidableEq, Repr

/-- The queues and relief counts of one end (R122, R132). -/
structure EndQueues where
  control : List ControlFrame
  command : List DataRecord
  process : List DataRecord
  bulk : List DataRecord
  reliefProcess : Nat
  reliefBulk : Nat
deriving DecidableEq, Repr

/-- Empty queues (R142). -/
def EndQueues.empty : EndQueues :=
  { control := [], command := [], process := [], bulk := [], reliefProcess := 0, reliefBulk := 0 }

/-- The counters of one end (R105, R141). -/
structure EndCounters where
  framesSent : Word
  holds : Word
  refusals : Word
  noAnswer : Word
  misroutes : Word
  stale : Word
  congested : Word
  controlDrops : Word
deriving DecidableEq, Repr

/-- All counters 0. -/
def EndCounters.zero : EndCounters :=
  { framesSent := 0, holds := 0, refusals := 0, noAnswer := 0, misroutes := 0, stale := 0, congested := 0,
    controlDrops := 0 }

/-- One end unit, with the queues the switch holds for it. -/
structure EndUnit where
  sense : Bool
  lineA : LineUnit
  lineB : LineUnit
  state : EndState
  peer : Option PeerId
  trainer : Trainer
  sender : Sender
  receiver : Option ReceiverRecord
  queues : EndQueues
  counters : EndCounters
deriving DecidableEq, Repr

/-- An end after power-on and node reset (R88, R94, R102, R142), its inputs as they stand. -/
def EndUnit.reset (sense carrierA carrierB : Bool) : EndUnit :=
  { sense := sense, lineA := LineUnit.reset carrierA, lineB := LineUnit.reset carrierB, state := .opened,
    peer := none, trainer := Trainer.reset, sender := Sender.reset, receiver := none,
    queues := EndQueues.empty, counters := EndCounters.zero }

/-! ## The lane ports (chapters 7 and 9) -/

/-- A lane send queue record (R123). The copy marks are read for a BROADCAST only. -/
structure SendRecord where
  address : Address
  cls : TrafficClass
  payload : List Byte
  accepted : Word
  upPlaced : Bool
  downPlaced : Bool
deriving DecidableEq, Repr

/-- A lane receive queue entry (R133). -/
structure ReceiveEntry where
  cls : TrafficClass
  broadcast : Bool
  originPosition : Nat
  originTag : Tag
  generation : Word
  payload : List Byte
deriving DecidableEq, Repr

/-- The result codes of a lane request (11.4). -/
inductive ResultCode where
  | done
  | empty
  | full
  | busy
  | badFrame
  | badRequest
  | detached
  | noDirectory
  | outOfConsist
  | unknownTag
  | inhibited
  | locked
  | storeBusy
deriving DecidableEq, Repr

/-- A reply: its result and body (9.1). -/
structure Reply where
  result : ResultCode
  body : List Byte
deriving DecidableEq, Repr

/-- The reply slot (R156). While PENDING it holds the request taken, whose handling is a command of its own
(log 4). -/
inductive ReplySlot where
  | empty
  | pending (kind : Byte) (body : List Byte)
  | ready (reply : Reply)
deriving DecidableEq, Repr

/-- The loss counters of a lane, one for each reason (R140, R141). -/
structure LossCounters where
  consistChanged : Word
  linkDown : Word
  noAnswer : Word
  refused : Word
  congested : Word
  bypass : Word
deriving DecidableEq, Repr

/-- All loss counters 0. -/
def LossCounters.zero : LossCounters :=
  { consistChanged := 0, linkDown := 0, noAnswer := 0, refused := 0, congested := 0, bypass := 0 }

/-- One lane port (chapter 9). `notices` holds the pending marks in the notice order of chapter 9; the mark of
RECEIVE-READY is never set there, since that notice follows `receiveQueue` (R166). -/
structure LanePort where
  lrst : Bool
  attached : Bool
  votes : Votes
  sendQueue : List SendRecord
  receiveQueue : List ReceiveEntry
  slot : ReplySlot
  notices : BitVec 12
  mask : BitVec 12
  losses : LossCounters
  receiveDrops : Word
  receiveDisplacements : Word
  frameErrors : Word
  /-- The reply bytes the port sent in the last transaction (R155). -/
  dataOut : List Byte
deriving DecidableEq, Repr

/-- A lane port after power-on and node reset (R170), its LRST input as it stands. -/
def LanePort.reset (lrst : Bool) : LanePort :=
  { lrst := lrst, attached := false, votes := Votes.none, sendQueue := [], receiveQueue := [], slot := .empty,
    notices := 0, mask := 0xFFF, losses := LossCounters.zero, receiveDrops := 0, receiveDisplacements := 0,
    frameErrors := 0, dataOut := [] }

/-! ## The bypass controller (chapter 8) -/

/-- The four bypass states (8.1). -/
inductive BypassState where
  | engaged
  | releasing
  | off
  | engaging
deriving DecidableEq, Repr

/-- The latched cause (8.1). -/
inductive LatchedCause where
  | none
  | integrityTag
  | integrityDirectory
  | integritySettings
deriving DecidableEq, Repr

/-- The bypass controller (8.1). -/
structure Bypass where
  state : BypassState
  transition : Timer
  startUpComplete : Bool
  latched : LatchedCause
  scrubTimer : Timer
deriving DecidableEq, Repr

/-- The controller after power-on and node reset (R143). -/
def Bypass.reset : Bypass :=
  { state := .engaged, transition := none, startUpComplete := false, latched := .none, scrubTimer := none }

/-! ## The settings store (chapter 10) -/

/-- The offset of a line: a magnitude, added or subtracted (R172). -/
structure Offset where
  subtract : Bool
  magnitude : Nat
deriving DecidableEq, Repr

/-- No offset (R172). -/
def Offset.zero : Offset := { subtract := false, magnitude := 0 }

/-- The settings records (R172). SETTLE and BEACON are in milliseconds. -/
structure Settings where
  tag : Tag
  unit : Nat
  kind : CarKind
  offset1A : Offset
  offset1B : Offset
  offset2A : Offset
  offset2B : Offset
  wmin : Nat
  settle : Nat
  beacon : Nat
  reliefProcess : Nat
  reliefBulk : Nat
deriving DecidableEq, Repr

/-- The defaults of R172, with a given tag. -/
def Settings.defaults (tag : Tag) : Settings :=
  { tag := tag, unit := 0, kind := .intermediate, offset1A := Offset.zero, offset1B := Offset.zero,
    offset2A := Offset.zero, offset2B := Offset.zero, wmin := 12, settle := 300, beacon := 10,
    reliefProcess := 32, reliefBulk := 16 }

/-- The nonvolatile settings area (R174): bytes with their area check, or an area whose check fails because it was
never written or a write was abandoned (R178, log 28). -/
inductive SettingsArea where
  | unsound
  | written (bytes : List Byte) (check : Word)
deriving DecidableEq, Repr

/-- The factory area (R175): the tag, and whether the area's own check passes (log 29). -/
structure FactoryArea where
  tag : Tag
  checkPasses : Bool
deriving DecidableEq, Repr

/-- Store activity (10.2). -/
inductive StoreActivity where
  | loading
  | idle
  | writing
  | locking
deriving DecidableEq, Repr

/-- Load outcome (10.2). -/
inductive LoadOutcome where
  | valid
  | defaulted
deriving DecidableEq, Repr

/-- Reset cause (10.2). -/
inductive ResetCause where
  | powerOn
  | nodeReset
deriving DecidableEq, Repr

/-- The settings store (chapter 10). -/
structure Store where
  area : SettingsArea
  factory : FactoryArea
  locked : Bool
  working : Settings
  image : Settings
  loadCheck : Word
  tagValid : Bool
  activity : StoreActivity
  writingLane : Option LaneId
  operation : Timer
  loadOutcome : LoadOutcome
  resetCause : ResetCause
deriving DecidableEq, Repr

/-- The store after power-on or node reset (R173) over its nonvolatile areas. What the working copy, write image, load
check, validity mark and load outcome hold until the load is the model's choice (DESIGN CHOICE, log 24), the car kind
INTERMEDIATE among it, which SET-VOTES reads while LOADING (log 46). -/
def Store.reset (area : SettingsArea) (factory : FactoryArea) (locked : Bool) (cause : ResetCause) : Store :=
  { area := area, factory := factory, locked := locked, working := Settings.defaults 0,
    image := Settings.defaults 0, loadCheck := 0, tagValid := false, activity := .loading, writingLane := none,
    operation := none, loadOutcome := .valid, resetCause := cause }

/-- A new part (DESIGN CHOICE, log 22): the car 4103 of the worked sequence 10.7, its settings area never written,
its factory area sound, its lock UNLOCKED. -/
def Store.new : Store := Store.reset .unsound { tag := 4103, checkPasses := true } false .powerOn

/-! ## The node -/

/-- The node's state, and the queue of commands that wait (log 1). -/
structure State where
  pending : List Instr
  /-- NRST is asserted. -/
  nrst : Bool
  directory : Directory
  candidate : Option Candidate
  engine : Engine
  end1 : EndUnit
  end2 : EndUnit
  /-- The line the recentre rotation pointer names (R77). -/
  rotation : EndId × LineId
  recentreTimer : Timer
  laneA : LanePort
  laneB : LanePort
  /-- The resolver's round-robin pointer (R125). -/
  resolver : LaneId
  noListener : Word
  bypass : Bypass
  store : Store
deriving DecidableEq, Repr

/-- No meaning ends in a fault: the spec gives every command its effect, and a command whose event cannot occur
leaves the state unchanged (log 2). The type has no constructor. -/
inductive Fault where
deriving DecidableEq, Repr

/-- Refusals. -/
inductive Refusal where
  /-- Raised by `exec` alone, for a command that has no meaning yet; safe, since nothing is claimed of it. -/
  | notModelled (mnemonic : String)
deriving DecidableEq, Repr

/-- The node right after power-on of a new part with nothing coupled: every block at its reset value (R16, R17,
R77, R88, R142, R143, R170, R173), the inputs at the levels log 23 names. -/
def State.reset : State :=
  { pending := [], nrst := false, directory := Directory.empty, candidate := none, engine := Engine.reset,
    end1 := EndUnit.reset false false false, end2 := EndUnit.reset false false false,
    rotation := (.end2, .lineB), recentreTimer := some Config.recentrePeriod,
    laneA := LanePort.reset false, laneB := LanePort.reset false, resolver := .laneA, noListener := 0,
    bypass := Bypass.reset, store := Store.new }

end Sys2Proof.Machine
end

