-- ==== Sys2Proof/Machine/Crc.lean ====
section
/-! DEFINITION. The CRC-16 of R5, and bytes of multi-byte fields, most significant byte first (R181). -/

namespace Sys2Proof.Machine

open Sys2Proof

/-- One step of the register (R5, step 3). -/
def crcStep (r : Word) : Word := if r.msb then (r <<< 1) ^^^ 0x1021 else r <<< 1

/-- One byte: combined into the upper eight bits, then eight steps (R5, steps 2 and 3). -/
def crcByte (r : Word) (b : Byte) : Word := Nat.iterate crcStep 8 (r ^^^ (b.zeroExtend 16 <<< 8))

/-- The CRC-16 of a sequence of bytes (R5). -/
def crc16 (bytes : List Byte) : Word := bytes.foldl crcByte 0xFFFF

/-- The two bytes of a 16-bit field. -/
def wordBytes (w : Word) : List Byte := [w.extractLsb' 8 8, w.extractLsb' 0 8]

/-- The four bytes of a 32-bit field. -/
def tagBytes (t : Tag) : List Byte :=
  [t.extractLsb' 24 8, t.extractLsb' 16 8, t.extractLsb' 8 8, t.extractLsb' 0 8]

/-- The 16-bit field of two bytes. -/
def wordOf (hi lo : Byte) : Word := (hi ++ lo : BitVec (8 + 8))

/-- The 32-bit field of four bytes. -/
def tagOf (a b c d : Byte) : Tag := (a ++ b ++ c ++ d : BitVec (8 + 8 + 8 + 8))

/-- A number as a byte. -/
def natByte (n : Nat) : Byte := BitVec.ofNat 8 n

/-- A number as a 16-bit field. -/
def natWord (n : Nat) : Word := BitVec.ofNat 16 n

/-- Yes or no as a byte (11). -/
def boolByte (b : Bool) : Byte := if b then 1 else 0

/-- A byte that holds yes or no; any other value is out of range (R181). -/
def byteBool (b : Byte) : Option Bool :=
  if b = 0 then some false else if b = 1 then some true else none

end Sys2Proof.Machine
end

