-- ==== Sys2Proof/Machine/Flags.lean ====
section
/-! DEFINITION. Counters, notices, ATTN and the other outputs that follow the state. -/

namespace Sys2Proof.Machine

open Sys2Proof

/-- Counters are 16-bit and stop at 65535 (R105, R141, R157). -/
def satInc (c : Word) : Word := if c = 65535 then c else c + 1

/-! ## Notices (9.3) -/

/-- The twelve notices, in the notice order of chapter 9. -/
inductive Notice where
  | directoryChanged
  | inaugurationFailed
  | mismatch
  | claimConflict
  | endChange
  | lineFault
  | receiveReady
  | sendLoss
  | bypassChange
  | settingsDefaulted
  | storeDone
  | laneFrameError
deriving DecidableEq, Repr

/-- A notice's place in the notice order, which is its bit (R184). -/
def Notice.index : Notice → Nat
  | .directoryChanged => 0
  | .inaugurationFailed => 1
  | .mismatch => 2
  | .claimConflict => 3
  | .endChange => 4
  | .lineFault => 5
  | .receiveReady => 6
  | .sendLoss => 7
  | .bypassChange => 8
  | .settingsDefaulted => 9
  | .storeDone => 10
  | .laneFrameError => 11

/-- The mark of one notice. -/
def Notice.mark (n : Notice) : BitVec 12 := 1 <<< n.index

/-- RECEIVE-READY follows the receive queue and has no mark of its own (R166). -/
def LanePort.raise (n : Notice) (p : LanePort) : LanePort :=
  if n = .receiveReady then p else { p with notices := p.notices ||| n.mark }

/-- The pending set of a lane: its marks, and RECEIVE-READY as its receive queue makes it (R165, R166). -/
def LanePort.pendingSet (p : LanePort) : BitVec 12 :=
  (p.notices &&& ~~~Notice.receiveReady.mark) |||
    (if p.receiveQueue.isEmpty then 0 else Notice.receiveReady.mark)

/-- The reported set: pending and enabled (R167). -/
def LanePort.reportedSet (p : LanePort) : BitVec 12 := p.pendingSet &&& p.mask

/-- The summary: some notice is reported (R167). -/
def LanePort.summary (p : LanePort) : Bool := p.reportedSet != 0

/-- Each notice named, but for RECEIVE-READY, becomes not pending (R167). -/
def LanePort.clear (named : BitVec 12) (p : LanePort) : LanePort :=
  { p with notices := p.notices &&& ~~~named }

/-- The ATTN output of a lane port: asserted while the summary is yes, but released while LRST is asserted
(R168, R169). -/
def LanePort.attn (p : LanePort) : Bool := p.summary && !p.lrst

/-! ## Losses (R140) -/

/-- The reasons of a loss (R140). -/
inductive LossReason where
  | consistChanged
  | linkDown
  | noAnswer
  | refused
  | congested
  | bypass
deriving DecidableEq, Repr

/-- The loss counter of a reason is incremented (R141). -/
def LossCounters.count (r : LossReason) (c : LossCounters) : LossCounters :=
  match r with
  | .consistChanged => { c with consistChanged := satInc c.consistChanged }
  | .linkDown => { c with linkDown := satInc c.linkDown }
  | .noAnswer => { c with noAnswer := satInc c.noAnswer }
  | .refused => { c with refused := satInc c.refused }
  | .congested => { c with congested := satInc c.congested }
  | .bypass => { c with bypass := satInc c.bypass }

/-- A loss charged to a lane: its counter and SEND-LOSS (R140). -/
def LanePort.lose (r : LossReason) (p : LanePort) : LanePort :=
  LanePort.raise .sendLoss { p with losses := p.losses.count r }

/-! ## Predicates read in many places -/

/-- An end is identified when it is UNADMITTED or ADMITTED (R19). -/
def EndState.identified : EndState → Bool
  | .unadmitted => true
  | .admitted => true
  | .opened => false
  | .coupling => false

/-- The line takes and sends frames (R66, R89). -/
def LineUnit.isActive (n : LineUnit) : Bool := n.state == .active

/-- The line is in pattern hold (R79). -/
def LineUnit.inHold (n : LineUnit) : Bool := n.holdTimer.running

/-- A line is selectable for a first send: ACTIVE, not recentring and not in pattern hold (R87). -/
def LineUnit.selectable (n : LineUnit) : Bool := n.isActive && n.recentre == .none && !n.inHold

/-- Past DARK: SETTLING, TRAINING, ACTIVE or FAILED (R83). SILENT is never held (R72). -/
def LineUnit.pastDark (n : LineUnit) : Bool := n.state != .dark

/-- Some line of the end is ACTIVE. -/
def EndUnit.anyActive (u : EndUnit) : Bool := u.lineA.isActive || u.lineB.isActive

/-- The relay drive is applied in RELEASING and OFF (8.1). -/
def BypassState.drivesRelay : BypassState → Bool
  | .releasing => true
  | .off => true
  | .engaged => false
  | .engaging => false

/-- The relay drive output (R143). -/
def State.relayDriven (s : State) : Bool := s.bypass.state.drivesRelay

/-- What a transmit side sends: nothing, training pattern, or a frame (R66). -/
inductive LineOutput where
  | silent
  | pattern
  | frame (f : LineFrame)
deriving DecidableEq, Repr

/-- The transmit side of a line (R66): silent unless the bypass is OFF; frames only in ACTIVE and not in pattern
hold; pattern otherwise and as fill. -/
def LineUnit.output (b : BypassState) (n : LineUnit) : LineOutput :=
  if b != .off then .silent
  else if n.isActive && !n.inHold then
    match n.tx.sending with
    | some f => .frame f
    | none => .pattern
  else .pattern

end Sys2Proof.Machine
end

