-- ==== Sys2Proof/Machine/Ops.lean ====
section
/-! DEFINITION. Named access to the parts of the state: an end, a line, a lane; notices and losses at the node;
the lane and end queues. -/

namespace Sys2Proof.Machine

open Sys2Proof

/-! ## Access -/

/-- A line of an end. -/
def EndUnit.line (u : EndUnit) : LineId → LineUnit
  | .lineA => u.lineA
  | .lineB => u.lineB

/-- An end with one line replaced. -/
def EndUnit.setLine (u : EndUnit) (x : LineId) (n : LineUnit) : EndUnit :=
  match x with
  | .lineA => { u with lineA := n }
  | .lineB => { u with lineB := n }

/-- An end with one line changed. -/
def EndUnit.modLine (u : EndUnit) (x : LineId) (f : LineUnit → LineUnit) : EndUnit := u.setLine x (f (u.line x))

/-- An end of the node. -/
def State.endUnit (s : State) : EndId → EndUnit
  | .end1 => s.end1
  | .end2 => s.end2

/-- The node with one end replaced. -/
def State.setEnd (s : State) (e : EndId) (u : EndUnit) : State :=
  match e with
  | .end1 => { s with end1 := u }
  | .end2 => { s with end2 := u }

/-- The node with one end changed. -/
def State.modEnd (s : State) (e : EndId) (f : EndUnit → EndUnit) : State := s.setEnd e (f (s.endUnit e))

/-- A line of the node. -/
def State.line (s : State) (e : EndId) (x : LineId) : LineUnit := (s.endUnit e).line x

/-- The node with one line changed. -/
def State.modLine (s : State) (e : EndId) (x : LineId) (f : LineUnit → LineUnit) : State :=
  s.modEnd e (fun u => u.modLine x f)

/-- What a line's transmit side sends (R66). -/
def State.lineOutput (s : State) (e : EndId) (x : LineId) : LineOutput := (s.line e x).output s.bypass.state

/-- A lane port of the node. -/
def State.lane (s : State) : LaneId → LanePort
  | .laneA => s.laneA
  | .laneB => s.laneB

/-- The node with one lane port replaced. -/
def State.setLane (s : State) (l : LaneId) (p : LanePort) : State :=
  match l with
  | .laneA => { s with laneA := p }
  | .laneB => { s with laneB := p }

/-- The node with one lane port changed. -/
def State.modLane (s : State) (l : LaneId) (f : LanePort → LanePort) : State := s.setLane l (f (s.lane l))

/-- The ATTN output of a lane (R168). -/
def State.attn (s : State) (l : LaneId) : Bool := (s.lane l).attn

/-- Some lane is attached. -/
def State.anyAttached (s : State) : Bool := s.laneA.attached || s.laneB.attached

/-- The node's own tag: the TAG of the working copy (R2, R172). -/
def State.ownTag (s : State) : Tag := s.store.working.tag

/-! ## Notices and losses -/

/-- A notice raised to one lane (R165). -/
def State.raise (s : State) (n : Notice) (l : LaneId) : State := s.modLane l (LanePort.raise n)

/-- A notice raised to both lanes (R165). -/
def State.raiseBoth (s : State) (n : Notice) : State := (s.raise n .laneA).raise n .laneB

/-- A loss charged to a lane (R140). -/
def State.lose (s : State) (r : LossReason) (l : LaneId) : State := s.modLane l (LanePort.lose r)

/-- A class queue record given up: a loss when it is LOCAL, nothing otherwise (R140). -/
def State.loseRecord (s : State) (r : LossReason) (d : DataRecord) : State :=
  match d.origin with
  | .through => s
  | .local_ lane _ _ => s.lose r lane

/-- A frame of the sender given up: a loss when it is a LOCAL DATA frame (R97 to R101). -/
def State.loseHeld (s : State) (r : LossReason) (f : HeldFrame) : State :=
  match f with
  | .control _ => s
  | .data d => s.loseRecord r d

/-- One end counter changed. -/
def State.count (s : State) (e : EndId) (f : EndCounters → EndCounters) : State :=
  s.modEnd e (fun u => { u with counters := f u.counters })

/-- A frame in no-answer: a LINK-DOWN or NO-ANSWER outcome, or a dropped through frame (R105). -/
def EndCounters.addNoAnswer (c : EndCounters) : EndCounters := { c with noAnswer := satInc c.noAnswer }
/-- A DATA frame dropped as a misroute (R105). -/
def EndCounters.addMisroute (c : EndCounters) : EndCounters := { c with misroutes := satInc c.misroutes }
/-- A DATA frame refused STALE, or a stale through frame dropped at commit (R105). -/
def EndCounters.addStale (c : EndCounters) : EndCounters := { c with stale := satInc c.stale }
/-- A control or DATA frame that ended ACCEPT (R105). -/
def EndCounters.addFrameSent (c : EndCounters) : EndCounters := { c with framesSent := satInc c.framesSent }
/-- A matching HOLD (R105). -/
def EndCounters.addHold (c : EndCounters) : EndCounters := { c with holds := satInc c.holds }
/-- A matching REFUSE (R105). -/
def EndCounters.addRefusal (c : EndCounters) : EndCounters := { c with refusals := satInc c.refusals }
/-- A frame that ended CONGESTED (R105). -/
def EndCounters.addCongested (c : EndCounters) : EndCounters := { c with congested := satInc c.congested }
/-- A control frame dropped at a full control queue (R141). -/
def EndCounters.addControlDrop (c : EndCounters) : EndCounters := { c with controlDrops := satInc c.controlDrops }

/-- A frame failing the frame check, or a malformed BEACON or reply (R90, R91). -/
def State.countCheckError (s : State) (e : EndId) (x : LineId) : State :=
  s.modLine e x (fun n => { n with checkErrors := satInc n.checkErrors })

/-! ## Class queues (R122, R129) -/

/-- The class queue of a class. -/
def EndQueues.classQueue (q : EndQueues) : TrafficClass → List DataRecord
  | .command => q.command
  | .process => q.process
  | .bulk => q.bulk

/-- The queues with one class queue replaced. -/
def EndQueues.setClassQueue (q : EndQueues) (c : TrafficClass) (rs : List DataRecord) : EndQueues :=
  match c with
  | .command => { q with command := rs }
  | .process => { q with process := rs }
  | .bulk => { q with bulk := rs }

/-- Capacity of a class queue (R122). -/
def TrafficClass.capacity : TrafficClass → Nat
  | .command => Config.commandCapacity
  | .process => Config.processCapacity
  | .bulk => Config.bulkCapacity

/-- The class queue has a free place. -/
def EndQueues.hasRoom (q : EndQueues) (c : TrafficClass) : Bool := (q.classQueue c).length < c.capacity

/-- A record joins the tail of the class queue of its class (R122). -/
def EndQueues.push (q : EndQueues) (d : DataRecord) : EndQueues :=
  q.setClassQueue d.frame.cls (q.classQueue d.frame.cls ++ [d])

/-- A record joins a class queue of an end. -/
def State.enqueue (s : State) (e : EndId) (d : DataRecord) : State :=
  s.modEnd e (fun u => { u with queues := u.queues.push d })

/-- The end is ADMITTED. -/
def State.admitted (s : State) (e : EndId) : Bool := (s.endUnit e).state == .admitted

/-- The end is identified (R19). -/
def State.identified (s : State) (e : EndId) : Bool := (s.endUnit e).state.identified

/-! ## Local delivery (R133 to R135) -/

/-- An entry is of class COMMAND. -/
def ReceiveEntry.isCommand (r : ReceiveEntry) : Bool := r.cls == .command

/-- The queue without its oldest entry whose class is not COMMAND (R134). -/
def dropOldestOther : List ReceiveEntry → List ReceiveEntry
  | [] => []
  | r :: rs => if r.isCommand then r :: dropOldestOther rs else rs

/-- An entry arrives at a lane's receive queue (R134). -/
def LanePort.receive (r : ReceiveEntry) (p : LanePort) : LanePort :=
  if p.receiveQueue.length < Config.receiveCapacity then { p with receiveQueue := p.receiveQueue ++ [r] }
  else if r.isCommand && !(p.receiveQueue.all ReceiveEntry.isCommand) then
    { p with
      receiveQueue := dropOldestOther p.receiveQueue ++ [r]
      receiveDisplacements := satInc p.receiveDisplacements }
  else { p with receiveDrops := satInc p.receiveDrops }

/-- The lane is attached and its receive queue can take no COMMAND entry (R130). -/
def LanePort.fullOfCommand (p : LanePort) : Bool :=
  p.attached && decide (Config.receiveCapacity ≤ p.receiveQueue.length) &&
    p.receiveQueue.all ReceiveEntry.isCommand

/-- An entry arrives at the lane if it is attached (R133). -/
def LanePort.deliver (r : ReceiveEntry) (p : LanePort) : LanePort := if p.attached then p.receive r else p

/-- One delivery to every attached lane (R133), or one count of no-listener (R135). -/
def State.deliver (s : State) (r : ReceiveEntry) : State :=
  if s.anyAttached then (s.modLane .laneA (LanePort.deliver r)).modLane .laneB (LanePort.deliver r)
  else { s with noListener := satInc s.noListener }

end Sys2Proof.Machine
end

