-- ==== Sys2Proof/Machine/Operands.lean ====
section
/-! DEFINITION. The layouts of chapter 11: codes, directory entries, coupler frames, request bodies, replies,
training records and settings; each read and written in one place. -/

namespace Sys2Proof.Machine

open Sys2Proof

/-! ## Codes (11.1) -/

def TrafficClass.code : TrafficClass → Byte
  | .command => 0x01
  | .process => 0x02
  | .bulk => 0x03

/-- A class byte; any other value is out of range (R181). -/
def decodeClass (b : Byte) : Option TrafficClass :=
  if b = 0x01 then some .command else if b = 0x02 then some .process else if b = 0x03 then some .bulk else none

def Orientation.code : Orientation → Byte
  | .direct => 0x00
  | .reversed => 0x01

/-- An orientation byte (R181). -/
def decodeOrientation (b : Byte) : Option Orientation :=
  if b = 0x00 then some .direct else if b = 0x01 then some .reversed else none

def endCode : EndId → Byte
  | .end1 => 0x01
  | .end2 => 0x02

/-- An end byte (R181). -/
def decodeEnd (b : Byte) : Option EndId :=
  if b = 0x01 then some .end1 else if b = 0x02 then some .end2 else none

def lineLetterCode : LineId → Byte
  | .lineA => 0x00
  | .lineB => 0x01

/-- The line letter of a PATTERN-REQUEST (11.3). -/
def decodeLineLetter (b : Byte) : Option LineId :=
  if b = 0x00 then some .lineA else if b = 0x01 then some .lineB else none

/-- The code of one of the four lines (11.1). -/
def lineCode : EndId → LineId → Byte
  | .end1, .lineA => 0x00
  | .end1, .lineB => 0x01
  | .end2, .lineA => 0x02
  | .end2, .lineB => 0x03

/-- A line byte of a request; any other value is out of range (R159). -/
def decodeLine (b : Byte) : Option (EndId × LineId) :=
  if b = 0x00 then some (.end1, .lineA) else if b = 0x01 then some (.end1, .lineB)
  else if b = 0x02 then some (.end2, .lineA) else if b = 0x03 then some (.end2, .lineB) else none

def EngineState.code : EngineState → Byte
  | .quiet => 0x00
  | .alerted => 0x01
  | .leading => 0x02
  | .relaying => 0x03
  | .closed => 0x04
  | .mismatch => 0x05
  | .failed => 0x06

/-- An engine state byte (R181). -/
def decodeEngineState (b : Byte) : Option EngineState :=
  if b = 0x00 then some .quiet else if b = 0x01 then some .alerted else if b = 0x02 then some .leading
  else if b = 0x03 then some .relaying else if b = 0x04 then some .closed else if b = 0x05 then some .mismatch
  else if b = 0x06 then some .failed else none

def EndState.code : EndState → Byte
  | .opened => 0x00
  | .coupling => 0x01
  | .unadmitted => 0x02
  | .admitted => 0x03

def mismatchCode : Option MismatchCause → Byte
  | none => 0x00
  | some .localCause => 0x01
  | some .remoteCause => 0x02

def BypassState.code : BypassState → Byte
  | .engaged => 0x00
  | .releasing => 0x01
  | .off => 0x02
  | .engaging => 0x03

def LatchedCause.code : LatchedCause → Byte
  | .none => 0x00
  | .integrityTag => 0x01
  | .integrityDirectory => 0x02
  | .integritySettings => 0x03

def ResetCause.code : ResetCause → Byte
  | .powerOn => 0x00
  | .nodeReset => 0x01

def StoreActivity.code : StoreActivity → Byte
  | .loading => 0x00
  | .idle => 0x01
  | .writing => 0x02
  | .locking => 0x03

def writingLaneCode : Option LaneId → Byte
  | none => 0x00
  | some .laneA => 0x01
  | some .laneB => 0x02

def LoadOutcome.code : LoadOutcome → Byte
  | .valid => 0x00
  | .defaulted => 0x01

def DissentReason.code : DissentReason → Byte
  | .overlength => 0x01
  | .duplicateTag => 0x02
  | .entryMismatch => 0x03
  | .checkMismatch => 0x04

/-- A DISSENT's reason byte (R181). -/
def decodeDissentReason (b : Byte) : Option DissentReason :=
  if b = 0x01 then some .overlength else if b = 0x02 then some .duplicateTag
  else if b = 0x03 then some .entryMismatch else if b = 0x04 then some .checkMismatch else none

def RefuseReason.code : RefuseReason → Byte
  | .malformed => 0x01
  | .notAdmitted => 0x02
  | .stale => 0x03

/-- A REFUSE's reason byte (R181). -/
def decodeRefuseReason (b : Byte) : Option RefuseReason :=
  if b = 0x01 then some .malformed else if b = 0x02 then some .notAdmitted
  else if b = 0x03 then some .stale else none

def ResultCode.code : ResultCode → Byte
  | .done => 0x00
  | .empty => 0x01
  | .full => 0x02
  | .busy => 0x03
  | .badFrame => 0x04
  | .badRequest => 0x05
  | .detached => 0x06
  | .noDirectory => 0x07
  | .outOfConsist => 0x08
  | .unknownTag => 0x09
  | .inhibited => 0x0A
  | .locked => 0x0B
  | .storeBusy => 0x0C

def LineState.code : LineState → Byte
  | .dark => 0x00
  | .settling => 0x01
  | .training => 0x02
  | .active => 0x03
  | .silent => 0x04
  | .failed => 0x05

def TrainingCause.code : TrainingCause → Byte
  | .none => 0x00
  | .settle => 0x01
  | .silent => 0x02
  | .recentre => 0x03
  | .retrainRequest => 0x04

def SweepOutcome.code : SweepOutcome → Byte
  | .none => 0x00
  | .pass => 0x01
  | .noPass => 0x02
  | .narrow => 0x03

def RecentreOutcome.code : RecentreOutcome → Byte
  | .none => 0x00
  | .moved => 0x01
  | .retrain => 0x02
  | .abandoned => 0x03

/-! ## The directory entry (11.2) -/

/-- Byte 7 of an entry: bit 0 car kind, bit 1 claim (R182). An INTERMEDIATE car's absent claim is encoded as bit 1
clear. -/
def kindByte (k : CarKind) (claim : Bool) : Byte :=
  match k, claim with
  | .intermediate, _ => 0x00
  | .cab, false => 0x01
  | .cab, true => 0x03

/-- The eight bytes of an entry (11.2). -/
def Entry.bytes (n : Entry) : List Byte :=
  natByte n.position :: tagBytes n.tag ++ [n.orientation.code, natByte n.unit, kindByte n.kind n.claim]

/-- The ten bytes of a listed entry: the entry and its prior generation (11.2). -/
def ListedEntry.bytes (n : ListedEntry) : List Byte := n.entry.bytes ++ wordBytes n.prior

/-- Car kind and claim of byte 7: bits 2..7 are unused, and an INTERMEDIATE car with a claim is out of range
(R182). -/
def decodeKind (b : Byte) : Option (CarKind × Bool) :=
  match b.getLsbD 0, b.getLsbD 1 with
  | false, false => some (.intermediate, false)
  | true, c => some (.cab, c)
  | false, true => none

/-- A unit number is 0..99 (11.2). -/
def decodeUnit (b : Byte) : Option Nat := if b.toNat ≤ 99 then some b.toNat else none

/-- `k` listed entries whose positions run on from `at_`, none with tag 0 (R183); answers the bytes that
follow. -/
def decodeListed : Nat → Nat → List Byte → Option (List ListedEntry × List Byte)
  | 0, _, bytes => some ([], bytes)
  | k + 1, at_, p :: t0 :: t1 :: t2 :: t3 :: o :: u :: kc :: g0 :: g1 :: rest => do
    let tag := tagOf t0 t1 t2 t3
    if p.toNat ≠ at_ ∨ tag = 0 then none
    else
      let orientation ← decodeOrientation o
      let unit ← decodeUnit u
      let (kind, claim) ← decodeKind kc
      let (more, left) ← decodeListed k (at_ + 1) rest
      some ({ entry := { position := at_, tag := tag, orientation := orientation, unit := unit, kind := kind,
                         claim := claim }, prior := wordOf g0 g1 } :: more, left)
  | _ + 1, _, _ => none

/-- An attempt identifier's six bytes (11.1). -/
def AttemptId.bytes (a : AttemptId) : List Byte := tagBytes a.tag ++ [boolByte a.claim, a.number]

/-- An attempt identifier at the head of a body; a starter tag is nonzero (log 17). -/
def decodeAttempt : List Byte → Option (AttemptId × List Byte)
  | t0 :: t1 :: t2 :: t3 :: c :: n :: rest => do
    let claim ← byteBool c
    let tag := tagOf t0 t1 t2 t3
    if tag = 0 then none else some ({ tag := tag, claim := claim, number := n }, rest)
  | _ => none

/-! ## Coupler frames (11.3) -/

/-- The kind byte of each frame kind. -/
def kindBeacon : Byte := 0x01
def kindPatternRequest : Byte := 0x02
def kindAlert : Byte := 0x10
def kindTally : Byte := 0x11
def kindClosure : Byte := 0x12
def kindCommit : Byte := 0x13
def kindDissent : Byte := 0x14
def kindDefer : Byte := 0x15
def kindData : Byte := 0x20
def kindAccept : Byte := 0x30
def kindHold : Byte := 0x31
def kindRefuse : Byte := 0x32

/-- The frame passes the frame check: it was not cut short, and the CRC-16 over its header and body equals the
check carried (R90). -/
def framePasses (kind : Byte) (f : RawFrame) : Bool :=
  decide (f.body.length = f.length.toNat) && f.check == some (crc16 (kind :: f.flags :: f.length :: f.body))

/-- The sequence bit: bit 0 of the flags byte (11.3). -/
def frameBit (f : RawFrame) : Bool := f.flags.getLsbD 0

/-- A BEACON's body (11.3, R92). -/
def decodeBeacon : List Byte → Option PeerId
  | [t0, t1, t2, t3, e, g0, g1, q] => do
    let tag := tagOf t0 t1 t2 t3
    let peerEnd ← decodeEnd e
    let quiet ← byteBool q
    if tag = 0 then none else some { tag := tag, peerEnd := peerEnd, generation := wordOf g0 g1, quiet := quiet }
  | _ => none

/-- A PATTERN-REQUEST's body. -/
def decodePatternRequest : List Byte → Option LineId
  | [b] => decodeLineLetter b
  | _ => none

/-- The fields of an ALERT (R28). -/
structure AlertBody where
  originator : Tag
  hops : Nat
  restart : Bool
  sender : EngineState
deriving DecidableEq, Repr

/-- An ALERT's body: hop count 1..24 (11.3). -/
def decodeAlert : List Byte → Option AlertBody
  | [t0, t1, t2, t3, h, r, st] => do
    let tag := tagOf t0 t1 t2 t3
    let restart ← byteBool r
    let sender ← decodeEngineState st
    if tag = 0 ∨ h.toNat < 1 ∨ Config.maxHops < h.toNat then none
    else some { originator := tag, hops := h.toNat, restart := restart, sender := sender }
  | _ => none

/-- A TALLY's body: k in 1..24 listed entries (11.3, R183). -/
def decodeTally (body : List Byte) : Option (AttemptId × List ListedEntry) := do
  let (attempt, rest) ← decodeAttempt body
  match rest with
  | [] => none
  | k :: rest =>
    if k.toNat < 1 ∨ Config.maxConsist < k.toNat then none
    else
      let (entries, left) ← decodeListed k.toNat 1 rest
      if left = [] then some (attempt, entries) else none

/-- A CLOSURE's body: N in 1..24 listed entries and the check value (11.3, R183). -/
def decodeClosure (body : List Byte) : Option (AttemptId × List ListedEntry × Word) := do
  let (attempt, rest) ← decodeAttempt body
  match rest with
  | [] => none
  | n :: rest =>
    if n.toNat < 1 ∨ Config.maxConsist < n.toNat then none
    else
      let (entries, left) ← decodeListed n.toNat 1 rest
      match left with
      | [c0, c1] => some (attempt, entries, wordOf c0 c1)
      | _ => none

/-- A COMMIT's body: attempt, generation 1..65535, check value (11.3). -/
def decodeCommit (body : List Byte) : Option (AttemptId × Word × Word) := do
  let (attempt, rest) ← decodeAttempt body
  match rest with
  | [g0, g1, c0, c1] => if wordOf g0 g1 = 0 then none else some (attempt, wordOf g0 g1, wordOf c0 c1)
  | _ => none

/-- A DISSENT's body (11.3). -/
def decodeDissent (body : List Byte) : Option (AttemptId × DissentReason) := do
  let (attempt, rest) ← decodeAttempt body
  match rest with
  | [r] => do
    let reason ← decodeDissentReason r
    some (attempt, reason)
  | _ => none

/-- A DEFER's body (11.3). -/
def decodeDefer (body : List Byte) : Option (AttemptId × Tag) := do
  let (attempt, rest) ← decodeAttempt body
  match rest with
  | [t0, t1, t2, t3] => if tagOf t0 t1 t2 t3 = 0 then none else some (attempt, tagOf t0 t1 t2 t3)
  | _ => none

/-- A DATA frame's body (11.3). -/
def decodeData : List Byte → Option DataFrame
  | t :: h :: o :: g0 :: g1 :: c :: n :: payload => do
    let cls ← decodeClass c
    if Config.maxConsist < t.toNat ∨ h.toNat < 1 ∨ 23 < h.toNat ∨ o.toNat < 1 ∨ Config.maxConsist < o.toNat
        ∨ wordOf g0 g1 = 0 ∨ n.toNat < 1 ∨ 64 < n.toNat ∨ payload.length ≠ n.toNat then none
    else some { target := t.toNat, hops := h.toNat, origin := o.toNat, generation := wordOf g0 g1, cls := cls,
                payload := payload }
  | _ => none

/-- An ACCEPT or HOLD has no body (11.3). -/
def decodeNoBody : List Byte → Option Unit
  | [] => some ()
  | _ => none

/-- A REFUSE's body (11.3). -/
def decodeRefuse : List Byte → Option RefuseReason
  | [r] => decodeRefuseReason r
  | _ => none

/-- Kind and body of a control frame on the line (11.3). -/
def ControlFrame.encode : ControlFrame → Byte × List Byte
  | .patternRequest x _ => (kindPatternRequest, [lineLetterCode x])
  | .alert o h r st => (kindAlert, tagBytes o ++ [natByte h, boolByte r, st.code])
  | .tally a ns => (kindTally, a.bytes ++ natByte ns.length :: ns.flatMap ListedEntry.bytes)
  | .closure a ns c =>
    (kindClosure, a.bytes ++ natByte ns.length :: ns.flatMap ListedEntry.bytes ++ wordBytes c)
  | .commit a g c => (kindCommit, a.bytes ++ wordBytes g ++ wordBytes c)
  | .dissent a r => (kindDissent, a.bytes ++ [r.code])
  | .defer a t => (kindDefer, a.bytes ++ tagBytes t)

/-- Body of a DATA frame on the line (11.3). -/
def DataFrame.body (d : DataFrame) : List Byte :=
  [natByte d.target, natByte d.hops, natByte d.origin] ++ wordBytes d.generation ++
    [d.cls.code, natByte d.payload.length] ++ d.payload

/-- Kind, sequence bit and body of a frame on the line (11.3). A beacon has no sequence bit; it is sent as 0
(R181). -/
def LineFrame.parts : LineFrame → Byte × Bool × List Byte
  | .beacon t e g q => (kindBeacon, false, tagBytes t ++ endCode e :: wordBytes g ++ [boolByte q])
  | .held bit (.control f) => (f.encode.1, bit, f.encode.2)
  | .held bit (.data d) => (kindData, bit, d.frame.body)
  | .reply bit .accept => (kindAccept, bit, [])
  | .reply bit .hold => (kindHold, bit, [])
  | .reply bit (.refuse r) => (kindRefuse, bit, [r.code])

/-- The raw frame of a body: flags, length and frame check as sent (R181). -/
def rawFrameOf (kind : Byte) (bit : Bool) (body : List Byte) : RawFrame :=
  let flags : Byte := boolByte bit
  let length : Byte := natByte body.length
  { flags := flags, length := length, body := body, check := some (crc16 (kind :: flags :: length :: body)) }

/-- The bytes of a frame on the line (11.3). -/
def LineFrame.bytes (f : LineFrame) : List Byte :=
  let (kind, bit, body) := f.parts
  let head := kind :: boolByte bit :: natByte body.length :: body
  head ++ wordBytes (crc16 head)

/-! ## Lane frames (11.4) -/

/-- The code of each request. -/
def codeNull : Byte := 0x00
def codeAttach : Byte := 0x01
def codeDetach : Byte := 0x02
def codeSetVotes : Byte := 0x03
def codeSend : Byte := 0x04
def codeFetch : Byte := 0x05
def codeReadDirectory : Byte := 0x06
def codeReadNode : Byte := 0x07
def codeReadLines : Byte := 0x08
def codeReadCounters : Byte := 0x09
def codeReadNotices : Byte := 0x0A
def codeClearNotices : Byte := 0x0B
def codeSetMask : Byte := 0x0C
def codeStartInauguration : Byte := 0x0D
def codeRetrainLine : Byte := 0x0E
def codeReadSetting : Byte := 0x0F
def codeWriteSetting : Byte := 0x10
def codeLockCommissioning : Byte := 0x11

/-- The kind is one of the eighteen requests (R159). -/
def knownRequest (kind : Byte) : Bool := decide (kind.toNat ≤ 0x11)

/-- A reply frame: result, length, body and frame check (R157, 11.4). -/
def Reply.frame (r : Reply) : List Byte :=
  let head := r.result.code :: natByte r.body.length :: r.body
  head ++ wordBytes (crc16 head)

/-- A request frame, as a lane controller forms it (11.4). -/
def requestFrame (kind : Byte) (body : List Byte) : List Byte :=
  let head := kind :: natByte body.length :: body
  head ++ wordBytes (crc16 head)

/-- The framing check of R157: kind and body of the request frame at the head of a transaction's bytes, or nothing
when the framing fails. -/
def parseRequest : List Byte → Option (Byte × List Byte)
  | kind :: len :: rest =>
    if 72 < len.toNat ∨ rest.length < len.toNat + 2 then none
    else
      let body := rest.take len.toNat
      match rest.drop len.toNat with
      | c0 :: c1 :: _ => if wordOf c0 c1 = crc16 (kind :: len :: body) then some (kind, body) else none
      | _ => none
  | _ => none

/-- The body of SET-VOTES (R184). -/
def decodeVotes : List Byte → Option Votes
  | [i, c, b] => do
    let inhibit ← byteBool i
    let claim ← byteBool c
    let bypass ← byteBool b
    some { inhibit := inhibit, claim := claim, bypass := bypass }
  | _ => none

/-- A SEND's address: the mode and its operand, or nothing when the address fails its form (R106, R184). -/
def decodeAddress (mode : Byte) (operand : Tag) : Option Address :=
  if mode = 0x01 then
    if operand.toNat < 1 ∨ Config.maxConsist < operand.toNat then none else some (.position operand.toNat)
  else if mode = 0x02 then
    if operand.toInt < -23 ∨ 23 < operand.toInt then none else some (.offset operand.toInt)
  else if mode = 0x03 then some (.tag operand)
  else if mode = 0x04 then some .broadcast
  else none

/-- What a SEND names (R124). -/
structure Message where
  address : Address
  cls : TrafficClass
  payload : List Byte
deriving DecidableEq, Repr

/-- The body of a SEND, or nothing when its form fails (R124, R184). -/
def decodeSend : List Byte → Option Message
  | mode :: o0 :: o1 :: o2 :: o3 :: c :: n :: payload => do
    let cls ← decodeClass c
    let address ← decodeAddress mode (tagOf o0 o1 o2 o3)
    if n.toNat < 1 ∨ 64 < n.toNat ∨ payload.length ≠ n.toNat then none
    else some { address := address, cls := cls, payload := payload }
  | _ => none

/-- A set of notices: two bytes, the notice order counted from bit 0 of byte 1; bits 4..7 of byte 0 are unused
(R184). -/
def decodeNoticeSet : List Byte → Option (BitVec 12)
  | [b0, b1] => some ((wordOf b0 b1).setWidth 12)
  | _ => none

/-- The two bytes of a set of notices (R184). -/
def noticeBytes (n : BitVec 12) : List Byte := wordBytes (n.setWidth 16)

/-! ## The settings layout (11.6) and the codes of the settings records (R184) -/

/-- An offset's byte: bit 7 direction, bits 0..3 magnitude (11.6). -/
def Offset.byte (o : Offset) : Byte := (if o.subtract then 0x80 else 0x00) ||| natByte o.magnitude

/-- Fourteen bytes: the settings area's layout (11.6). -/
def Settings.areaBytes (w : Settings) : List Byte :=
  [natByte w.unit, match w.kind with | .intermediate => 0x00 | .cab => 0x01,
   w.offset1A.byte, w.offset1B.byte, w.offset2A.byte, w.offset2B.byte, natByte w.wmin] ++
  wordBytes (natWord w.settle) ++ natByte w.beacon :: wordBytes (natWord w.reliefProcess) ++
  wordBytes (natWord w.reliefBulk)

/-- Eighteen bytes: the layout over which the load check is formed (R172, 11.6). -/
def Settings.bytes (w : Settings) : List Byte := tagBytes w.tag ++ w.areaBytes

/-- The load check of a working copy (R172). -/
def Settings.loadCheck (w : Settings) : Word := crc16 w.bytes

/-- An offset byte; bits 4..6 are unused (11.6). -/
def decodeOffset (b : Byte) : Offset := { subtract := b.getLsbD 7, magnitude := (b &&& 0x0F).toNat }

/-- A car kind byte of the settings area (11.6). -/
def decodeCarKind (b : Byte) : Option CarKind :=
  if b = 0x00 then some .intermediate else if b = 0x01 then some .cab else none

/-- The stored records of the settings area, when every value lies within its range and SETTLE is a multiple of 10
(R174). -/
def decodeArea (tag : Tag) : List Byte → Option Settings
  | [u, k, o1, o2, o3, o4, w, s0, s1, b, p0, p1, q0, q1] => do
    let unit ← decodeUnit u
    let kind ← decodeCarKind k
    let settle := (wordOf s0 s1).toNat
    let reliefProcess := (wordOf p0 p1).toNat
    let reliefBulk := (wordOf q0 q1).toNat
    if w.toNat < 4 ∨ 40 < w.toNat ∨ settle < 50 ∨ 2000 < settle ∨ settle % 10 ≠ 0 ∨ b.toNat < 5 ∨ 100 < b.toNat
        ∨ reliefProcess < 1 ∨ 1023 < reliefProcess ∨ reliefBulk < 1 ∨ 1023 < reliefBulk then none
    else some { tag := tag, unit := unit, kind := kind, offset1A := decodeOffset o1, offset1B := decodeOffset o2,
                offset2A := decodeOffset o3, offset2B := decodeOffset o4, wmin := w.toNat, settle := settle,
                beacon := b.toNat, reliefProcess := reliefProcess, reliefBulk := reliefBulk }
  | _ => none

/-- The settings records a lane may name (R172, R184). -/
inductive SettingRecord where
  | tag
  | unit
  | kind
  | offset (e : EndId) (x : LineId)
  | wmin
  | settle
  | beacon
  | reliefProcess
  | reliefBulk
  | status
deriving DecidableEq, Repr

/-- A record code (R184). -/
def decodeRecord (b : Byte) : Option SettingRecord :=
  if b = 0x00 then some .tag else if b = 0x01 then some .unit else if b = 0x02 then some .kind
  else if b = 0x03 then some (.offset .end1 .lineA) else if b = 0x04 then some (.offset .end1 .lineB)
  else if b = 0x05 then some (.offset .end2 .lineA) else if b = 0x06 then some (.offset .end2 .lineB)
  else if b = 0x07 then some .wmin else if b = 0x08 then some .settle else if b = 0x09 then some .beacon
  else if b = 0x0A then some .reliefProcess else if b = 0x0B then some .reliefBulk
  else if b = 0x80 then some .status else none

/-- The offset of a line (R172). -/
def Settings.offset (w : Settings) : EndId → LineId → Offset
  | .end1, .lineA => w.offset1A
  | .end1, .lineB => w.offset1B
  | .end2, .lineA => w.offset2A
  | .end2, .lineB => w.offset2B

/-- The settings with the offset of one line replaced. -/
def Settings.setOffset (w : Settings) (e : EndId) (x : LineId) (o : Offset) : Settings :=
  match e, x with
  | .end1, .lineA => { w with offset1A := o }
  | .end1, .lineB => { w with offset1B := o }
  | .end2, .lineA => { w with offset2A := o }
  | .end2, .lineB => { w with offset2B := o }

/-- A 16-bit offset value: direction in the high byte, magnitude in the low byte (R184). -/
def Offset.value (o : Offset) : Word := wordOf (boolByte o.subtract) (natByte o.magnitude)

/-- A record's value as READ-SETTING and WRITE-SETTING carry it (R184). TAG and STATUS are read otherwise. -/
def Settings.value (w : Settings) : SettingRecord → Word
  | .tag => 0
  | .status => 0
  | .unit => natWord w.unit
  | .kind => match w.kind with | .intermediate => 0 | .cab => 1
  | .offset e x => (w.offset e x).value
  | .wmin => natWord w.wmin
  | .settle => natWord w.settle
  | .beacon => natWord w.beacon
  | .reliefProcess => natWord w.reliefProcess
  | .reliefBulk => natWord w.reliefBulk

/-- A number clamped into a range (R177). -/
def clampNat (low high n : Nat) : Nat := max low (min high n)

/-- The settings with one record written: clamped into its range, SETTLE rounded down to a multiple of 10; nothing
when the value fails its form, or the record is TAG or STATUS (R177, R184). -/
def Settings.write (w : Settings) (r : SettingRecord) (v : Word) : Option Settings :=
  match r with
  | .tag => none
  | .status => none
  | .unit => some { w with unit := clampNat 0 99 v.toNat }
  | .kind => if v = 0 then some { w with kind := .intermediate } else if v = 1 then some { w with kind := .cab } else none
  | .offset e x => do
    let subtract ← byteBool (v.extractLsb' 8 8)
    some (w.setOffset e x { subtract := subtract, magnitude := clampNat 0 15 (v.extractLsb' 0 8).toNat })
  | .wmin => some { w with wmin := clampNat 4 40 v.toNat }
  | .settle => some { w with settle := clampNat 50 2000 v.toNat / 10 * 10 }
  | .beacon => some { w with beacon := clampNat 5 100 v.toNat }
  | .reliefProcess => some { w with reliefProcess := clampNat 1 1023 v.toNat }
  | .reliefBulk => some { w with reliefBulk := clampNat 1 1023 v.toNat }

end Sys2Proof.Machine
end

