-- ==== Sys2Proof/Machine/Directory.lean ====
section
/-! DEFINITION. The consist directory block (chapter 1): lookups, the check value, generations, the store check,
commit and clearing; and the rotation of an orientation into ends. -/

namespace Sys2Proof.Machine

open Sys2Proof

/-! ## Orientation and ends (R3) -/

/-- The up end, toward higher positions (R3). -/
def Orientation.upEnd : Orientation → EndId
  | .direct => .end2
  | .reversed => .end1

/-- The down end, toward position 1 (R3). -/
def Orientation.downEnd : Orientation → EndId
  | .direct => .end1
  | .reversed => .end2

/-! ## Reads of the active record -/

/-- The size N of the record (R1). -/
def Directory.size (d : Directory) : Nat := d.entries.length

/-- The node has a directory (R6). -/
def Directory.present (d : Directory) : Bool := d.generation != 0

/-- The lookup by position (R12). -/
def Directory.byPosition (d : Directory) (k : Nat) : Option Entry :=
  if d.present && decide (1 ≤ k) && decide (k ≤ d.size) then d.entries.find? (fun n => n.position == k) else none

/-- The lookup by tag: the position of the entry carrying it (R13). -/
def Directory.byTag (d : Directory) (t : Tag) : Option Nat :=
  if d.present && t != 0 then (d.entries.find? (fun n => n.tag == t)).map Entry.position else none

/-- The lookup of the neighbour on an end (R12). -/
def Directory.neighbour (d : Directory) (e : EndId) : Option Entry :=
  match d.ownPosition, d.ownOrientation with
  | some p, some o => if e = o.upEnd then d.byPosition (p + 1) else d.byPosition (p - 1)
  | _, _ => none

/-- The bytes the check value is taken over (R5, R182). -/
def checkBytes (entries : List Entry) : List Byte := entries.flatMap Entry.bytes

/-- The check value of a list of entries (R5). -/
def checkValue (entries : List Entry) : Word := crc16 (checkBytes entries)

/-- The origin tag of a delivered frame: 0 when the position has no entry (R13). -/
def Directory.originTag (d : Directory) (k : Nat) : Tag :=
  match d.byPosition k with
  | some n => n.tag
  | none => 0

/-! ## Generations (R6, R38) -/

/-- The successor of a generation (R6). -/
def successor (g : Word) : Word := if g = 65535 then 1 else g + 1

/-- Successors formed until one equals no prior generation (R38); `fuel` bounds the repetitions. -/
def freshFrom (priors : List Word) : Nat → Word → Word
  | 0, g => g
  | fuel + 1, g => if priors.contains g then freshFrom priors fuel (successor g) else g

/-- The greatest prior generation of a list. -/
def greatest (priors : List Word) : Word := priors.foldl (fun a b => if a.toNat < b.toNat then b else a) 0

/-- The new generation of a starter: the first successor of the greatest prior generation that equals none of them;
at most 25 successors are formed (R38). -/
def newGeneration (priors : List Word) : Word :=
  freshFrom priors Config.maxConsist (successor (greatest priors))

/-! ## Storing a candidate (R8, R9) -/

/-- The result of offering a list to the directory (R9). -/
inductive StoreResult where
  | stored
  | duplicateTag
  | form
deriving DecidableEq, Repr

/-- Some node tag appears twice. -/
def duplicateTags (entries : List ListedEntry) : Bool := !(decide (entries.map (fun n => n.entry.tag)).Nodup)

/-- The checks of R9 other than that no tag appears twice. -/
def formHolds (own : Tag) (entries : List ListedEntry) : Bool :=
  decide (1 ≤ entries.length) && decide (entries.length ≤ Config.maxConsist) &&
  decide (entries.map (fun n => n.entry.position) = (List.range entries.length).map (· + 1)) &&
  entries.all (fun n => n.entry.tag != 0) &&
  entries.all (fun n => !(n.entry.kind == .intermediate && n.entry.claim)) &&
  entries.any (fun n => n.entry.tag == own)

/-- The store check of R9. -/
def storeCheck (own : Tag) (entries : List ListedEntry) : StoreResult :=
  if !formHolds own entries then .form else if duplicateTags entries then .duplicateTag else .stored

/-- The position of the entry carrying a tag. -/
def positionOf (own : Tag) (entries : List ListedEntry) : Nat :=
  match entries.find? (fun n => n.entry.tag == own) with
  | some n => n.entry.position
  | none => 0

/-- The candidate formed from a list that passes the check: check value and own position are computed (R8, R9). -/
def candidateOf (own : Tag) (attempt : AttemptId) (entries : List ListedEntry) : Candidate :=
  { attempt := attempt, entries := entries, check := checkValue (entries.map ListedEntry.entry),
    ownPosition := positionOf own entries }

/-- A list offered as a candidate is stored, replacing any held before, or refused, which empties the candidate
(R9). -/
def State.storeCandidate (s : State) (attempt : AttemptId) (entries : List ListedEntry) : StoreResult × State :=
  match storeCheck s.ownTag entries with
  | .stored => (.stored, { s with candidate := some (candidateOf s.ownTag attempt entries) })
  | r => (r, { s with candidate := none })

/-! ## Commit and clearing (R4, R11, R16) -/

/-- More than one entry carries a claim (R4). -/
def claimConflictOf (entries : List Entry) : Bool := decide (2 ≤ (entries.filter Entry.claim).length)

/-- The active record of a committed list: prior generations dropped, derived fields formed (R4, R11). -/
def recordOf (own : Tag) (listed : List ListedEntry) (check generation : Word) : Directory :=
  let entries := listed.map ListedEntry.entry
  let mine := entries.find? (fun n => n.tag == own)
  { generation := generation, entries := entries,
    referenceTag := match entries with
      | n :: _ => n.tag
      | [] => 0,
    ownPosition := mine.map Entry.position, ownOrientation := mine.map Entry.orientation, check := check,
    claimConflict := claimConflictOf entries }

/-- A commit: the record is replaced as a whole, the candidate becomes empty, and the directory announces it to
the lanes (R11, R64). The switch and the end units take it by COMMIT_PURGE and ADMISSION_AT_COMMIT (R137). -/
def State.commitList (s : State) (listed : List ListedEntry) (check generation : Word) : State :=
  let d := recordOf s.ownTag listed check generation
  let s := { s with directory := d, candidate := none }
  let s := s.raiseBoth .directoryChanged
  if d.claimConflict then s.raiseBoth .claimConflict else s

/-- A clearing: the empty values of R1, and an empty candidate (R16). -/
def State.clearDirectory (s : State) : State := { s with directory := Directory.empty, candidate := none }

/-! ## Admission (R84, R85) -/

/-- The generation check of R85. -/
def generationCheck (d : Directory) (p : PeerId) : Bool := !p.quiet || p.generation == d.generation

/-- The end of the neighbour on an end of this node that faces this node (R84, condition 3): the neighbour on the
up end faces with its down end, the one on the down end with its up end. -/
def facingEnd (d : Directory) (e : EndId) (neighbour : Entry) : Option EndId :=
  match d.ownOrientation with
  | some o => some (if e = o.upEnd then neighbour.orientation.downEnd else neighbour.orientation.upEnd)
  | none => none

/-- Admission of a peer on an end (R84). -/
def admits (d : Directory) (e : EndId) (p : PeerId) : Bool :=
  d.present &&
  (match d.neighbour e with
    | some n => n.tag == p.tag && facingEnd d e n == some p.peerEnd && generationCheck d p
    | none => false)

end Sys2Proof.Machine
end

