-- ==== Sys2Proof/Machine/Engine.lean ====
section
/-! DEFINITION. The inauguration engine (chapters 2 and 3): its transitions, the frames it sends, its responses to
control frames, topology changes, changes of inhibit and its deadline. -/

namespace Sys2Proof.Machine

open Sys2Proof

/-! ## Sending (R20, R128) -/

/-- A control frame placed in the control queue of an end; at a full queue it is dropped and counted (R20, R128). -/
def State.sendControl (s : State) (e : EndId) (f : ControlFrame) : State :=
  if (s.endUnit e).queues.control.length < Config.controlCapacity then
    s.modEnd e (fun u => { u with queues := { u.queues with control := u.queues.control ++ [f] } })
  else s.count e EndCounters.addControlDrop

/-- A control frame sent out of each identified end, End 1 first (R20). -/
def State.sendEach (s : State) (f : ControlFrame) : State :=
  let s := if s.identified .end1 then s.sendControl .end1 f else s
  if s.identified .end2 then s.sendControl .end2 f else s

/-- No end is identified (R19). -/
def State.lone (s : State) : Bool := !s.identified .end1 && !s.identified .end2

/-- Effective inhibit (R49). -/
def State.inhibited (s : State) : Bool := s.engine.effective.inhibit

/-- An ALERT of this node's own, with hop count 1 (R28). -/
def State.alertAll (s : State) (restart : Bool) (sender : EngineState) : State :=
  s.sendEach (.alert s.ownTag 1 restart sender)

/-- An ALERT forwarded out of the other end, if that end is identified and the hop count is below 24 (R28). -/
def State.forwardAlert (s : State) (arrival : EndId) (a : AlertBody) (sender : EngineState) : State :=
  if s.identified arrival.other && decide (a.hops < Config.maxHops) then
    s.sendControl arrival.other (.alert a.originator (a.hops + 1) a.restart sender)
  else s

/-! ## Ranks (R21) -/

/-- The first attempt ranks before the second: a claiming starter first, then the lower tag (R21). -/
def AttemptId.better (a b : AttemptId) : Bool :=
  if a.claim == b.claim then decide (a.tag.toNat < b.tag.toNat) else a.claim

/-- An arriving attempt is not worse than the one in the context (R33). -/
def Engine.notWorse (g : Engine) (a : AttemptId) : Bool :=
  match g.context with
  | some c => !c.attempt.better a
  | none => true

/-! ## Transitions -/

/-- The deadline timer, started (R23). -/
def deadlineStarted : Timer := some Config.deadlineTime

/-- What the node holds of an attempt is given up: context and candidate (R25, R30, R33). -/
def State.abandon (s : State) : State :=
  { s with candidate := none, engine := { s.engine with context := none } }

/-- Entry to FAILED (R46). -/
def State.enterFailed (s : State) : State :=
  let s := s.abandon
  let s := { s with engine := { s.engine with state := .failed, deadline := none, cause := none } }
  s.raiseBoth .inaugurationFailed

/-- Entry to MISMATCH (R53). -/
def State.enterMismatch (s : State) (cause : MismatchCause) : State :=
  let s := s.abandon
  let s := { s with engine := { s.engine with state := .mismatch, deadline := none, cause := some cause } }
  s.raiseBoth .mismatch

/-- Entry to QUIET by a commit of another's attempt or a self-commit: the context is cleared and the deadline
stops (R23, R26, R40). -/
def State.enterQuiet (s : State) : State :=
  { s with engine := { s.engine with state := .quiet, context := none, deadline := none, cause := none } }

/-- The attempt count set (R22). -/
def State.setCount (s : State) (n : Nat) : State := { s with engine := { s.engine with count := n } }

/-- The entry this node appends: its settings, its effective claim on a CAB car, and its present generation as
prior generation (R2, R32). -/
def State.ownEntry (s : State) (position : Nat) (orientation : Orientation) : ListedEntry :=
  { entry := { position := position, tag := s.ownTag, orientation := orientation, unit := s.store.working.unit,
               kind := s.store.working.kind,
               claim := s.store.working.kind == .cab && s.engine.effective.claim },
    prior := s.directory.generation }

/-- A self-commit: a directory of one under the successor of the present generation (R26). No commit is made of a
list that the store check refuses (R11). -/
def State.selfCommit (s : State) : State :=
  let listed := [s.ownEntry 1 .direct]
  let s' := match storeCheck s.ownTag listed with
    | .stored => s.commitList listed (checkValue (listed.map ListedEntry.entry)) (successor s.directory.generation)
    | _ => { s with candidate := none }
  s'.enterQuiet

/-- The orientation a tally's passing gives: arrived on End 1 DIRECT, on End 2 REVERSED (R32). -/
def orientationByArrival : EndId → Orientation
  | .end1 => .direct
  | .end2 => .reversed

/-- The orientation of a starter, whose tally leaves by an end: End 2 DIRECT, End 1 REVERSED (R31). -/
def orientationByDeparture : EndId → Orientation
  | .end1 => .reversed
  | .end2 => .direct

/-- An extremity starts a tally out of its identified end (R31). -/
def State.startTally (s : State) (e : EndId) : State :=
  let number := s.engine.number + 1
  let attempt : AttemptId := { tag := s.ownTag, claim := s.engine.effective.claim, number := number }
  let s := s.sendControl e (.tally attempt [s.ownEntry 1 (orientationByDeparture e)])
  { s with engine := { s.engine with
      state := .leading, number := number, deadline := deadlineStarted, cause := none,
      context := some { attempt := attempt, role := .starter, tallyEnd := none, ownPosition := 1 } } }

/-- An ALERTED node acts by its identified ends (R27): an extremity starts a tally, a lone node self-commits, a
middle node waits; effective inhibit holds it back. -/
def State.actAlerted (s : State) : State :=
  if s.inhibited then s
  else match s.identified .end1, s.identified .end2 with
    | false, false => s.selfCommit
    | true, false => s.startTally .end1
    | false, true => s.startTally .end2
    | true, true => s

/-- Entry to ALERTED: the deadline starts, and the node acts (R23, R27). -/
def State.enterAlerted (s : State) : State :=
  State.actAlerted
    { s with engine := { s.engine with state := .alerted, deadline := deadlineStarted, cause := none } }

/-! ## Topology changes (R24, R25, R54) -/

/-- A topology change with effective inhibit off (R25, R61). -/
def State.restart (s : State) : State :=
  let s := s.abandon.setCount 1
  if s.lone then s.selfCommit else (s.alertAll true .alerted).enterAlerted

/-- A topology change with effective inhibit on (R54). -/
def State.holdChange (s : State) : State :=
  let s := if s.engine.state = .mismatch then { s with engine := { s.engine with cause := some .localCause } }
    else s.enterMismatch .localCause
  s.alertAll true .mismatch

/-- A topology change; none is taken unless the bypass is OFF (R24). -/
def State.topologyChange (s : State) : State :=
  if s.bypass.state ≠ .off then s else if s.inhibited then s.holdChange else s.restart

/-- A retry: the count is incremented, and the node fails at 5, holds under inhibit, self-commits when lone, or
sends a plain ALERT and re-enters ALERTED (R22, R59). -/
def State.retry (s : State) : State :=
  let s := s.setCount (min Config.maxAttempts (s.engine.count + 1))
  if Config.maxAttempts ≤ s.engine.count then s.enterFailed
  else if s.inhibited then s.enterMismatch .localCause
  else if s.lone then s.selfCommit
  else (s.alertAll false .alerted).enterAlerted

/-- The deadline runs out in an in-progress state (R45). -/
def State.deadlineExpired (s : State) : State := s.abandon.retry

/-! ## Changes of effective inhibit (R55, R61) -/

/-- Effective inhibit turns on (R55). -/
def State.inhibitOn (s : State) : State :=
  match s.engine.state with
  | .quiet => s
  | .closed => s
  | .failed => s
  | .mismatch => { s with engine := { s.engine with cause := some .localCause } }
  | .alerted => s.enterMismatch .localCause
  | .leading => s.enterMismatch .localCause
  | .relaying =>
    let s := match s.engine.context with
      | some c => match c.tallyEnd with
        | some e => s.sendControl e (.defer c.attempt s.ownTag)
        | none => s
      | none => s
    s.enterMismatch .localCause

/-- Effective inhibit turns off: a node that holds a change of its own takes it up as a topology change (R55,
R61). -/
def State.inhibitOff (s : State) : State :=
  if s.engine.state = .mismatch ∧ s.engine.cause = some .localCause then s.restart else s

/-! ## Control frames arriving -/

/-- An ALERT taken as R29 and R30 take it: context and candidate given up, count 1, forwarded, ALERTED. -/
def State.takeAlert (s : State) (e : EndId) (a : AlertBody) : State :=
  ((s.abandon.setCount 1).forwardAlert e a .alerted).enterAlerted

/-- An ALERT that puts a node with inhibit on into MISMATCH, and is forwarded (R56). It sets the attempt count to 1: R22
does so at an ALERT taken in QUIET or FAILED and at a restart ALERT that makes the node abandon, with no condition on inhibit
(log 45). -/
def State.holdAlert (s : State) (e : EndId) (a : AlertBody) : State :=
  ((s.enterMismatch .localCause).setCount 1).forwardAlert e a .mismatch

/-- An ALERT at the engine (R28 to R30, R56). -/
def State.onAlert (s : State) (e : EndId) (a : AlertBody) : State :=
  if !s.identified e || a.originator == s.ownTag then s
  else match s.engine.state with
    | .quiet => if s.inhibited then s.holdAlert e a else s.takeAlert e a
    | .failed => if s.inhibited then s.holdAlert e a else s.takeAlert e a
    | .alerted => s
    | .leading => if a.restart then s.takeAlert e a else s
    | .relaying => if a.restart then s.takeAlert e a else s
    | .closed =>
      if !a.restart then s else if s.inhibited then s.holdAlert e a else s.takeAlert e a
    | .mismatch =>
      if s.inhibited then s else if a.restart then s.takeAlert e a else s.forwardAlert e a .mismatch

/-- A middle node appends its entry and forwards the tally (R34). -/
def State.relayTally (s : State) (e : EndId) (attempt : AttemptId) (entries : List ListedEntry) : State :=
  let k := entries.length + 1
  let s := s.sendControl e.other (.tally attempt (entries ++ [s.ownEntry k (orientationByArrival e)]))
  { s with engine := { s.engine with
      state := .relaying, deadline := deadlineStarted, cause := none,
      context := some { attempt := attempt, role := .relay, tallyEnd := some e, ownPosition := k } } }

/-- The far extremity appends its entry and closes the tally (R35). -/
def State.closeTally (s : State) (e : EndId) (attempt : AttemptId) (entries : List ListedEntry) : State :=
  let listed := entries ++ [s.ownEntry (entries.length + 1) (orientationByArrival e)]
  if duplicateTags listed then (s.sendControl e (.dissent attempt .duplicateTag)).enterFailed
  else match s.storeCandidate attempt listed with
    | (.stored, s) =>
      let s := s.sendControl e (.closure attempt listed (checkValue (listed.map ListedEntry.entry)))
      { s with engine := { s.engine with
          state := .closed, deadline := deadlineStarted, cause := none,
          context := some { attempt := attempt, role := .closer, tallyEnd := some e,
                            ownPosition := listed.length } } }
    | (.duplicateTag, s) => (s.sendControl e (.dissent attempt .duplicateTag)).enterFailed
    | (.form, s) => (s.sendControl e (.dissent attempt .entryMismatch)).abandon.enterAlerted

/-- A tally is taken: what was held is given up, and the node relays it or closes it; a list of 24 entries is
OVERLENGTH (R32 to R35). -/
def State.takeTally (s : State) (e : EndId) (attempt : AttemptId) (entries : List ListedEntry) : State :=
  let s := s.abandon
  if Config.maxConsist ≤ entries.length then (s.sendControl e (.dissent attempt .overlength)).enterFailed
  else if s.identified e.other then s.relayTally e attempt entries
  else s.closeTally e attempt entries

/-- A tally is turned back with DEFER out of the end it arrived on (R57). -/
def State.turnBack (s : State) (e : EndId) (attempt : AttemptId) : State :=
  s.sendControl e (.defer attempt s.ownTag)

/-- A TALLY at the engine (R33, R57). -/
def State.onTally (s : State) (e : EndId) (attempt : AttemptId) (entries : List ListedEntry) : State :=
  if !s.identified e then s
  else match s.engine.state with
    | .failed => s
    | .mismatch => s.turnBack e attempt
    | .quiet =>
      if s.inhibited then (s.turnBack e attempt).enterMismatch .localCause
      else (s.setCount 1).takeTally e attempt entries
    | .closed =>
      if !s.engine.notWorse attempt then s
      else if s.inhibited then (s.turnBack e attempt).enterMismatch .localCause
      else s.takeTally e attempt entries
    | .alerted => if s.inhibited then s.turnBack e attempt else s.takeTally e attempt entries
    | .leading | .relaying =>
      if s.inhibited then s.turnBack e attempt
      else if s.engine.notWorse attempt then s.takeTally e attempt entries else s

/-- The entry of a list at a position carries a tag. -/
def carriesAt (entries : List ListedEntry) (position : Nat) (t : Tag) : Bool :=
  match entries.find? (fun n => n.entry.position == position) with
  | some n => n.entry.tag == t
  | none => false

/-- A CLOSURE at a relaying node whose context it fits (R36). -/
def State.relayClosure (s : State) (tallyEnd : EndId) (own : Nat) (attempt : AttemptId)
    (entries : List ListedEntry) (check : Word) : State :=
  if !carriesAt entries own s.ownTag then s.sendControl tallyEnd (.dissent attempt .entryMismatch)
  else match s.storeCandidate attempt entries with
    | (.duplicateTag, s) => (s.sendControl tallyEnd (.dissent attempt .duplicateTag)).enterFailed
    | (.form, s) => s.sendControl tallyEnd (.dissent attempt .entryMismatch)
    | (.stored, s) =>
      if checkValue (entries.map ListedEntry.entry) ≠ check then
        State.sendControl { s with candidate := none } tallyEnd (.dissent attempt .checkMismatch)
      else
        let s := s.sendControl tallyEnd (.closure attempt entries check)
        { s with engine := { s.engine with state := .closed, deadline := deadlineStarted, cause := none } }

/-- A CLOSURE at its starter, LEADING for it (R37 to R39). -/
def State.starterClosure (s : State) (e : EndId) (attempt : AttemptId) (entries : List ListedEntry)
    (check : Word) : State :=
  if !carriesAt entries 1 s.ownTag then s.retry
  else match s.storeCandidate attempt entries with
    | (.duplicateTag, s) => s.enterFailed
    | (.form, s) => s.retry
    | (.stored, s) =>
      if checkValue (entries.map ListedEntry.entry) ≠ check then State.retry { s with candidate := none }
      else
        let generation := newGeneration (entries.map ListedEntry.prior)
        let s := s.commitList entries check generation
        let s := s.sendControl e (.commit attempt generation check)
        { s with engine := { s.engine with state := .quiet, deadline := none, cause := none } }

/-- A CLOSURE at the engine (R36, R37). -/
def State.onClosure (s : State) (e : EndId) (attempt : AttemptId) (entries : List ListedEntry) (check : Word) :
    State :=
  if !s.identified e then s
  else match s.engine.context with
    | none => s
    | some c =>
      if c.attempt ≠ attempt then s
      else if attempt.tag = s.ownTag then
        if s.engine.state = .leading ∧ c.role = .starter then s.starterClosure e attempt entries check else s
      else if s.engine.state = .relaying ∧ c.role = .relay ∧ c.tallyEnd = some e.other then
        s.relayClosure e.other c.ownPosition attempt entries check
      else s

/-- A COMMIT at the engine (R40, R41). -/
def State.onCommit (s : State) (e : EndId) (attempt : AttemptId) (generation check : Word) : State :=
  if !s.identified e then s
  else match s.candidate with
    | none => s
    | some c =>
      if c.attempt ≠ attempt then s
      else if c.check ≠ check ∨ generation = 0 ∨ generation = s.directory.generation then
        s.sendControl e (.dissent attempt .checkMismatch)
      else
        let s := s.commitList c.entries c.check generation
        let s := if c.ownPosition < c.entries.length then
            s.sendControl e.other (.commit attempt generation check) else s
        s.enterQuiet

/-- A frame passed on out of the end opposite its arrival, if that end is identified (R42, R58). -/
def State.passOn (s : State) (e : EndId) (f : ControlFrame) : State :=
  if s.identified e.other then s.sendControl e.other f else s

/-- A DISSENT's reason is structural (2.8). -/
def DissentReason.structural : DissentReason → Bool
  | .overlength => true
  | .duplicateTag => true
  | .entryMismatch => false
  | .checkMismatch => false

/-- The node's context is that of the starter of an attempt (R42, R58). -/
def Engine.starts (g : Engine) (attempt : AttemptId) : Bool :=
  match g.context with
  | some c => c.role == .starter && c.attempt == attempt
  | none => false

/-- A DISSENT at the engine (R42 to R44). -/
def State.onDissent (s : State) (e : EndId) (attempt : AttemptId) (reason : DissentReason) : State :=
  if !s.identified e then s
  else if attempt.tag = s.ownTag then
    if s.engine.starts attempt && (s.engine.state == .leading || s.engine.state == .quiet) then
      if reason.structural then s.enterFailed else s.retry
    else s
  else
    let s := s.passOn e (.dissent attempt reason)
    if reason.structural && s.engine.state != .failed then s.enterFailed else s

/-- The engine relays an attempt (R58). -/
def Engine.relays (g : Engine) (attempt : AttemptId) : Bool :=
  g.state == .relaying &&
  (match g.context with
    | some c => c.attempt == attempt
    | none => false)

/-- A DEFER at the engine (R58). -/
def State.onDefer (s : State) (e : EndId) (attempt : AttemptId) (by_ : Tag) : State :=
  if !s.identified e then s
  else if attempt.tag = s.ownTag then
    if s.engine.state == .leading && s.engine.starts attempt then s.enterMismatch .remoteCause else s
  else
    let s := s.passOn e (.defer attempt by_)
    if s.engine.relays attempt then s.enterMismatch .remoteCause else s

end Sys2Proof.Machine
end

