-- ==== Sys2Proof/Machine/Switch.lean ====
section
/-! DEFINITION. Address resolution (chapter 6), and the switch and resolver (chapter 7): SEND, the resolver's
examination, the examination of arriving DATA frames, and the purges. -/

namespace Sys2Proof.Machine

open Sys2Proof

/-! ## Resolution (R107 to R111) -/

/-- The outcomes of resolution (R107). -/
inductive Resolution where
  | noDirectory
  | unknownTag
  | outOfConsist
  | loopback
  | resolved (target : Nat) (e : EndId) (hops : Nat)
deriving DecidableEq, Repr

/-- The end facing a position, from a node's own position and orientation (R110, stage 3). -/
def facing (o : Orientation) (p t : Nat) : EndId := if p < t then o.upEnd else o.downEnd

/-- Stages 2 to 5 from a target position (R109 to R111). -/
def resolveTarget (size p : Nat) (o : Orientation) (t : Int) : Resolution :=
  if t < 1 ∨ (size : Int) < t then .outOfConsist
  else
    let t := t.toNat
    if t = p then .loopback else .resolved t (facing o p t) (if p < t then t - p else p - t)

/-- Resolution of a POSITION, OFFSET or TAG address against a record (R107, R108). A BROADCAST names no target; it
is resolved by `upCopy` and `downCopy`. -/
def Directory.resolve (d : Directory) (a : Address) : Resolution :=
  match d.present, d.ownPosition, d.ownOrientation with
  | true, some p, some o =>
    match a with
    | .position t => resolveTarget d.size p o t
    | .offset k => resolveTarget d.size p o (match o with
        | .direct => (p : Int) + k
        | .reversed => (p : Int) - k)
    | .tag t =>
      match d.byTag t with
      | some k => resolveTarget d.size p o k
      | none => .unknownTag
    | .broadcast => .outOfConsist
  | _, _, _ => .noDirectory

/-- The up copy of a broadcast: its end and hops, when there is a car beyond (R113). -/
def Directory.upCopy (d : Directory) : Option (EndId × Nat) :=
  match d.ownPosition, d.ownOrientation with
  | some p, some o => if p < d.size then some (o.upEnd, d.size - p) else none
  | _, _ => none

/-- The down copy of a broadcast (R113). -/
def Directory.downCopy (d : Directory) : Option (EndId × Nat) :=
  match d.ownPosition, d.ownOrientation with
  | some p, some o => if 1 < p then some (o.downEnd, p - 1) else none
  | _, _ => none

/-- Own position, 0 when absent. -/
def Directory.position (d : Directory) : Nat := d.ownPosition.getD 0

/-- A DATA frame made at stage 5 (R111); target 0 for a broadcast. -/
def Directory.frame (d : Directory) (target hops : Nat) (cls : TrafficClass) (payload : List Byte) : DataFrame :=
  { target := target, hops := hops, origin := d.position, generation := d.generation, cls := cls,
    payload := payload }

/-- The entry of a local delivery: own position, own tag, the generation of the record read (R112, R113). -/
def State.localEntry (s : State) (cls : TrafficClass) (payload : List Byte) (broadcast : Bool) : ReceiveEntry :=
  { cls := cls, broadcast := broadcast, originPosition := s.directory.position, originTag := s.ownTag,
    generation := s.directory.generation, payload := payload }

/-! ## SEND (R124) -/

/-- The message joins the lane's send queue with no copy placed, unless it is full (R123, R124). -/
def sendRecord (d : Directory) (m : Message) : SendRecord :=
  { address := m.address, cls := m.cls, payload := m.payload, accepted := d.generation, upPlaced := false,
    downPlaced := false }

/-- A record joins the tail of a lane's send queue. -/
def State.queueSend (s : State) (l : LaneId) (r : SendRecord) : State :=
  s.modLane l (fun p => { p with sendQueue := p.sendQueue ++ [r] })

/-- The lane's send queue holds its capacity (R122). -/
def State.sendFull (s : State) (l : LaneId) : Bool := decide (Config.sendCapacity ≤ (s.lane l).sendQueue.length)

/-- Checks 3 to 7 of a well-formed SEND of an attached lane (R124). -/
def State.judgeSend (s : State) (l : LaneId) (m : Message) : ResultCode × State :=
  let d := s.directory
  match m.address with
  | .broadcast =>
    if !d.present then (.noDirectory, s)
    else if d.upCopy.isNone && d.downCopy.isNone then (.done, s.deliver (s.localEntry m.cls m.payload true))
    else if s.sendFull l then (.full, s)
    else (.done, (s.deliver (s.localEntry m.cls m.payload true)).queueSend l (sendRecord d m))
  | a =>
    match d.resolve a with
    | .noDirectory => (.noDirectory, s)
    | .unknownTag => (.unknownTag, s)
    | .outOfConsist => (.outOfConsist, s)
    | .loopback => (.done, s.deliver (s.localEntry m.cls m.payload false))
    | .resolved _ _ _ => if s.sendFull l then (.full, s) else (.done, s.queueSend l (sendRecord d m))

/-! ## The resolver (R118, R125 to R127) -/

/-- The address is a TAG, which is resolved again under a newer directory (R118). -/
def Address.isTag : Address → Bool
  | .tag _ => true
  | .position _ => false
  | .offset _ => false
  | .broadcast => false

/-- The class queue record of a lane's message (R129). -/
def placedRecord (f : DataFrame) (l : LaneId) (r : SendRecord) : DataRecord :=
  { frame := f, origin := .local_ l r.address r.accepted }

/-- One copy of a BROADCAST head: it is lost, placed, or waits for room; the mark says whether it counts as placed
(R127). -/
def State.placeCopy (s : State) (l : LaneId) (r : SendRecord) (copy : Option (EndId × Nat)) (placed : Bool) :
    Bool × State :=
  if placed then (true, s)
  else match copy with
    | none => (true, s)
    | some (e, h) =>
      if !s.admitted e then (true, s.lose .linkDown l)
      else if (s.endUnit e).queues.hasRoom r.cls then
        (true, s.enqueue e (placedRecord (s.directory.frame 0 h r.cls r.payload) l r))
      else (false, s)

/-- The head of a lane's send queue replaced by what is left of it. -/
def State.setSendQueue (s : State) (l : LaneId) (q : List SendRecord) : State :=
  s.modLane l (fun p => { p with sendQueue := q })

/-- The examination of a BROADCAST head (R127). -/
def State.examineBroadcast (s : State) (l : LaneId) (r : SendRecord) (rest : List SendRecord) : Bool × State :=
  if r.accepted ≠ s.directory.generation then (true, (s.setSendQueue l rest).lose .consistChanged l)
  else
    let (up, s₁) := s.placeCopy l r s.directory.upCopy r.upPlaced
    let (down, s₂) := s₁.placeCopy l r s.directory.downCopy r.downPlaced
    if up && down then (true, s₂.setSendQueue l rest)
    else (false, s₂.setSendQueue l ({ r with upPlaced := up, downPlaced := down } :: rest))

/-- The examination of a unicast head (R118, R126). -/
def State.examineUnicast (s : State) (l : LaneId) (r : SendRecord) (rest : List SendRecord) : Bool × State :=
  let popped := s.setSendQueue l rest
  if r.accepted ≠ s.directory.generation ∧ !r.address.isTag then (true, popped.lose .consistChanged l)
  else match s.directory.resolve r.address with
    | .resolved t e h =>
      if !s.admitted e then (true, popped.lose .linkDown l)
      else if (s.endUnit e).queues.hasRoom r.cls then
        (true, popped.enqueue e (placedRecord (s.directory.frame t h r.cls r.payload) l r))
      else (false, s)
    | .loopback => (true, popped.deliver (s.localEntry r.cls r.payload false))
    | .unknownTag => (true, popped.lose .consistChanged l)
    | .outOfConsist => (true, popped.lose .consistChanged l)
    | .noDirectory => (true, popped.lose .consistChanged l)

/-- The examination of the head of a lane's send queue: whether it left, and the node after it (R125). -/
def State.examineHead (s : State) (l : LaneId) : Bool × State :=
  match (s.lane l).sendQueue with
  | [] => (false, s)
  | r :: rest => if r.address = .broadcast then s.examineBroadcast l r rest else s.examineUnicast l r rest

/-- One opportunity of the resolver: the head of the lane the pointer names, and, when that queue is empty or its
head waits, the head of the other lane; when a head leaves, the pointer names the other lane (R125). -/
def State.resolverOpportunity (s : State) : State :=
  let l := s.resolver
  match s.examineHead l with
  | (true, s) => { s with resolver := l.other }
  | (false, s) =>
    match s.examineHead l.other with
    | (true, s) => { s with resolver := l }
    | (false, s) => s

/-! ## Arriving DATA frames (R114 to R117, R130) -/

/-- The entry of a frame taken from the line (R114). -/
def State.arrivedEntry (s : State) (f : DataFrame) (broadcast : Bool) : ReceiveEntry :=
  { cls := f.cls, broadcast := broadcast, originPosition := f.origin, originTag := s.directory.originTag f.origin,
    generation := f.generation, payload := f.payload }

/-- A COMMAND frame to be delivered finds an attached lane's receive queue full of COMMAND (R130). -/
def State.deliveryBlocked (s : State) (f : DataFrame) : Bool :=
  f.cls == .command && (s.laneA.fullOfCommand || s.laneB.fullOfCommand)

/-- A through frame: hops reduced by 1, at the tail of the class queue of the end it leaves by (R115). -/
def State.forward (s : State) (e : EndId) (f : DataFrame) : State :=
  s.enqueue e { frame := { f with hops := f.hops - 1 }, origin := .through }

/-- A unicast frame for another car (R115). -/
def State.examineThrough (s : State) (arrival : EndId) (p : Nat) (o : Orientation) (f : DataFrame) :
    Option State :=
  let out := facing o p f.target
  if f.hops = 1 ∨ out = arrival then some (s.count arrival EndCounters.addMisroute)
  else if !s.admitted out then some (s.count out EndCounters.addNoAnswer)
  else if (s.endUnit out).queues.hasRoom f.cls then some (s.forward out f)
  else none

/-- A broadcast frame: delivered, and forwarded while hops are left (R117). -/
def State.examineBroadcastFrame (s : State) (arrival : EndId) (f : DataFrame) : Option State :=
  let out := arrival.other
  if s.deliveryBlocked f then none
  else if f.hops ≤ 1 then some (s.deliver (s.arrivedEntry f true))
  else if !s.admitted out then some ((s.deliver (s.arrivedEntry f true)).count out EndCounters.addNoAnswer)
  else if (s.endUnit out).queues.hasRoom f.cls then some ((s.deliver (s.arrivedEntry f true)).forward out f)
  else none

/-- The switch's examination of a DATA frame: taken, with the node after it, or held back (R114, R130). -/
def State.examineData (s : State) (arrival : EndId) (f : DataFrame) : Option State :=
  if f.target = 0 then s.examineBroadcastFrame arrival f
  else if s.directory.size < f.target then some (s.count arrival EndCounters.addMisroute)
  else match s.directory.ownPosition, s.directory.ownOrientation with
    | some p, some o =>
      if f.target = p then
        if f.hops ≠ 1 then some (s.count arrival EndCounters.addMisroute)
        else if s.deliveryBlocked f then none
        else some (s.deliver (s.arrivedEntry f false))
      else s.examineThrough arrival p o f
    | _, _ => some (s.count arrival EndCounters.addMisroute)

/-! ## Purges (R136, R138) -/

/-- A relief count set to 0 when its head leaves (R132); COMMAND has none. -/
def EndQueues.clearRelief (q : EndQueues) : TrafficClass → EndQueues
  | .command => q
  | .process => { q with reliefProcess := 0 }
  | .bulk => { q with reliefBulk := 0 }

/-- What the first pass does with one frame (R136). -/
inductive PurgeVerdict where
  | keep (d : DataRecord)
  | setAside (e : EndId) (d : DataRecord)
  | remove
deriving DecidableEq, Repr

/-- A TAG frame stamped again (R119). -/
def restamp (d : Directory) (r : DataRecord) (target hops : Nat) : DataRecord :=
  { r with frame := { r.frame with target := target, hops := hops, origin := d.position,
                                   generation := d.generation } }

/-- The first pass at one frame of an end's class queue (R119, R136). -/
def State.purgeOne (s : State) (e : EndId) (r : DataRecord) : PurgeVerdict × State :=
  if r.frame.generation = s.directory.generation then (.keep r, s)
  else match r.origin with
    | .through => (.remove, s.count e EndCounters.addStale)
    | .local_ lane address _ =>
      if !address.isTag then (.remove, s.lose .consistChanged lane)
      else match s.directory.resolve address with
        | .resolved t out h =>
          if out = e then (.keep (restamp s.directory r t h), s)
          else (.setAside out (restamp s.directory r t h), s)
        | .loopback => (.remove, s.deliver (s.localEntry r.frame.cls r.frame.payload false))
        | .unknownTag => (.remove, s.lose .consistChanged lane)
        | .outOfConsist => (.remove, s.lose .consistChanged lane)
        | .noDirectory => (.remove, s.lose .consistChanged lane)

/-- The first pass along one class queue, from head to tail: what stays, what is set aside in the order found, and
the node after it (R136). -/
def State.purgeWalk (e : EndId) :
    List DataRecord → State → List DataRecord × List (EndId × DataRecord) × State
  | [], s => ([], [], s)
  | r :: rs, s =>
    let (verdict, s₁) := s.purgeOne e r
    let (kept, aside, s₂) := State.purgeWalk e rs s₁
    match verdict with
    | .keep r' => (r' :: kept, aside, s₂)
    | .setAside out r' => (kept, (out, r') :: aside, s₂)
    | .remove => (kept, aside, s₂)

/-- The head of a class queue leaves it in the first pass. -/
def State.headLeaves (s : State) (e : EndId) : List DataRecord → Bool
  | [] => false
  | r :: _ =>
    match (s.purgeOne e r).1 with
    | .keep _ => false
    | .setAside _ _ => true
    | .remove => true

/-- The first pass at one class queue of an end; a head that leaves clears its relief count (R132, R136). -/
def State.purgeClass (s : State) (e : EndId) (c : TrafficClass) : List (EndId × DataRecord) × State :=
  let q := (s.endUnit e).queues.classQueue c
  let (kept, aside, s') := State.purgeWalk e q s
  let s' := s'.modEnd e (fun u => { u with queues := u.queues.setClassQueue c kept })
  let s' := if s.headLeaves e q then s'.modEnd e (fun u => { u with queues := u.queues.clearRelief c }) else s'
  (aside, s')

/-- The second pass at one frame set aside (R136). -/
def State.placeAside (s : State) (e : EndId) (r : DataRecord) : State :=
  if s.admitted e && (s.endUnit e).queues.hasRoom r.frame.cls then s.enqueue e r
  else s.loseRecord .consistChanged r

/-- The six class queues in the order of the first pass (R136). -/
def purgeOrder : List (EndId × TrafficClass) :=
  [(.end1, .command), (.end1, .process), (.end1, .bulk), (.end2, .command), (.end2, .process), (.end2, .bulk)]

/-- The first pass over a list of class queues. -/
def State.purgeQueues : List (EndId × TrafficClass) → State → List (EndId × DataRecord) × State
  | [], s => ([], s)
  | (e, c) :: qs, s =>
    let (aside, s₁) := s.purgeClass e c
    let (more, s₂) := State.purgeQueues qs s₁
    (aside ++ more, s₂)

/-- The purge at commit: the first pass over both ends, then the second over what it set aside (R136). -/
def State.purgeAtCommit (s : State) : State :=
  let (aside, s) := State.purgeQueues purgeOrder s
  aside.foldl (fun s p => s.placeAside p.1 p.2) s

/-- One frame of a departing end: a loss LINK-DOWN, or a count in no-answer (R138). -/
def State.departOne (e : EndId) (s : State) (r : DataRecord) : State :=
  match r.origin with
  | .through => s.count e EndCounters.addNoAnswer
  | .local_ lane _ _ => s.lose .linkDown lane

/-- The class queues emptied and the relief counts 0; the control queue is kept. -/
def EndQueues.clearClasses (q : EndQueues) : EndQueues :=
  { q with command := [], process := [], bulk := [], reliefProcess := 0, reliefBulk := 0 }

/-- All records of the class queues, COMMAND, PROCESS, BULK, each from head to tail (R138). -/
def EndQueues.classRecords (q : EndQueues) : List DataRecord := q.command ++ q.process ++ q.bulk

/-- The purge at an end's departure from ADMITTED (R138). -/
def State.departurePurge (s : State) (e : EndId) : State :=
  let s := ((s.endUnit e).queues.classRecords).foldl (State.departOne e) s
  s.modEnd e (fun u => { u with queues := u.queues.clearClasses })

end Sys2Proof.Machine
end

