-- ==== Sys2Proof/Machine/Ends.lean ====
section
/-! DEFINITION. The end units (chapters 4 and 5): the transmitters, the stop-and-wait senders, the receivers, the
line state machines, training and recentre sweeps, and the end states with what they hand on. -/

namespace Sys2Proof.Machine

open Sys2Proof

/-! ## Transmitters (R66, R89, R92, R104) -/

/-- The BEACON of an end, its fields read as it leaves (R92). -/
def State.beaconFrame (s : State) (e : EndId) : LineFrame :=
  .beacon s.ownTag e s.directory.generation (s.engine.state == .quiet)

/-- What a free transmitter begins: a waiting reply, then a due beacon, then the sender's waiting frame (R92,
R104). -/
def Transmitter.begin_ (beacon : LineFrame) (sender : Sender) (t : Transmitter) : Transmitter :=
  match t.replies with
  | r :: rest => { t with sending := some (.reply r.bit r.answer), holdAfter := r.holdAfter, replies := rest }
  | [] =>
    if t.beaconDue then { t with sending := some beacon, beaconDue := false }
    else if t.frameDue then
      { t with sending := sender.frame.map (LineFrame.held sender.currentBit), frameDue := false }
    else t

/-- A line that is ACTIVE, not in pattern hold and not transmitting begins what waits for it (R89, R92). -/
def State.serve (s : State) (e : EndId) (x : LineId) : State :=
  let n := s.line e x
  if n.isActive && !n.inHold && n.tx.sending.isNone then
    s.modLine e x (fun n => { n with tx := n.tx.begin_ (s.beaconFrame e) (s.endUnit e).sender })
  else s

/-- A due beacon (R92). One that falls due while another is still held back is sent with it as one (log 54). -/
def State.queueBeacon (s : State) (e : EndId) (x : LineId) : State :=
  (s.modLine e x (fun n => { n with tx := { n.tx with beaconDue := true } })).serve e x

/-- The end's beacon period in microseconds (R92). -/
def State.beaconPeriod (s : State) : Nat := s.store.working.beacon * 1000

/-- The silence time: four beacon periods (R72). -/
def State.silenceTime (s : State) : Nat := 4 * s.beaconPeriod

/-- The settle time in microseconds (R68). -/
def State.settleTime (s : State) : Nat := s.store.working.settle * 1000

/-! ## Recentres given up (R78) -/

/-- A PATTERN-REQUEST of a line's abandoned recentre starts no sweep (R78). -/
def ControlFrame.orphan (x : LineId) (f : ControlFrame) : ControlFrame :=
  match f with
  | .patternRequest y live => .patternRequest y (live && y != x)
  | .alert _ _ _ _ => f
  | .tally _ _ => f
  | .closure _ _ _ => f
  | .commit _ _ _ => f
  | .dissent _ _ => f
  | .defer _ _ => f

/-- The same for the frame in the sender. -/
def HeldFrame.orphan (x : LineId) (f : HeldFrame) : HeldFrame :=
  match f with
  | .control c => .control (c.orphan x)
  | .data d => .data d

/-- A recentre given up: its mark removed, ABANDONED recorded, its trainer freed, its PATTERN-REQUEST orphaned
(R78). -/
def EndUnit.abandonRecentre (x : LineId) (u : EndUnit) : EndUnit :=
  if (u.line x).recentre = .none then u
  else
    let u := u.modLine x (fun n =>
      { n with recentre := .none, record := { n.record with lastRecentre := .abandoned } })
    { u with
      trainer := if u.trainer.job = .recentreSweep x then { u.trainer with job := .free } else u.trainer
      queues := { u.queues with control := u.queues.control.map (ControlFrame.orphan x) }
      sender := { u.sender with frame := u.sender.frame.map (HeldFrame.orphan x) } }

/-! ## Lines leaving and entering states -/

/-- The line's timers, waits, hold and transmissions end, and it takes a state (R70, R72, R79, R92). That a frame being
sent is cut, and a reply waiting for the line given up and not moved to its partner, is the model's choice (log 47). -/
def LineUnit.leaveFor (st : LineState) (n : LineUnit) : LineUnit :=
  { n with state := st, settleTimer := none, byRetrain := false, wantsSweep := false, pauseTimer := none,
           silenceTimer := none, holdTimer := none, beaconTimer := none, tx := Transmitter.idle }

/-- A sweep of the line is abandoned and its trainer freed (R70, R73). -/
def EndUnit.freeTrainer (x : LineId) (u : EndUnit) : EndUnit :=
  if u.trainer.job = .fullSweep x ∨ u.trainer.job = .recentreSweep x then
    { u with trainer := { u.trainer with job := .free } } else u

/-- A line leaves the state it is in: a recentre of it is abandoned, a sweep of it too (R70, R72, R78). -/
def EndUnit.lineTo (x : LineId) (st : LineState) (u : EndUnit) : EndUnit :=
  ((u.abandonRecentre x).freeTrainer x).modLine x (LineUnit.leaveFor st)

/-- Entry to DARK (R70). -/
def EndUnit.enterDark (x : LineId) (u : EndUnit) : EndUnit := u.lineTo x .dark

/-- The line enters TRAINING: the count of sweeps starts at 0 and the trainer is asked for a sweep (R73, R74,
R81). -/
def LineUnit.startTraining (cause : TrainingCause) (n : LineUnit) : LineUnit :=
  { n with state := .training, settleTimer := none, byRetrain := false, wantsSweep := true,
           record := { n.record with cause := cause, sweeps := 0 } }

/-- A line leaves ACTIVE for TRAINING (R72, R80). -/
def EndUnit.enterTraining (x : LineId) (cause : TrainingCause) (u : EndUnit) : EndUnit :=
  (u.lineTo x .training).modLine x (LineUnit.startTraining cause)

/-- Entry to SETTLING: the settle timer starts (R67, R71). -/
def LineUnit.enterSettling (settle : Nat) (byRetrain : Bool) (n : LineUnit) : LineUnit :=
  { n with state := .settling, settleTimer := some settle, byRetrain := byRetrain }

/-- A line in DARK enters SETTLING when carrier is present and sense is on (R67). -/
def LineUnit.wake (settle : Nat) (sense : Bool) (n : LineUnit) : LineUnit :=
  if n.state = .dark ∧ n.carrier ∧ sense then n.enterSettling settle false else n

/-- Entry to ACTIVE: the silence timer and the beacon period start, the unanswered run becomes 0, and the first
BEACON is due (R72, R92, R98). -/
def State.enterActive (s : State) (e : EndId) (x : LineId) : State :=
  (s.modLine e x (fun n =>
    { n with state := .active, silenceTimer := some s.silenceTime, beaconTimer := some s.beaconPeriod,
             unanswered := 0 })).queueBeacon e x

/-! ## The stop-and-wait sender (R94 to R101) -/

/-- The outcomes of a frame in the sender (R95). -/
inductive FrameOutcome where
  | accept
  | refuse
  | noAnswer
  | congested
  | linkDown
  | bypass
deriving DecidableEq, Repr

/-- The next bit after an outcome (R95). -/
def FrameOutcome.nextBit (o : FrameOutcome) (next current : Bool) : Bool :=
  match o with
  | .accept => !current
  | .refuse => !current
  | .noAnswer => !current
  | .congested => next
  | .linkDown => false
  | .bypass => false

/-- What an outcome counts at the end (R96, R98 to R101). -/
def FrameOutcome.count (o : FrameOutcome) (c : EndCounters) : EndCounters :=
  match o with
  | .accept => c.addFrameSent
  | .refuse => c.addRefusal
  | .noAnswer => c.addNoAnswer
  | .congested => c.addCongested
  | .linkDown => c.addNoAnswer
  | .bypass => c

/-- The loss that an outcome is for a LOCAL DATA frame (R140). -/
def FrameOutcome.loss : FrameOutcome → Option LossReason
  | .accept => none
  | .refuse => some .refused
  | .noAnswer => some .noAnswer
  | .congested => some .congested
  | .linkDown => some .linkDown
  | .bypass => some .bypass

/-- A sender frame that has not begun on a line is withdrawn from it. -/
def EndUnit.withdraw (u : EndUnit) : EndUnit :=
  let drop := fun (n : LineUnit) => { n with tx := { n.tx with frameDue := false } }
  (u.modLine .lineA drop).modLine .lineB drop

/-- The sender gives up its frame and enters IDLE (R95). -/
def EndUnit.senderIdle (o : FrameOutcome) (u : EndUnit) : EndUnit :=
  let u := u.withdraw
  { u with sender := { u.sender with
      state := .idle, frame := none, timer := .stopped, waitsHold := false,
      nextBit := o.nextBit u.sender.nextBit u.sender.currentBit } }

/-- A recentre sweep starts at once: the trainer takes the line, its pass map cleared, and the recentre counts as
one that reached its sweep (R73, R78, R81). -/
def EndUnit.startRecentreSweep (x : LineId) (u : EndUnit) : EndUnit :=
  if (u.line x).recentre = .requested then
    let u := u.modLine x (fun n =>
      { n with recentre := .sweeping, record := { n.record with recentres := satInc n.record.recentres } })
    { u with trainer := { job := .recentreSweep x, passMap := Trainer.clearedMap } }
  else u

/-- What an outcome reports to the recentre that placed a PATTERN-REQUEST (R78, R96, R100). -/
def EndUnit.reportRecentre (o : FrameOutcome) (f : HeldFrame) (u : EndUnit) : EndUnit :=
  match f with
  | .control (.patternRequest x true) =>
    if o = .accept then u.startRecentreSweep x else u.abandonRecentre x
  | _ => u

/-- The outcome of the frame the sender holds (R95). -/
def State.endFrame (s : State) (o : FrameOutcome) (e : EndId) : State :=
  match (s.endUnit e).sender.frame with
  | none => s
  | some f =>
    let s := s.modEnd e (fun u => ((u.senderIdle o).reportRecentre o f))
    let s := s.count e o.count
    match o.loss with
    | some r => s.loseHeld r f
    | none => s

/-- The sender's record changed. -/
def State.modSender (s : State) (e : EndId) (f : Sender → Sender) : State :=
  s.modEnd e (fun u => { u with sender := f u.sender })

/-- The held frame is sent on the current line: one send more, the reply timeout running; in a pattern hold the send
waits, and sends is not changed (R79, R94, R97, R99). -/
def State.sendHeld (s : State) (e : EndId) : State :=
  let x := (s.endUnit e).sender.currentLine
  if (s.line e x).inHold then
    s.modSender e (fun n => { n with state := .awaiting, timer := .stopped, waitsHold := true })
  else
    let s := s.modSender e (fun n =>
      { n with state := .awaiting, timer := .reply, waitsHold := false, sends := n.sends + 1,
               lastLine := n.currentLine })
    (s.modLine e x (fun n => { n with tx := { n.tx with frameDue := true } })).serve e x

/-- The line for a first send (R87). -/
def EndUnit.selectLine (u : EndUnit) : Option LineId :=
  if u.lineA.selectable then some .lineA else if u.lineB.selectable then some .lineB else none

/-- The first send of the held frame: on the selected line, or PENDING when none is selectable (R87, R94). -/
def State.firstSend (s : State) (e : EndId) : State :=
  match (s.endUnit e).selectLine with
  | some x => (s.modSender e (fun n => { n with currentLine := x })).sendHeld e
  | none => s.modSender e (fun n => { n with state := .pending })

/-- The sender takes a frame from the arbiter (R94). -/
def State.takeFrame (s : State) (e : EndId) (f : HeldFrame) : State :=
  (s.modSender e (fun n =>
    { n with frame := some f, currentBit := n.nextBit, sends := 0, holds := 0, moved := false,
             waitsHold := false, timer := .stopped })).firstSend e

/-- The frame moves to the partner line with sends 1 (R97, R101). -/
def State.moveFrame (s : State) (e : EndId) : State :=
  (s.modEnd e (fun u =>
    let u := u.withdraw
    { u with sender := { u.sender with
        moved := true, currentLine := u.sender.currentLine.partner, sends := 0 } })).sendHeld e

/-- The sender's state holds a frame that has been sent (R96). -/
def SenderState.sent : SenderState → Bool
  | .awaiting => true
  | .backing => true
  | .idle => false
  | .pending => false

/-- After a change of the end's lines: with no ACTIVE line left the held frame ends LINK-DOWN; when its current line
has left ACTIVE it moves to the other, or ends NO-ANSWER when it has moved already (R101). -/
def State.senderAfterLines (s : State) (e : EndId) : State :=
  let u := s.endUnit e
  if !u.anyActive then s.endFrame .linkDown e
  else if u.sender.state.sent && !(u.line u.sender.currentLine).isActive then
    if u.sender.moved then s.endFrame .noAnswer e else s.moveFrame e
  else s

/-! ## End state (R83 to R86) -/

/-- The end state by R83; the end is held OPEN while the bypass is not OFF (R65). -/
def State.endStateOf (s : State) (e : EndId) : EndState :=
  let u := s.endUnit e
  if s.bypass.state ≠ .off then .opened
  else if u.anyActive then
    match u.peer with
    | none => .coupling
    | some p => if admits s.directory e p then .admitted else .unadmitted
  else if u.sense || u.lineA.pastDark || u.lineB.pastDark then .coupling
  else .opened

/-- A change of end state handed to the engine: an entry to UNADMITTED, a departure from ADMITTED, or a change of
peer tag is a topology change, taken once (R24, R86, log 8); an ALERTED node acts again when its identified ends
change without one (R27). An end that passes from UNADMITTED to COUPLING makes no topology change, as R24 has it, where R154
says of a release that it does (log 51). -/
def State.engineEndChange (s : State) (old new : EndState) (tagChanged : Bool) : State :=
  if tagChanged ∨ (new = .unadmitted ∧ old ≠ .unadmitted) ∨ (old = .admitted ∧ new ≠ .admitted) then
    s.topologyChange
  else if old.identified ≠ new.identified ∧ s.engine.state = .alerted then s.actAlerted
  else s

/-- The end state decided again, and a change handed on to the lanes, the switch and the engine (R83, R86). -/
def State.decideEnd (s : State) (e : EndId) (tagChanged : Bool) : State :=
  let old := (s.endUnit e).state
  let new := s.endStateOf e
  let s := s.modEnd e (fun u => { u with state := new })
  let s := if old ≠ new then s.raiseBoth .endChange else s
  let s := if old = .admitted ∧ new ≠ .admitted then s.departurePurge e else s
  s.engineEndChange old new tagChanged

/-- A recentre waiting for its ACCEPT is abandoned when the partner line is not ACTIVE (R78). -/
def EndUnit.abandonWithoutPartner (x : LineId) (u : EndUnit) : EndUnit :=
  if (u.line x).recentre = .requested ∧ !(u.line x.partner).isActive then u.abandonRecentre x else u

/-- With no ACTIVE line the peer identity and the receiver record become absent (R82, R83, R102). -/
def EndUnit.forgetPeer (u : EndUnit) : EndUnit :=
  if u.anyActive then u else { u with peer := none, receiver := none }

/-- What follows a change of an end's line states: recentres without a partner, the peer identity, the sender, and
the end state (R78, R82, R86, R101). -/
def State.afterLines (s : State) (e : EndId) : State :=
  let s := s.modEnd e (fun u =>
    ((u.abandonWithoutPartner .lineA).abandonWithoutPartner .lineB).forgetPeer)
  (s.senderAfterLines e).decideEnd e false

/-- A line enters SILENT and leaves it in the same event: TRAINING when carrier is present, else DARK (R72). -/
def State.lineSilent (s : State) (e : EndId) (x : LineId) : State :=
  let s := s.modEnd e (fun u =>
    if (u.line x).carrier then u.enterTraining x .silent else u.enterDark x)
  s.afterLines e

/-! ## Sweeps (R75, R76, R80) -/

/-- The step passes: 32 consecutive received symbols matched the pattern (R75). -/
def stepPasses (runs : List Nat) (k : Nat) : Bool := decide (Config.matchRun ≤ runs.getD k 0)

/-- The pass map of a sweep over the steps `low` to `high`; steps not visited stay cleared (R73, R75). -/
def sweepMap (runs : List Nat) (low high : Nat) : List Bool :=
  (List.range Config.phaseSteps).map (fun k => decide (low ≤ k) && decide (k ≤ high) && stepPasses runs k)

/-- Number of passing steps from the head of a map. -/
def leadingPasses : List Bool → Nat
  | true :: bs => leadingPasses bs + 1
  | false :: _ => 0
  | [] => 0

/-- The longest run of a map as (start, length), the lowest start among equals; `at_` is the step of the map's head
(R76, step 1). -/
def longestRun : Nat → List Bool → Nat × Nat
  | _, [] => (0, 0)
  | at_, b :: bs =>
    let here := leadingPasses (b :: bs)
    let later := longestRun (at_ + 1) bs
    if later.2 ≤ here then (at_, here) else later

/-- A target with the line's offset applied and clamped into the window (R76, step 4). -/
def offsetTarget (o : Offset) (low high mid : Nat) : Nat :=
  if o.subtract then max low (mid - o.magnitude) else min high (mid + o.magnitude)

/-- The result of a full sweep: its outcome and, when it passes, the window (R76). -/
def fullSweepResult (wmin : Nat) (o : Offset) (map : List Bool) : SweepOutcome × Option Window :=
  let (low, width) := longestRun 0 map
  if width = 0 then (.noPass, none)
  else if width < wmin then (.narrow, none)
  else
    let high := low + width - 1
    let phase := offsetTarget o low high ((low + high) / 2)
    (.pass, some { low := low, high := high, width := width, phase := phase,
                   margin := min (phase - low) (high - phase) })

/-- Number of passing steps downward from step `k`, `k` included. -/
def passesDown (map : List Bool) : Nat → Nat
  | 0 => if map.getD 0 false then 1 else 0
  | k + 1 => if map.getD (k + 1) false then passesDown map k + 1 else 0

/-- Least phase a recentre moves to: the difference is limited to -2..+2 (R80, step 4). -/
def limitedMove (phase target : Nat) : Nat :=
  if phase + 2 < target then phase + 2 else if target + 2 < phase then phase - 2 else target

/-- The result of a recentre sweep around phase P: the new window, or nothing when the line must retrain (R80). -/
def recentreResult (wmin : Nat) (o : Offset) (map : List Bool) (phase : Nat) : Option Window :=
  let down := passesDown map phase
  let up := leadingPasses (map.drop phase)
  if down = 0 then none
  else
    let low := phase + 1 - down
    let high := phase + up - 1
    let width := high - low + 1
    if width < wmin then none
    else
      let moved := limitedMove phase (offsetTarget o low high ((low + high) / 2))
      some { low := low, high := high, width := width, phase := moved,
             margin := min (moved - low) (high - moved) }

/-- The sample phase of a line: that of its recorded window (R81). -/
def TrainingRecord.phase (r : TrainingRecord) : Nat :=
  match r.window with
  | some w => w.phase
  | none => 0

/-! ## Receivers (R90, R91, R102 to R104) -/

/-- An answer as the receiver record keeps it; HOLD is not final (R102). -/
def Answer.final : Answer → Option FinalAnswer
  | .accept => some .accept
  | .hold => none
  | .refuse r => some (.refuse r)

/-- The answer that repeats a final answer. -/
def FinalAnswer.answer : FinalAnswer → Answer
  | .accept => .accept
  | .refuse r => .refuse r

/-- The line can send a reply now or next: ACTIVE and not in pattern hold (R104). -/
def LineUnit.canReply (n : LineUnit) : Bool := n.isActive && !n.inHold

/-- What a transmit side still has in hand when the line's pattern hold begins: a frame being sent is cut, since in the
hold the line sends pattern only (R66, R79, R89). That the cut frame is not sent again when the hold ends is the model's
choice (log 13), and so is that a send of the stop-and-wait sender which fell due before the hold but has not begun stays
due, counted as it is, and begins when the hold ends (log 15). -/
def Transmitter.cut (t : Transmitter) : Transmitter := { t with sending := none, holdAfter := none }

/-- The line enters, or restarts, its pattern hold (R79). -/
def LineUnit.startHold (n : LineUnit) : LineUnit :=
  { n with holdTimer := some Config.patternHoldTime, tx := n.tx.cut }

/-- A line of an end enters, or restarts, its pattern hold (R79). -/
def State.startHold (s : State) (e : EndId) (x : LineId) : State := s.modLine e x LineUnit.startHold

/-- The pattern hold that follows a reply, if one does (R79, R103). -/
def State.holdFollows (s : State) (e : EndId) (hold : Option LineId) : State :=
  match hold with
  | some y => s.startHold e y
  | none => s

/-- A reply queued on a line, leaving ahead of any frame or beacon not yet begun (R104). That replies waiting for one
line leave in the order they arrived is the model's choice (log 49). -/
def State.queueReply (s : State) (e : EndId) (x : LineId) (r : WaitingReply) : State :=
  (s.modLine e x (fun n => { n with tx := { n.tx with replies := n.tx.replies ++ [r] } })).serve e x

/-- The receiver sends its answer: on the line of arrival, else on the partner line, else not at all (R104). The hold
of a PATTERN-REQUEST whose ACCEPT is not sent begins at once (R79; log 13). -/
def State.answer (s : State) (e : EndId) (x : LineId) (r : WaitingReply) : State :=
  if (s.line e x).canReply then s.queueReply e x r
  else if (s.line e x.partner).canReply then s.queueReply e x.partner r
  else s.holdFollows e r.holdAfter

/-- The answer a new frame earned: recorded when it is final, and sent (R102, R104). -/
def State.earn (s : State) (e : EndId) (x : LineId) (r : WaitingReply) : State :=
  let s := match r.answer.final with
    | some f => s.modEnd e (fun u => { u with receiver := some { bit := r.bit, answer := f } })
    | none => s
  s.answer e x r

/-- A valid frame restarts the silence timer of its line (R72). -/
def State.restartSilence (s : State) (e : EndId) (x : LineId) : State :=
  s.modLine e x (fun n => { n with silenceTimer := some s.silenceTime })

/-- A frame arrives: it is taken only on an ACTIVE line (R66, R89); failing the frame check it is counted and
discarded (R90); valid, it restarts the silence timer and goes on. -/
def State.arrive (s : State) (e : EndId) (x : LineId) (kind : Byte) (f : RawFrame) (valid : State → State) :
    State :=
  if !(s.line e x).isActive then s
  else if !framePasses kind f then s.countCheckError e x
  else valid (s.restartSilence e x)

/-- A valid control or DATA frame: a repeat is answered from the record; a new frame is checked for form and
handled (R91, R102, R103). -/
def State.takeAwaiting {β : Type} (s : State) (e : EndId) (x : LineId) (f : RawFrame) (decode : List Byte → Option β)
    (handle : β → State → State) : State :=
  let fresh := match decode f.body with
    | none => s.earn e x (.plain (frameBit f) (.refuse .malformed))
    | some b => handle b s
  match (s.endUnit e).receiver with
  | none => fresh
  | some r => if r.bit = frameBit f then s.answer e x (.plain (frameBit f) r.answer.answer) else fresh

/-- A control frame of the engine: answered ACCEPT whatever the engine does with it (R103). -/
def State.controlArrives {β : Type} (s : State) (e : EndId) (x : LineId) (kind : Byte) (f : RawFrame)
    (decode : List Byte → Option β) (engine : β → State → State) : State :=
  s.arrive e x kind f (fun s => s.takeAwaiting e x f decode (fun b s => engine b (s.earn e x (.plain (frameBit f) .accept))))

/-- A malformed BEACON or reply is discarded and counted as a check error (R91). -/
def State.takeUnanswered {β : Type} (s : State) (e : EndId) (x : LineId) (f : RawFrame)
    (decode : List Byte → Option β) (handle : β → State → State) : State :=
  match decode f.body with
  | none => s.countCheckError e x
  | some b => handle b s

/-- A DATA frame in the three steps of R103. -/
def State.examineArrival (s : State) (e : EndId) (x : LineId) (bit : Bool) (f : DataFrame) : State :=
  if !s.admitted e then s.earn e x (.plain bit (.refuse .notAdmitted))
  else if f.generation ≠ s.directory.generation then
    (s.count e EndCounters.addStale).earn e x (.plain bit (.refuse .stale))
  else match s.examineData e f with
    | some s => s.earn e x (.plain bit .accept)
    | none => s.earn e x (.plain bit .hold)

/-- A beacon's identity overwrites the peer's; a changed tag forgets the receiver record (R82, R93). -/
def State.takeBeacon (s : State) (e : EndId) (p : PeerId) : State :=
  let u := s.endUnit e
  let changed := match u.peer with
    | some q => q.tag != p.tag
    | none => false
  let s := s.modEnd e (fun u =>
    { u with peer := some p, receiver := if changed then none else u.receiver })
  s.decideEnd e (changed && u.state.identified)

/-- A reply matches the sender of its end (R96). -/
def Sender.matches (n : Sender) (bit : Bool) : Bool := n.state.sent && n.currentBit == bit

/-- A matching reply ends the unanswered run of the line the frame was last sent on (R96, R98). -/
def State.endRun (s : State) (e : EndId) : State :=
  s.modLine e (s.endUnit e).sender.lastLine (fun n => { n with unanswered := 0 })

/-- A reply at the sender: without effect unless it matches (R96). -/
def State.onReply (s : State) (e : EndId) (bit : Bool) (handle : State → State) : State :=
  if (s.endUnit e).sender.matches bit then handle (s.endRun e) else s

/-- A matching HOLD: counted, and the sender enters BACKING, or the frame ends CONGESTED at 2000 (R99). A repeat
that has not begun is withdrawn. -/
def State.onHold (s : State) (e : EndId) : State :=
  let s := s.count e EndCounters.addHold
  let holds := (s.endUnit e).sender.holds + 1
  let s := s.modEnd e (fun u =>
    let u := u.withdraw
    { u with sender := { u.sender with holds := holds, sends := 0, waitsHold := false } })
  if Config.maxHolds ≤ holds then s.endFrame .congested e
  else s.modSender e (fun n => { n with state := .backing, timer := .holdWait })

/-- The transmission a line has in progress ends: a pattern hold that follows it begins, and what waits for the line
begins (R79, R92, R103, R104). -/
def State.endTransmission (s : State) (e : EndId) (x : LineId) : State :=
  let t := (s.line e x).tx
  if t.sending.isNone then s
  else ((s.modLine e x (fun n => { n with tx := n.tx.cut })).holdFollows e t.holdAfter).serve e x

/-- A frame of the sender is in transmission. -/
def Transmitter.sendsHeld (t : Transmitter) : Bool :=
  match t.sending with
  | some (.held _ _) => true
  | _ => false

/-- The reply timeout is counted from the end of the send (R97): when it runs out, the send is over (log 14). -/
def State.sendOver (s : State) (e : EndId) : State :=
  let x := (s.endUnit e).sender.currentLine
  if (s.line e x).tx.sendsHeld then s.endTransmission e x else s

/-- The frame's sends on its line are exhausted: the run counts up, the frame moves or ends NO-ANSWER, and a run of
3 forces the line SILENT (R97, R98). -/
def State.sendsExhausted (s : State) (e : EndId) : State :=
  let u := s.endUnit e
  let x := u.sender.currentLine
  let run := (u.line x).unanswered + 1
  let forced := decide (Config.maxUnanswered ≤ run)
  let s := s.modLine e x (fun n => { n with unanswered := if forced then 0 else run })
  let s := if !u.sender.moved && (u.line x.partner).isActive then s.moveFrame e else s.endFrame .noAnswer e
  if forced then s.lineSilent e x else s

/-- The reply timeout runs out (R97, R99). -/
def State.replyTimedOut (s : State) (e : EndId) : State :=
  let s := s.sendOver e
  let s := s.modSender e (fun n => { n with holds := 0 })
  if (s.endUnit e).sender.sends < Config.maxSends then s.sendHeld e else s.sendsExhausted e

/-! ## The end arbiter (R131, R132) -/

/-- A relief count that counts one frame more, stopping at its limit; an empty queue has count 0 (R132). -/
def reliefCount (limit count : Nat) (queue : List DataRecord) : Nat :=
  if queue.isEmpty then 0 else min limit (count + 1)

/-- A head is relieved when its count has reached its limit (R132). -/
def relieved (limit count : Nat) (queue : List DataRecord) : Bool := !queue.isEmpty && decide (limit ≤ count)

/-- The class whose head an ADMITTED end's arbiter takes next (R131). -/
def EndQueues.choose (q : EndQueues) (limitProcess limitBulk : Nat) : Option TrafficClass :=
  if relieved limitProcess q.reliefProcess q.process then some .process
  else if relieved limitBulk q.reliefBulk q.bulk then some .bulk
  else if !q.command.isEmpty then some .command
  else if !q.process.isEmpty then some .process
  else if !q.bulk.isEmpty then some .bulk
  else none

/-- The relief counts after a frame of a class is handed to the sender, its head already taken (R132). -/
def EndQueues.countRelief (q : EndQueues) (limitProcess limitBulk : Nat) : TrafficClass → EndQueues
  | .command => { q with reliefProcess := reliefCount limitProcess q.reliefProcess q.process,
                         reliefBulk := reliefCount limitBulk q.reliefBulk q.bulk }
  | .process => { q with reliefProcess := 0, reliefBulk := reliefCount limitBulk q.reliefBulk q.bulk }
  | .bulk => { q with reliefBulk := 0 }

/-- The head of a class queue and the queues without it. -/
def EndQueues.takeHead (q : EndQueues) (c : TrafficClass) : Option (DataRecord × EndQueues) :=
  match q.classQueue c with
  | [] => none
  | r :: rest => some (r, q.setClassQueue c rest)

/-- The frame the arbiter of an end offers, and the queues without it (R131, R132). -/
def EndQueues.offer (q : EndQueues) (admitted : Bool) (limitProcess limitBulk : Nat) :
    Option (HeldFrame × EndQueues) :=
  match q.control with
  | f :: rest => some (.control f, { q with control := rest })
  | [] =>
    if !admitted then none
    else match q.choose limitProcess limitBulk with
      | none => none
      | some c =>
        match q.takeHead c with
        | none => none
        | some (r, q') => some (.data r, q'.countRelief limitProcess limitBulk c)

/-- The arbiter's offer and the sender's take, as one event, when the sender is IDLE, the end has an ACTIVE line and
is identified, and a queue it may offer from holds a frame (R94, R131). -/
def State.offerFrame (s : State) (e : EndId) : State :=
  let u := s.endUnit e
  if u.sender.state = .idle ∧ u.anyActive ∧ u.state.identified then
    match u.queues.offer (u.state == .admitted) s.store.working.reliefProcess s.store.working.reliefBulk with
    | none => s
    | some (f, q) => (s.modEnd e (fun u => { u with queues := q })).takeFrame e f
  else s

end Sys2Proof.Machine
end

