-- ==== Sys2Proof/Machine/Bypass.lean ====
section
/-! DEFINITION. The bypass controller (chapter 8), the vote register (3.2), the settings store's load (10.3), and
the resets of the whole node. -/

namespace Sys2Proof.Machine

open Sys2Proof

/-! ## Engagement and release (R145 to R147) -/

/-- An end at the start of an engagement: lines DARK, peer identity and receiver record absent, queues emptied, end
OPEN; training records and counters kept (R88, R102, R139, R147), but for the outcome ABANDONED of a recentre that the
engagement ends, where the model follows R78 and not R81 (log 53). -/
def EndUnit.engage (u : EndUnit) : EndUnit :=
  let u := (u.enterDark .lineA).enterDark .lineB
  { u with state := .opened, peer := none, receiver := none, queues := EndQueues.empty,
           trainer := { u.trainer with job := .free } }

/-- The engagement at one end: the sender's frame ends BYPASS, LOCAL frames of the class queues are losses BYPASS,
END-CHANGE is raised when the end changes state (R101, R139, R147). -/
def State.engageEnd (s : State) (e : EndId) : State :=
  let old := (s.endUnit e).state
  let s := s.endFrame .bypass e
  let s := ((s.endUnit e).queues.classRecords).foldl (fun s r => s.loseRecord .bypass r) s
  let s := s.modEnd e EndUnit.engage
  if old ≠ .opened then s.raiseBoth .endChange else s

/-- The engagement at one lane's send queue: each record is a loss BYPASS (R139). -/
def State.engageLane (s : State) (l : LaneId) : State :=
  let s := ((s.lane l).sendQueue).foldl (fun s _ => s.lose .bypass l) s
  s.modLane l (fun p => { p with sendQueue := [] })

/-- The engine at the start of an engagement: QUIET, its number and vote register kept (R17, R53). -/
def Engine.engage (g : Engine) : Engine :=
  { g with state := .quiet, context := none, count := 0, deadline := none, cause := none }

/-- The start of an engagement (R146, R147). -/
def State.engage (s : State) : State :=
  let s := { s with bypass := { s.bypass with state := .engaging, transition := some Config.relayTime } }
  let s := s.raiseBoth .bypassChange
  let s := (s.engageEnd .end1).engageEnd .end2
  let s := (s.engageLane .laneA).engageLane .laneB
  let s := s.clearDirectory
  { s with engine := s.engine.engage }

/-- The release conditions (R145). -/
def State.mayRelease (s : State) : Bool :=
  s.bypass.state == .engaged && s.bypass.startUpComplete && s.bypass.latched == .none &&
    !s.engine.effective.bypass

/-- A release starts when the conditions hold (R145). -/
def State.testRelease (s : State) : State :=
  if s.mayRelease then
    { s with bypass := { s.bypass with state := .releasing, transition := some Config.relayTime } }
  else s

/-- Each line takes its inputs as they stand at OFF (R65). -/
def EndUnit.takeInputs (settle : Nat) (u : EndUnit) : EndUnit :=
  (u.modLine .lineA (LineUnit.wake settle u.sense)).modLine .lineB (LineUnit.wake settle u.sense)

/-- Entry to OFF: the end units take their inputs, and the engine a topology change (R145). -/
def State.enterOff (s : State) : State :=
  let s := { s with bypass := { s.bypass with state := .off, transition := none } }
  let s := s.raiseBoth .bypassChange
  let s := (s.modEnd .end1 (EndUnit.takeInputs s.settleTime)).modEnd .end2 (EndUnit.takeInputs s.settleTime)
  ((s.afterLines .end1).afterLines .end2).topologyChange

/-- The end of a release (R149). -/
def State.releaseEnded (s : State) : State :=
  if s.bypass.latched ≠ .none ∨ s.engine.effective.bypass then s.engage else s.enterOff

/-- The end of an engagement (R150). -/
def State.engageEnded (s : State) : State :=
  State.testRelease { s with bypass := { s.bypass with state := .engaged, transition := none } }

/-- A fault latched: the first one found is kept; in OFF it starts an engagement (R146, R153). -/
def State.latch (s : State) (c : LatchedCause) : State :=
  if s.bypass.latched ≠ .none then s
  else
    let s := { s with bypass := { s.bypass with latched := c } }
    let s := s.raiseBoth .bypassChange
    if s.bypass.state = .off then s.engage else s

/-- The directory check of a scrub fails (R152). -/
def State.directorySpoilt (s : State) : Bool := checkValue s.directory.entries != s.directory.check

/-- The settings check of a scrub fails (R152). -/
def State.settingsSpoilt (s : State) : Bool := s.store.working.loadCheck != s.store.loadCheck

/-- A scrub: the directory, then the settings (R152). -/
def State.scrubbed (s : State) : State :=
  if s.directorySpoilt then s.latch .integrityDirectory
  else if s.settingsSpoilt then s.latch .integritySettings
  else s

/-! ## The vote register (R49, R50) -/

/-- One effective value that needs every attached lane, and at least one (R49). -/
def allAttached (a b : LanePort) (vote : Votes → Bool) : Bool :=
  (a.attached || b.attached) && (!a.attached || vote a.votes) && (!b.attached || vote b.votes)

/-- The effective values of two lanes' attach states and votes (R49). -/
def effectiveVotes (a b : LanePort) : Votes :=
  { inhibit := (a.attached && a.votes.inhibit) || (b.attached && b.votes.inhibit),
    claim := allAttached a b Votes.claim, bypass := allAttached a b Votes.bypass }

/-- A change of effective bypass request at the bypass controller (R145, R146, R149, R150). -/
def State.bypassRequestChanged (s : State) : State :=
  if s.engine.effective.bypass then
    if s.bypass.state = .off then s.engage else s
  else s.testRelease

/-- The changes of effective claim and inhibit at the engine, as one event (R50). -/
def State.votesAtEngine (s : State) (old : Votes) : State :=
  if s.engine.effective.claim ≠ old.claim then s.topologyChange
  else if s.engine.effective.inhibit ≠ old.inhibit then
    if s.engine.effective.inhibit then s.inhibitOn else s.inhibitOff
  else s

/-- A recombination: each value that changed is handed on, to the bypass controller first (R50, log 12). -/
def State.recombine (s : State) : State :=
  let old := s.engine.effective
  let s := { s with engine := { s.engine with effective := effectiveVotes s.laneA s.laneB } }
  let s := if s.engine.effective.bypass ≠ old.bypass then s.bypassRequestChanged else s
  s.votesAtEngine old

/-- A lane becomes DETACHED: votes no, both its queues emptied without count (R161). -/
def LanePort.detached (p : LanePort) : LanePort :=
  { p with attached := false, votes := Votes.none, sendQueue := [], receiveQueue := [] }

/-- The effects of DETACH, with the recombination (R161). -/
def State.detachLane (s : State) (l : LaneId) : State := (s.modLane l LanePort.detached).recombine

/-- A lane port after its reset, LRST asserted (R169): the effects of DETACH, marks no, enables yes, slot EMPTY, lane
counters 0; the transaction in progress is abandoned. -/
def LanePort.laneReset (p : LanePort) : LanePort :=
  { p.detached with
    lrst := true, notices := 0, mask := 0xFFF, slot := .empty, losses := LossCounters.zero, receiveDrops := 0,
    receiveDisplacements := 0, frameErrors := 0, dataOut := [] }

/-! ## Resets of the node and start-up (R143, R173, R180) -/

/-- The settings area after a reset: unsound when a write was in progress (R178). -/
def Store.areaAfterReset (t : Store) : SettingsArea := if t.activity = .writing then .unsound else t.area

/-- An end after power-on or node reset, its inputs as they stand (R88). -/
def EndUnit.afterReset (u : EndUnit) : EndUnit := EndUnit.reset u.sense u.lineA.carrier u.lineB.carrier

/-- Power-on or node reset: every block takes its reset values; inputs, nonvolatile areas and the queue of commands
stand (R143, R170, R173, R178). -/
def State.resetBlocks (s : State) (cause : ResetCause) : State :=
  { State.reset with
    pending := s.pending, nrst := s.nrst, end1 := s.end1.afterReset, end2 := s.end2.afterReset,
    laneA := LanePort.reset s.laneA.lrst, laneB := LanePort.reset s.laneB.lrst,
    store := Store.reset s.store.areaAfterReset s.store.factory s.store.locked cause }

/-- The settings that a sound area gives, and nothing for an unsound one (R174). -/
def SettingsArea.load (a : SettingsArea) (tag : Tag) : Option Settings :=
  match a with
  | .unsound => none
  | .written bytes check => if crc16 bytes = check then decodeArea tag bytes else none

/-- The working copy at the load: the stored values of a sound area, else the defaults; TAG from the factory area
(R174, R175). -/
def Store.loaded (t : Store) : Settings :=
  (t.area.load t.factory.tag).getD (Settings.defaults t.factory.tag)

/-- The tag is valid: the factory area's check passes and the tag is not 0 (R175). -/
def FactoryArea.valid (f : FactoryArea) : Bool := f.checkPasses && f.tag != 0

/-- The store after steps 2 to 4 of start-up (R174, R175, R180). -/
def Store.afterLoad (t : Store) : Store :=
  { t with
    working := t.loaded, image := t.loaded, loadCheck := t.loaded.loadCheck, tagValid := t.factory.valid,
    activity := .idle, loadOutcome := if (t.area.load t.factory.tag).isSome then .valid else .defaulted }

/-- Start-up steps 2 to 5 (R180): load, tag validation, start-up complete, and the release conditions tested. -/
def State.startUp (s : State) : State :=
  let s := { s with store := s.store.afterLoad }
  let s := if s.store.loadOutcome = .defaulted then s.raiseBoth .settingsDefaulted else s
  let s := if s.store.tagValid then s else s.latch .integrityTag
  State.testRelease
    { s with bypass := { s.bypass with startUpComplete := true, scrubTimer := some Config.scrubPeriod } }

end Sys2Proof.Machine
end

