-- ==== Sys2Proof/Machine/Requests.lean ====
section
/-! DEFINITION. Lane transactions and the handling of requests (chapter 9): framing, the reply slot, and the reply
bodies of chapter 11. -/

namespace Sys2Proof.Machine

open Sys2Proof

/-! ## Transactions (R155 to R157) -/

/-- The reply with no body. -/
def Reply.bare (r : ResultCode) : Reply := { result := r, body := [] }

/-- The reply a slot sends: an EMPTY slot sends DONE with no body (R156). -/
def ReplySlot.reply : ReplySlot → Reply
  | .empty => Reply.bare .done
  | .pending _ _ => Reply.bare .busy
  | .ready r => r

/-- A reset holds the lane's port: its LRST or NRST is asserted (R169, R170). -/
def State.portHeld (s : State) (l : LaneId) : Bool := s.nrst || (s.lane l).lrst

/-- What a port's data output does: high-impedance, or the bytes of a reply frame driven from its first, with fill
behind them (R155). -/
inductive DataOutput where
  | highImpedance
  | reply (bytes : List Byte)
deriving DecidableEq, Repr

/-- The data output of a lane port, by whether its select input is asserted in this state: high-impedance while select is
released and while a reset holds the port, and otherwise the reply of the slot as it stands at that assertion (R155, R156,
R169, R170). -/
def State.dataOutput (s : State) (l : LaneId) (selected : Bool) : DataOutput :=
  if !selected || s.portHeld l then .highImpedance else .reply (s.lane l).slot.reply.frame

/-- The slot is PENDING. -/
def ReplySlot.isPending : ReplySlot → Bool
  | .pending _ _ => true
  | .empty => false
  | .ready _ => false

/-- A collected transaction's request: taken, or answered BAD-FRAME with LANE-FRAME-ERROR and a count (R157). -/
def LanePort.examineRequest (bytes : List Byte) (p : LanePort) : LanePort :=
  match parseRequest bytes with
  | some (kind, body) => { p with slot := .pending kind body }
  | none =>
    LanePort.raise .laneFrameError
      { p with slot := .ready (Reply.bare .badFrame), frameErrors := satInc p.frameErrors }

/-- A transaction examined at the release of select (R156): BUSY, not collected, or collected. -/
def LanePort.transact (startedPending : Bool) (bytes : List Byte) (p : LanePort) : LanePort :=
  if startedPending || p.slot.isPending then
    { p with dataOut := ((Reply.bare .busy).frame).take bytes.length }
  else
    let frame := p.slot.reply.frame
    let p := { p with dataOut := frame.take bytes.length }
    if bytes.length < frame.length then p else p.examineRequest bytes

/-! ## Handling (R158, R159) -/

/-- The slot becomes READY with a reply (R158). -/
def State.reply (s : State) (l : LaneId) (r : Reply) : State := s.modLane l (fun p => { p with slot := .ready r })

/-- The handling of the request of one kind that stands PENDING in a lane's slot, as one event (R158). Without such a
request there is nothing to handle (log 2, log 4). -/
def State.handleKind (s : State) (l : LaneId) (is : Byte → Bool) (f : List Byte → Reply × State) : State :=
  match (s.lane l).slot with
  | .pending kind body => if is kind then let r := f body; r.2.reply l r.1 else s
  | .empty => s
  | .ready _ => s

/-- The same for one request code. -/
def State.handle (s : State) (l : LaneId) (code : Byte) (f : List Byte → Reply × State) : State :=
  s.handleKind l (fun kind => kind == code) f

/-- A request that a DETACHED lane may not make; the test comes before the body is examined (R159). -/
def State.handleAttached (s : State) (l : LaneId) (code : Byte) (f : List Byte → Reply × State) : State :=
  s.handle l code (fun body => if (s.lane l).attached then f body else (Reply.bare .detached, s))

/-- A request whose body is empty; any other length is BAD-REQUEST (R159, R184). -/
def noBody (s : State) (f : Reply × State) (body : List Byte) : Reply × State :=
  if body.isEmpty then f else (Reply.bare .badRequest, s)

/-- A request whose body is decoded; a body that fails is BAD-REQUEST with nothing changed (R159). -/
def withBody {β : Type} (s : State) (decode : List Byte → Option β) (f : β → Reply × State) (body : List Byte) :
    Reply × State :=
  match decode body with
  | some b => f b
  | none => (Reply.bare .badRequest, s)

/-- A body of one byte. -/
def decodeByte : List Byte → Option Byte
  | [b] => some b
  | _ => none

/-- A body of one line code (R159). -/
def decodeLineBody : List Byte → Option (EndId × LineId)
  | [b] => decodeLine b
  | _ => none

/-- What a WRITE-SETTING names: its code, its record and the value (R184). -/
structure SettingWrite where
  code : Byte
  record : SettingRecord
  value : Word
deriving DecidableEq, Repr

/-- A body of a record code and a value (R184). -/
def decodeWrite : List Byte → Option SettingWrite
  | [b, v0, v1] => (decodeRecord b).map (fun r => { code := b, record := r, value := wordOf v0 v1 })
  | _ => none

/-! ## Reply bodies (R184) -/

/-- The summary of READ-DIRECTORY (R15, R184). -/
def Directory.summaryBytes (d : Directory) : List Byte :=
  wordBytes d.generation ++ natByte d.size :: tagBytes d.referenceTag ++
    [natByte d.position, (d.ownOrientation.getD .direct).code] ++ wordBytes d.check ++ [boolByte d.claimConflict]

/-- The answer of READ-DIRECTORY to an index (R15). -/
def Directory.read (d : Directory) (index : Nat) : Reply :=
  if Config.maxConsist < index then Reply.bare .badRequest
  else if !d.present then Reply.bare .noDirectory
  else if index = 0 then { result := .done, body := d.summaryBytes }
  else match d.byPosition index with
    | some n => { result := .done, body := n.bytes ++ wordBytes d.generation }
    | none => Reply.bare .outOfConsist

/-- The three bytes of three yes-or-no values. -/
def Votes.bytes (v : Votes) : List Byte := [boolByte v.inhibit, boolByte v.claim, boolByte v.bypass]

/-- The body of READ-NODE (R163, R184). -/
def State.nodeBytes (s : State) (l : LaneId) : List Byte :=
  [s.engine.state.code, mismatchCode s.engine.cause, natByte s.engine.count] ++ wordBytes s.directory.generation ++
    [s.end1.state.code, s.end2.state.code, s.bypass.state.code, s.bypass.latched.code, s.store.resetCause.code] ++
    s.engine.effective.bytes ++ (s.lane l).votes.bytes

/-- The window fields of a training record: bytes 5 to 10 (11.5). -/
def windowBytes : Option Window → List Byte
  | none => [0, 0, 0, 0, 0, 0]
  | some w => [1, natByte w.low, natByte w.high, natByte w.width, natByte w.phase, natByte w.margin]

/-- The body of READ-LINES (R81, 11.5). -/
def LineUnit.recordBytes (e : EndId) (x : LineId) (n : LineUnit) : List Byte :=
  [lineCode e x, n.state.code, n.record.cause.code, natByte n.record.sweeps, n.record.lastSweep.code] ++
    windowBytes n.record.window ++ n.record.lastRecentre.code :: wordBytes n.record.recentres

/-- The eight counters of an end, in the order of R164. -/
def EndCounters.bytes (c : EndCounters) : List Byte :=
  [c.framesSent, c.holds, c.refusals, c.noAnswer, c.misroutes, c.stale, c.congested, c.controlDrops].flatMap
    wordBytes

/-- The nine counters of a lane, in the order of R164. -/
def LanePort.counterBytes (p : LanePort) : List Byte :=
  [p.losses.consistChanged, p.losses.linkDown, p.losses.noAnswer, p.losses.refused, p.losses.congested,
   p.losses.bypass, p.receiveDrops, p.receiveDisplacements, p.frameErrors].flatMap wordBytes

/-- The body of READ-COUNTERS: 30 counters (R164, R184). -/
def State.counterBytes (s : State) (l : LaneId) : List Byte :=
  [s.end1.lineA.checkErrors, s.end1.lineB.checkErrors, s.end2.lineA.checkErrors,
   s.end2.lineB.checkErrors].flatMap wordBytes ++
    s.end1.counters.bytes ++ s.end2.counters.bytes ++ (s.lane l).counterBytes ++ wordBytes s.noListener

/-- The body of READ-NOTICES and CLEAR-NOTICES: the reported set and the summary (R167, R184). -/
def LanePort.noticeReport (p : LanePort) : List Byte := noticeBytes p.reportedSet ++ [boolByte p.summary]

/-- The body of FETCH: the entry's fields, then the count of entries left (R162, R184). -/
def ReceiveEntry.bytes (r : ReceiveEntry) (left : Nat) : List Byte :=
  [r.cls.code, boolByte r.broadcast, natByte r.originPosition] ++ tagBytes r.originTag ++
    wordBytes r.generation ++ natByte r.payload.length :: r.payload ++ [natByte left]

/-- The body of READ-SETTING (R176, R184). -/
def Store.readBytes (t : Store) (code : Byte) (r : SettingRecord) : List Byte :=
  match r with
  | .tag => code :: tagBytes t.working.tag ++ tagBytes t.image.tag ++ [boolByte t.tagValid]
  | .status => [code, t.activity.code, writingLaneCode t.writingLane, t.loadOutcome.code, boolByte t.locked]
  | r => code :: wordBytes (t.working.value r) ++ wordBytes (t.image.value r)

/-! ## Effects of the requests -/

/-- ATTACH at a DETACHED lane attaches it and recombines; at an ATTACHED lane it changes nothing (R160). -/
def State.attachLane (s : State) (l : LaneId) : State :=
  if (s.lane l).attached then s else (s.modLane l (fun p => { p with attached := true })).recombine

/-- DETACH at a DETACHED lane changes nothing (R161). -/
def State.detachRequest (s : State) (l : LaneId) : State := if (s.lane l).attached then s.detachLane l else s

/-- The votes as they are held: on an INTERMEDIATE car the claim vote is no (R48). -/
def heldVotes (kind : CarKind) (v : Votes) : Votes := { v with claim := v.claim && kind == .cab }

/-- SET-VOTES replaces the three votes together and recombines (R47, R48). While the store is LOADING the working copy
has no car kind of its own, and the model takes INTERMEDIATE: a claim vote named then is held as no, and stays no
after the load of a CAB (DESIGN CHOICE, log 46). -/
def State.setVotes (s : State) (l : LaneId) (v : Votes) : State :=
  (s.modLane l (fun p => { p with votes := heldVotes s.store.working.kind v })).recombine

/-- FETCH: the head entry with the count left, or EMPTY (R162). -/
def State.fetchEntry (s : State) (l : LaneId) : Reply × State :=
  match (s.lane l).receiveQueue with
  | [] => (Reply.bare .empty, s)
  | r :: rest =>
    ({ result := .done, body := r.bytes rest.length }, s.modLane l (fun p => { p with receiveQueue := rest }))

/-- CLEAR-NOTICES: the named notices, then the report as it stands (R167). -/
def State.clearNotices (s : State) (l : LaneId) (named : BitVec 12) : Reply × State :=
  let s := s.modLane l (LanePort.clear named)
  ({ result := .done, body := (s.lane l).noticeReport }, s)

/-- START-INAUGURATION (R62). -/
def State.startInauguration (s : State) : Reply × State :=
  if s.inhibited then (Reply.bare .inhibited, s) else (Reply.bare .done, s.topologyChange)

/-- RETRAIN-LINE: a FAILED line enters SETTLING, any other is unchanged (R71). -/
def State.retrainLine (s : State) (e : EndId) (x : LineId) : State :=
  if (s.line e x).state = .failed then
    (s.modLine e x (LineUnit.enterSettling s.settleTime true)).afterLines e
  else s

/-- READ-SETTING of one record code (R176): STORE-BUSY while LOADING, whatever the record. -/
def State.readSetting (s : State) (code : Byte) : Reply :=
  if s.store.activity = .loading then Reply.bare .storeBusy
  else match decodeRecord code with
    | some r => { result := .done, body := s.store.readBytes code r }
    | none => Reply.bare .badRequest

/-- The store's operation starts for a lane (R177, R179). -/
def Store.begin_ (t : Store) (a : StoreActivity) (l : LaneId) : Store :=
  { t with activity := a, writingLane := some l, operation := some Config.storeTime }

/-- WRITE-SETTING after its attach check: form, lock, busy, accepted (R177). -/
def State.writeSetting (s : State) (l : LaneId) (w : SettingWrite) : Reply × State :=
  match s.store.image.write w.record w.value with
  | none => (Reply.bare .badRequest, s)
  | some image =>
    if s.store.locked then (Reply.bare .locked, s)
    else if s.store.activity ≠ .idle then (Reply.bare .storeBusy, s)
    else
      ({ result := .done, body := w.code :: wordBytes (image.value w.record) },
       { s with store := Store.begin_ { s.store with image := image } .writing l })

/-- LOCK-COMMISSIONING after its first attach check (R179). -/
def State.lockCommissioning (s : State) (l : LaneId) : Reply × State :=
  if !(s.lane l.other).attached then (Reply.bare .detached, s)
  else if s.store.locked then (Reply.bare .locked, s)
  else if s.store.activity ≠ .idle then (Reply.bare .storeBusy, s)
  else (Reply.bare .done, { s with store := s.store.begin_ .locking l })

/-- The operation timer of a write or a lock reaches 5 ms: IDLE, and STORE-DONE to the writing lane (R178, R179). -/
def State.storeDone (s : State) : State :=
  let lane := s.store.writingLane
  let s := { s with store := { s.store with activity := .idle, writingLane := none, operation := none } }
  match lane with
  | some l => s.raise .storeDone l
  | none => s

end Sys2Proof.Machine
end

