-- ==== Sys2Proof/Machine/FrameCommands.lean ====
section
/-! DEFINITION. Meanings of the arrival of a frame of each kind on a line (chapter 5, R90 to R104), with the engine's
and the switch's part. -/

namespace Sys2Proof.Machine

open Sys2Proof

/-- UNKNOWN_FRAME_KIND: answered REFUSE(MALFORMED); the receiver record is not touched (R91; log 16). -/
def execUnknownFrameKind (e : EndId) (x : LineId) (kind : Byte) (f : RawFrame) (s : State) :
    Host.Outcome State Fault Refusal :=
  .next (s.arrive e x kind f (fun s => s.answer e x (.plain (frameBit f) (.refuse .malformed))))

/-- BEACON (R82, R93). -/
def execBeacon (e : EndId) (x : LineId) (f : RawFrame) (s : State) : Host.Outcome State Fault Refusal :=
  .next (s.arrive e x kindBeacon f
    (fun s => s.takeUnanswered e x f decodeBeacon (fun p s => s.takeBeacon e p)))

/-- PATTERN_REQUEST: answered ACCEPT, after which the named line enters pattern hold (R79, R103): when that ACCEPT has
been sent. -/
def execPatternRequest (e : EndId) (x : LineId) (f : RawFrame) (s : State) : Host.Outcome State Fault Refusal :=
  .next (s.arrive e x kindPatternRequest f
    (fun s => s.takeAwaiting e x f decodePatternRequest
      (fun y s => s.earn e x { bit := frameBit f, answer := .accept, holdAfter := some y })))

/-- ALERT (R29, R30, R56). -/
def execAlert (e : EndId) (x : LineId) (f : RawFrame) (s : State) : Host.Outcome State Fault Refusal :=
  .next (s.controlArrives e x kindAlert f decodeAlert (fun a s => s.onAlert e a))

/-- TALLY (R32 to R35, R57). -/
def execTally (e : EndId) (x : LineId) (f : RawFrame) (s : State) : Host.Outcome State Fault Refusal :=
  .next (s.controlArrives e x kindTally f decodeTally (fun t s => s.onTally e t.1 t.2))

/-- CLOSURE (R36 to R39). -/
def execClosure (e : EndId) (x : LineId) (f : RawFrame) (s : State) : Host.Outcome State Fault Refusal :=
  .next (s.controlArrives e x kindClosure f decodeClosure (fun c s => s.onClosure e c.1 c.2.1 c.2.2))

/-- COMMIT (R40, R41). -/
def execCommit (e : EndId) (x : LineId) (f : RawFrame) (s : State) : Host.Outcome State Fault Refusal :=
  .next (s.controlArrives e x kindCommit f decodeCommit (fun c s => s.onCommit e c.1 c.2.1 c.2.2))

/-- DISSENT (R42 to R44). -/
def execDissent (e : EndId) (x : LineId) (f : RawFrame) (s : State) : Host.Outcome State Fault Refusal :=
  .next (s.controlArrives e x kindDissent f decodeDissent (fun d s => s.onDissent e d.1 d.2))

/-- DEFER (R58). -/
def execDefer (e : EndId) (x : LineId) (f : RawFrame) (s : State) : Host.Outcome State Fault Refusal :=
  .next (s.controlArrives e x kindDefer f decodeDefer (fun d s => s.onDefer e d.1 d.2))

/-- DATA (R103, R114 to R117, R130). -/
def execData (e : EndId) (x : LineId) (f : RawFrame) (s : State) : Host.Outcome State Fault Refusal :=
  .next (s.arrive e x kindData f
    (fun s => s.takeAwaiting e x f decodeData (fun d s => s.examineArrival e x (frameBit f) d)))

/-- ACCEPT (R96). -/
def execAccept (e : EndId) (x : LineId) (f : RawFrame) (s : State) : Host.Outcome State Fault Refusal :=
  .next (s.arrive e x kindAccept f
    (fun s => s.takeUnanswered e x f decodeNoBody
      (fun _ s => s.onReply e (frameBit f) (fun s => s.endFrame .accept e))))

/-- HOLD (R99). -/
def execHold (e : EndId) (x : LineId) (f : RawFrame) (s : State) : Host.Outcome State Fault Refusal :=
  .next (s.arrive e x kindHold f
    (fun s => s.takeUnanswered e x f decodeNoBody (fun _ s => s.onReply e (frameBit f) (fun s => s.onHold e))))

/-- REFUSE (R100). -/
def execRefuse (e : EndId) (x : LineId) (f : RawFrame) (s : State) : Host.Outcome State Fault Refusal :=
  .next (s.arrive e x kindRefuse f
    (fun s => s.takeUnanswered e x f decodeRefuse
      (fun _ s => s.onReply e (frameBit f) (fun s => s.endFrame .refuse e))))

end Sys2Proof.Machine
end

