-- ==== Sys2Proof/Machine/LaneCommands.lean ====
section
/-! DEFINITION. Meanings of a lane transaction and of the handling of each request (chapter 9). -/

namespace Sys2Proof.Machine

open Sys2Proof

/-- A reply DONE with a body, the node unchanged. -/
def State.answerDone (s : State) (body : List Byte) : Reply × State := ({ result := .done, body := body }, s)

/-- LANE_TRANSACTION: examined at the release of select; none is taken while a reset holds the port, and one that was in
progress at a reset is abandoned, its request not taken and its reply not collected, also where that reset is over
when select is released (R155 to R157, R169, R170). -/
def execLaneTransaction (l : LaneId) (span : TransactionSpan) (bytes : List Byte) (s : State) :
    Host.Outcome State Fault Refusal :=
  .next (if s.portHeld l || span == .acrossReset then s
    else s.modLane l (LanePort.transact (span == .fromPending) bytes))

/-- UNKNOWN_REQUEST: BAD-REQUEST (R159). -/
def execUnknownRequest (l : LaneId) (s : State) : Host.Outcome State Fault Refusal :=
  .next (s.handleKind l (fun kind => !knownRequest kind) (fun _ => (Reply.bare .badRequest, s)))

/-- NULL: DONE, and nothing changes (R159). -/
def execNull (l : LaneId) (s : State) : Host.Outcome State Fault Refusal :=
  .next (s.handle l codeNull (noBody s (s.answerDone [])))

/-- ATTACH (R160). -/
def execAttach (l : LaneId) (s : State) : Host.Outcome State Fault Refusal :=
  .next (s.handle l codeAttach (noBody s (Reply.bare .done, s.attachLane l)))

/-- DETACH (R161). -/
def execDetach (l : LaneId) (s : State) : Host.Outcome State Fault Refusal :=
  .next (s.handle l codeDetach (noBody s (Reply.bare .done, s.detachRequest l)))

/-- SET_VOTES (R47, R48, R50). -/
def execSetVotes (l : LaneId) (s : State) : Host.Outcome State Fault Refusal :=
  .next (s.handleAttached l codeSetVotes (withBody s decodeVotes (fun v => (Reply.bare .done, s.setVotes l v))))

/-- SEND (R124). -/
def execSend (l : LaneId) (s : State) : Host.Outcome State Fault Refusal :=
  .next (s.handleAttached l codeSend
    (withBody s decodeSend (fun m => let r := s.judgeSend l m; (Reply.bare r.1, r.2))))

/-- FETCH (R162). -/
def execFetch (l : LaneId) (s : State) : Host.Outcome State Fault Refusal :=
  .next (s.handleAttached l codeFetch (noBody s (s.fetchEntry l)))

/-- READ_DIRECTORY (R15). -/
def execReadDirectory (l : LaneId) (s : State) : Host.Outcome State Fault Refusal :=
  .next (s.handle l codeReadDirectory (withBody s decodeByte (fun b => (s.directory.read b.toNat, s))))

/-- READ_NODE (R163). -/
def execReadNode (l : LaneId) (s : State) : Host.Outcome State Fault Refusal :=
  .next (s.handle l codeReadNode (noBody s (s.answerDone (s.nodeBytes l))))

/-- READ_LINES (R81, R164). -/
def execReadLines (l : LaneId) (s : State) : Host.Outcome State Fault Refusal :=
  .next (s.handle l codeReadLines
    (withBody s decodeLineBody (fun x => s.answerDone ((s.line x.1 x.2).recordBytes x.1 x.2))))

/-- READ_COUNTERS (R164). -/
def execReadCounters (l : LaneId) (s : State) : Host.Outcome State Fault Refusal :=
  .next (s.handle l codeReadCounters (noBody s (s.answerDone (s.counterBytes l))))

/-- READ_NOTICES (R167). -/
def execReadNotices (l : LaneId) (s : State) : Host.Outcome State Fault Refusal :=
  .next (s.handle l codeReadNotices (noBody s (s.answerDone (s.lane l).noticeReport)))

/-- CLEAR_NOTICES (R167). -/
def execClearNotices (l : LaneId) (s : State) : Host.Outcome State Fault Refusal :=
  .next (s.handle l codeClearNotices (withBody s decodeNoticeSet (fun n => s.clearNotices l n)))

/-- SET_MASK (R167). -/
def execSetMask (l : LaneId) (s : State) : Host.Outcome State Fault Refusal :=
  .next (s.handle l codeSetMask
    (withBody s decodeNoticeSet (fun n => (Reply.bare .done, s.modLane l (fun p => { p with mask := n })))))

/-- START_INAUGURATION (R62). -/
def execStartInauguration (l : LaneId) (s : State) : Host.Outcome State Fault Refusal :=
  .next (s.handleAttached l codeStartInauguration (noBody s s.startInauguration))

/-- RETRAIN_LINE (R71). -/
def execRetrainLine (l : LaneId) (s : State) : Host.Outcome State Fault Refusal :=
  .next (s.handleAttached l codeRetrainLine
    (withBody s decodeLineBody (fun x => (Reply.bare .done, s.retrainLine x.1 x.2))))

/-- READ_SETTING (R176). -/
def execReadSetting (l : LaneId) (s : State) : Host.Outcome State Fault Refusal :=
  .next (s.handle l codeReadSetting (withBody s decodeByte (fun b => (s.readSetting b, s))))

/-- WRITE_SETTING (R177). -/
def execWriteSetting (l : LaneId) (s : State) : Host.Outcome State Fault Refusal :=
  .next (s.handleAttached l codeWriteSetting (withBody s decodeWrite (fun w => s.writeSetting l w)))

/-- LOCK_COMMISSIONING (R179). -/
def execLockCommissioning (l : LaneId) (s : State) : Host.Outcome State Fault Refusal :=
  .next (s.handleAttached l codeLockCommissioning (noBody s (s.lockCommissioning l)))

end Sys2Proof.Machine
end

