-- ==== Sys2Proof/Machine/LineCommands.lean ====
section
/-! DEFINITION. Meanings of the inputs of an end, the timers of a line, its sweeps and recentres (chapter 4), and of
the beacon period and the end of a transmission (R92). -/

namespace Sys2Proof.Machine

open Sys2Proof

/-! ## Inputs (R65 to R71) -/

/-- A change of an input at one line: DARK may wake, SETTLING restarts its timer, and any other state enters DARK
when the input was lost (R67, R68, R70, R71). -/
def EndUnit.inputChanged (settle : Nat) (present : Bool) (x : LineId) (u : EndUnit) : EndUnit :=
  match (u.line x).state with
  | .dark => u.modLine x (LineUnit.wake settle u.sense)
  | .settling => u.modLine x (fun n => { n with settleTimer := some settle })
  | .training | .active | .silent | .failed => if present then u else u.enterDark x

/-- A change of coupler sense reaches both lines (R65). -/
def EndUnit.senseChanged (settle : Nat) (coupled : Bool) (u : EndUnit) : EndUnit :=
  (u.inputChanged settle coupled .lineA).inputChanged settle coupled .lineB

/-- The coupler-sense input of an end takes a level; a level that is no change is no event (R65, log 2). -/
def State.senseChange (s : State) (e : EndId) (coupled : Bool) : State :=
  if (s.endUnit e).sense = coupled then s
  else
    let s := s.modEnd e (fun u => { u with sense := coupled })
    if s.bypass.state ≠ .off then s
    else (s.modEnd e (EndUnit.senseChanged s.settleTime coupled)).afterLines e

/-- The carrier detector of a line takes a level (R65, log 2). -/
def State.carrierChange (s : State) (e : EndId) (x : LineId) (present : Bool) : State :=
  if (s.line e x).carrier = present then s
  else
    let s := s.modLine e x (fun n => { n with carrier := present })
    if s.bypass.state ≠ .off then s
    else (s.modEnd e (EndUnit.inputChanged s.settleTime present x)).afterLines e

/-- The settle timer of a line expires: TRAINING on good inputs, else DARK (R69). -/
def EndUnit.settleExpired (x : LineId) (u : EndUnit) : EndUnit :=
  let n := u.line x
  if n.carrier && u.sense then
    u.modLine x (LineUnit.startTraining (if n.byRetrain then .retrainRequest else .settle))
  else u.enterDark x

/-- The line is SETTLING and its settle timer runs. -/
def LineUnit.settles (n : LineUnit) : Bool := n.state == .settling && n.settleTimer.running

/-! ## Full sweeps (R73 to R76) -/

/-- The line waits in TRAINING for its trainer (R73). -/
def LineUnit.waitsForTrainer (n : LineUnit) : Bool := n.state == .training && n.wantsSweep

/-- The trainer takes a line for a full sweep, its pass map cleared (R73). -/
def EndUnit.startFullSweep (x : LineId) (u : EndUnit) : EndUnit :=
  { u.modLine x (fun n => { n with wantsSweep := false }) with
    trainer := { job := .fullSweep x, passMap := Trainer.clearedMap } }

/-- A free trainer takes a waiting line, line A first (R73). -/
def EndUnit.trainerTakes (u : EndUnit) : EndUnit :=
  if u.trainer.job ≠ .free then u
  else if u.lineA.waitsForTrainer then u.startFullSweep .lineA
  else if u.lineB.waitsForTrainer then u.startFullSweep .lineB
  else u

/-- The record after a full sweep (R76, R81): one sweep more, its outcome, and its window when it passed. -/
def TrainingRecord.swept (outcome : SweepOutcome) (window : Option Window) (r : TrainingRecord) : TrainingRecord :=
  { r with
    sweeps := r.sweeps + 1, lastSweep := outcome,
    window := match window with
      | some w => some w
      | none => r.window }

/-- The trainer holds the pass map of a sweep that has ended, and is free (R73). -/
def EndUnit.trainerDone (map : List Bool) (u : EndUnit) : EndUnit :=
  { u with trainer := { job := .free, passMap := map } }

/-- A failed sweep: a pause, or FAILED with LINE-FAULT after the third (R74). -/
def State.sweepFailed (s : State) (e : EndId) (x : LineId) : State :=
  if Config.maxSweeps ≤ (s.line e x).record.sweeps then
    (s.modLine e x (fun n => { n with state := .failed })).raiseBoth .lineFault
  else s.modLine e x (fun n => { n with pauseTimer := some Config.pauseTime })

/-- A full sweep of a line ends (R74, R76). -/
def State.fullSweepEnded (s : State) (e : EndId) (x : LineId) (runs : List Nat) : State :=
  let map := sweepMap runs 0 63
  let result := fullSweepResult s.store.working.wmin (s.store.working.offset e x) map
  let s := s.modEnd e (EndUnit.trainerDone map)
  let s := s.modLine e x (fun n => { n with record := n.record.swept result.1 result.2 })
  let s := if result.2.isSome then s.enterActive e x else s.sweepFailed e x
  s.afterLines e

/-! ## Recentres (R77 to R80) -/

/-- The line after a line in the order of the rotation (R77). -/
def nextTurn : EndId × LineId → EndId × LineId
  | (e, .lineA) => (e, .lineB)
  | (e, .lineB) => (e.other, .lineA)

/-- The line can be recentred, or carry the end while its partner is (R77). -/
def LineUnit.recentrable (n : LineUnit) : Bool := n.isActive && n.recentre == .none

/-- The conditions of a turn on a line (R77). -/
def EndUnit.mayRecentre (x : LineId) (u : EndUnit) : Bool :=
  (u.line x).recentrable && (u.line x.partner).recentrable && u.state.identified

/-- A recentre starts: the line is marked, and its PATTERN-REQUEST joins the control queue; at a full queue it is
dropped and the recentre abandoned (R78, R128). -/
def State.startRecentre (s : State) (e : EndId) (x : LineId) : State :=
  let room := decide ((s.endUnit e).queues.control.length < Config.controlCapacity)
  let s := (s.modLine e x (fun n => { n with recentre := .requested })).sendControl e (.patternRequest x true)
  if room then s else s.modEnd e (EndUnit.abandonRecentre x)

/-- A recentre turn falls on the line the pointer moves to (R77). -/
def State.recentreTurn (s : State) : State :=
  let next := nextTurn s.rotation
  let s := { s with rotation := next, recentreTimer := some Config.recentrePeriod }
  if (s.endUnit next.1).mayRecentre next.2 then s.startRecentre next.1 next.2 else s

/-- A recentre's outcome and the end of its mark (R78, R81). -/
def LineUnit.recentreOver (o : RecentreOutcome) (w : Option Window) (n : LineUnit) : LineUnit :=
  { n with
    recentre := .none
    record := { n.record with
      lastRecentre := o
      window := match w with
        | some w => some w
        | none => n.record.window } }

/-- A recentre sweep of a line ends: MOVED, or RETRAIN into TRAINING (R80). -/
def State.recentreEnded (s : State) (e : EndId) (x : LineId) (runs : List Nat) : State :=
  let phase := (s.line e x).record.phase
  let map := sweepMap runs (phase - 8) (min 63 (phase + 8))
  let s := s.modEnd e (EndUnit.trainerDone map)
  match recentreResult s.store.working.wmin (s.store.working.offset e x) map phase with
  | some w => s.modLine e x (LineUnit.recentreOver .moved (some w))
  | none =>
    ((s.modLine e x (LineUnit.recentreOver .retrain none)).modEnd e
      (EndUnit.enterTraining x .recentre)).afterLines e

/-! ## Pattern hold (R79) -/

/-- The end's sender waits for the pattern hold of a line (R79, R97). -/
def Sender.waitsFor (x : LineId) (n : Sender) : Bool := n.waitsHold && n.currentLine == x

/-- The pattern hold of a line ends: a held-back beacon and a waiting repeat are sent (R79). Where both wait, the beacon
goes first: R92 orders them so as a transmission ends, and that a hold's end orders them alike is the model's choice
(log 48). -/
def State.holdEnded (s : State) (e : EndId) (x : LineId) : State :=
  let s := s.modLine e x (fun n => { n with holdTimer := none })
  if (s.endUnit e).sender.waitsFor x then s.sendHeld e else s.serve e x

/-! ## The meanings -/

/-- COUPLER_SENSE_CHANGE (R65). -/
def execCouplerSenseChange (e : EndId) (coupled : Bool) (s : State) : Host.Outcome State Fault Refusal :=
  .next (s.senseChange e coupled)

/-- CARRIER_CHANGE (R65). -/
def execCarrierChange (e : EndId) (x : LineId) (present : Bool) (s : State) : Host.Outcome State Fault Refusal :=
  .next (s.carrierChange e x present)

/-- SETTLE_TIMER_EXPIRY (R69). -/
def execSettleTimerExpiry (e : EndId) (x : LineId) (s : State) : Host.Outcome State Fault Refusal :=
  .next (if (s.line e x).settles then (s.modEnd e (EndUnit.settleExpired x)).afterLines e else s)

/-- FULL_SWEEP_START (R73). -/
def execFullSweepStart (e : EndId) (s : State) : Host.Outcome State Fault Refusal :=
  .next (s.modEnd e EndUnit.trainerTakes)

/-- FULL_SWEEP_END (R74, R76). -/
def execFullSweepEnd (e : EndId) (runs : List Nat) (s : State) : Host.Outcome State Fault Refusal :=
  .next (match (s.endUnit e).trainer.job with
    | .fullSweep x => s.fullSweepEnded e x runs
    | .recentreSweep _ => s
    | .free => s)

/-- TRAINING_PAUSE_END (R73, R74). -/
def execTrainingPauseEnd (e : EndId) (x : LineId) (s : State) : Host.Outcome State Fault Refusal :=
  .next (if (s.line e x).state = .training ∧ (s.line e x).pauseTimer.running then
      s.modLine e x (fun n => { n with pauseTimer := none, wantsSweep := true })
    else s)

/-- SILENCE_TIMER_EXPIRY (R72). -/
def execSilenceTimerExpiry (e : EndId) (x : LineId) (s : State) : Host.Outcome State Fault Refusal :=
  .next (if (s.line e x).isActive && (s.line e x).silenceTimer.running then s.lineSilent e x else s)

/-- RECENTRE_TURN (R77). The period does not run while NRST is asserted (log 26). -/
def execRecentreTurn (s : State) : Host.Outcome State Fault Refusal :=
  .next (if !s.nrst && s.recentreTimer.running then s.recentreTurn else s)

/-- RECENTRE_SWEEP_END (R80). -/
def execRecentreSweepEnd (e : EndId) (runs : List Nat) (s : State) : Host.Outcome State Fault Refusal :=
  .next (match (s.endUnit e).trainer.job with
    | .recentreSweep x => s.recentreEnded e x runs
    | .fullSweep _ => s
    | .free => s)

/-- PATTERN_HOLD_END (R79). -/
def execPatternHoldEnd (e : EndId) (x : LineId) (s : State) : Host.Outcome State Fault Refusal :=
  .next (if (s.line e x).inHold then s.holdEnded e x else s)

/-- BEACON_DUE (R92). -/
def execBeaconDue (e : EndId) (x : LineId) (s : State) : Host.Outcome State Fault Refusal :=
  .next (if (s.line e x).isActive && (s.line e x).beaconTimer.running then s.queueBeacon e x else s)

/-- TRANSMISSION_END (R92, R104). -/
def execTransmissionEnd (e : EndId) (x : LineId) (s : State) : Host.Outcome State Fault Refusal :=
  .next (s.endTransmission e x)

end Sys2Proof.Machine
end

