-- ==== Sys2Proof/Machine/NodeCommands.lean ====
section
/-! DEFINITION. Meanings of the node's own events: the stop-and-wait sender's timers, the end arbiter, the resolver,
the two commands that follow a commit, the engine's deadline, the bypass controller's timers, the scrub, and the
store's operations. -/

namespace Sys2Proof.Machine

open Sys2Proof

/-- COMMIT_PURGE: the switch takes the commit (R136, R137; log 10). -/
def execCommitPurge (s : State) : Host.Outcome State Fault Refusal := .next s.purgeAtCommit

/-- ADMISSION_AT_COMMIT: each end evaluates admission again (R86, R137; log 9, log 10). -/
def execAdmissionAtCommit (s : State) : Host.Outcome State Fault Refusal :=
  .next ((s.decideEnd .end1 false).decideEnd .end2 false)

/-- The sender awaits a reply and its reply timeout is marked as running. -/
def Sender.timesReply (n : Sender) : Bool := n.state == .awaiting && n.timer == .reply

/-- The reply timeout of an end can run out: it is counted from the end of the send (R97), so not while the send still waits
for its line (log 14). -/
def State.replyMayTimeOut (s : State) (e : EndId) : Bool :=
  let n := (s.endUnit e).sender
  n.timesReply && !(s.line e n.currentLine).tx.frameDue

/-- The sender is BACKING and its hold wait runs. -/
def Sender.timesHold (n : Sender) : Bool := n.state == .backing && n.timer == .holdWait

/-- REPLY_TIMEOUT (R97, R98). -/
def execReplyTimeout (e : EndId) (s : State) : Host.Outcome State Fault Refusal :=
  .next (if s.replyMayTimeOut e then s.replyTimedOut e else s)

/-- HOLD_WAIT_END: the frame is sent again on the current line (R99). -/
def execHoldWaitEnd (e : EndId) (s : State) : Host.Outcome State Fault Refusal :=
  .next (if (s.endUnit e).sender.timesHold then s.sendHeld e else s)

/-- PENDING_SEND: a PENDING sender sends when a line is selectable (R87, R94). That other commands may come between the line's
becoming selectable and this one is the model's (log 52). -/
def execPendingSend (e : EndId) (s : State) : Host.Outcome State Fault Refusal :=
  .next (if (s.endUnit e).sender.state = .pending then s.firstSend e else s)

/-- ARBITER_OFFER (R94, R131, R132). R131 makes the offer at the event that brings its conditions together, and the table gives
it a row: that other commands may come between is the model's (log 52). -/
def execArbiterOffer (e : EndId) (s : State) : Host.Outcome State Fault Refusal := .next (s.offerFrame e)

/-- RESOLVER_EXAMINATION (R118, R125 to R127). R125 and R136 give the resolver its opportunity at an event, and the table gives
it a row: that other commands may come between is the model's (log 52), and so is that at most one head leaves in it, a
second head at the next (log 11). -/
def execResolverExamination (s : State) : Host.Outcome State Fault Refusal := .next s.resolverOpportunity

/-- DEADLINE_EXPIRY (R45). -/
def execDeadlineExpiry (s : State) : Host.Outcome State Fault Refusal :=
  .next (if s.engine.deadline.running then s.deadlineExpired else s)

/-- RELEASE_END (R145, R149). -/
def execReleaseEnd (s : State) : Host.Outcome State Fault Refusal :=
  .next (if s.bypass.state = .releasing ∧ s.bypass.transition.running then s.releaseEnded else s)

/-- ENGAGE_END (R150). -/
def execEngageEnd (s : State) : Host.Outcome State Fault Refusal :=
  .next (if s.bypass.state = .engaging ∧ s.bypass.transition.running then s.engageEnded else s)

/-- SCRUB (R152, R153). -/
def execScrub (s : State) : Host.Outcome State Fault Refusal :=
  .next (if s.bypass.scrubTimer.running then s.scrubbed else s)

/-- The store's operation of one kind is in progress. -/
def Store.operates (a : StoreActivity) (t : Store) : Bool := t.activity == a && t.operation.running

/-- WRITE_COMPLETE: the area holds the write image and its check (R178). -/
def execWriteComplete (s : State) : Host.Outcome State Fault Refusal :=
  .next (if s.store.operates .writing then
      State.storeDone
        { s with store := { s.store with
            area := .written s.store.image.areaBytes (crc16 s.store.image.areaBytes) } }
    else s)

/-- LOCK_COMPLETE: the lock cell is written LOCKED (R179). -/
def execLockComplete (s : State) : Host.Outcome State Fault Refusal :=
  .next (if s.store.operates .locking then State.storeDone { s with store := { s.store with locked := true } }
    else s)

end Sys2Proof.Machine
end

