-- ==== Sys2Proof/Machine/ResetCommands.lean ====
section
/-! DEFINITION. Meanings of the resets of the node and of a lane, and of start-up (R143, R169, R170, R173, R180). -/

namespace Sys2Proof.Machine

open Sys2Proof

/-- POWER_ON: every block takes its reset values and LOADING begins, the reset cause POWER-ON (R143, R173). -/
def execPowerOn (s : State) : Host.Outcome State Fault Refusal := .next (s.resetBlocks .powerOn)

/-- NODE_RESET: NRST is asserted; every block is reset, the relay drive removed, the reset cause NODE-RESET (R143,
R170, R173). That the command given again while NRST is asserted resets again, and then records NODE-RESET also over the
POWER-ON of a power-on during that assertion, is the model's choice (log 38). -/
def execNodeReset (s : State) : Host.Outcome State Fault Refusal :=
  .next { s.resetBlocks .nodeReset with nrst := true }

/-- NODE_RESET_RELEASE: NRST is released, and start-up begins with the cause recorded and the store in LOADING
(R173, R180; log 27). -/
def execNodeResetRelease (s : State) : Host.Outcome State Fault Refusal := .next { s with nrst := false }

/-- START_UP_COMPLETE: steps 2 to 5 of start-up (R180), when NRST is released and the store is LOADING (log 2,
log 26). -/
def execStartUpComplete (s : State) : Host.Outcome State Fault Refusal :=
  .next (if !s.nrst && s.store.activity == .loading then s.startUp else s)

/-- LANE_RESET: LRST is asserted (R169), again where it is asserted already (log 38). The port is cleared, the bytes last
sent with it (log 25), before the vote register recombines, so that notices and losses which the recombination brings to
this lane stand after the reset: R169 lets a notice and the reset be taken in either order, and this order is the model's
choice (log 50). -/
def execLaneReset (l : LaneId) (s : State) : Host.Outcome State Fault Refusal :=
  .next (s.modLane l LanePort.laneReset).recombine

/-- LANE_RESET_RELEASE: the port takes transactions again, and its pending notices drive ATTN (R169). -/
def execLaneResetRelease (l : LaneId) (s : State) : Host.Outcome State Fault Refusal :=
  .next (s.modLane l (fun p => { p with lrst := false }))

end Sys2Proof.Machine
end

