-- ==== Sys2Proof/Machine/Dispatch.lean ====
section
/-! DEFINITION. The dispatch: one arm per command, each one direct call of its meaning. -/

namespace Sys2Proof.Machine

open Sys2Proof

/-- The effect of a command on everything but the queue. -/
def exec (i : Instr) (s : State) : Host.Outcome State Fault Refusal :=
  match i with
  | .powerOn => Sys2Proof.Machine.execPowerOn s
  | .nodeReset => Sys2Proof.Machine.execNodeReset s
  | .nodeResetRelease => Sys2Proof.Machine.execNodeResetRelease s
  | .startUpComplete => Sys2Proof.Machine.execStartUpComplete s
  | .laneReset l => Sys2Proof.Machine.execLaneReset l s
  | .laneResetRelease l => Sys2Proof.Machine.execLaneResetRelease l s
  | .couplerSenseChange e coupled => Sys2Proof.Machine.execCouplerSenseChange e coupled s
  | .carrierChange e x present => Sys2Proof.Machine.execCarrierChange e x present s
  | .settleTimerExpiry e x => Sys2Proof.Machine.execSettleTimerExpiry e x s
  | .fullSweepStart e => Sys2Proof.Machine.execFullSweepStart e s
  | .fullSweepEnd e runs => Sys2Proof.Machine.execFullSweepEnd e runs s
  | .trainingPauseEnd e x => Sys2Proof.Machine.execTrainingPauseEnd e x s
  | .silenceTimerExpiry e x => Sys2Proof.Machine.execSilenceTimerExpiry e x s
  | .recentreTurn => Sys2Proof.Machine.execRecentreTurn s
  | .recentreSweepEnd e runs => Sys2Proof.Machine.execRecentreSweepEnd e runs s
  | .patternHoldEnd e x => Sys2Proof.Machine.execPatternHoldEnd e x s
  | .beaconDue e x => Sys2Proof.Machine.execBeaconDue e x s
  | .transmissionEnd e x => Sys2Proof.Machine.execTransmissionEnd e x s
  | .unknownFrameKind e x kind f => Sys2Proof.Machine.execUnknownFrameKind e x kind f s
  | .beacon e x f => Sys2Proof.Machine.execBeacon e x f s
  | .patternRequest e x f => Sys2Proof.Machine.execPatternRequest e x f s
  | .alert e x f => Sys2Proof.Machine.execAlert e x f s
  | .tally e x f => Sys2Proof.Machine.execTally e x f s
  | .closure e x f => Sys2Proof.Machine.execClosure e x f s
  | .commit e x f => Sys2Proof.Machine.execCommit e x f s
  | .commitPurge => Sys2Proof.Machine.execCommitPurge s
  | .admissionAtCommit => Sys2Proof.Machine.execAdmissionAtCommit s
  | .dissent e x f => Sys2Proof.Machine.execDissent e x f s
  | .defer e x f => Sys2Proof.Machine.execDefer e x f s
  | .data e x f => Sys2Proof.Machine.execData e x f s
  | .accept e x f => Sys2Proof.Machine.execAccept e x f s
  | .hold e x f => Sys2Proof.Machine.execHold e x f s
  | .refuse e x f => Sys2Proof.Machine.execRefuse e x f s
  | .replyTimeout e => Sys2Proof.Machine.execReplyTimeout e s
  | .holdWaitEnd e => Sys2Proof.Machine.execHoldWaitEnd e s
  | .pendingSend e => Sys2Proof.Machine.execPendingSend e s
  | .arbiterOffer e => Sys2Proof.Machine.execArbiterOffer e s
  | .resolverExamination => Sys2Proof.Machine.execResolverExamination s
  | .deadlineExpiry => Sys2Proof.Machine.execDeadlineExpiry s
  | .releaseEnd => Sys2Proof.Machine.execReleaseEnd s
  | .engageEnd => Sys2Proof.Machine.execEngageEnd s
  | .scrub => Sys2Proof.Machine.execScrub s
  | .writeComplete => Sys2Proof.Machine.execWriteComplete s
  | .lockComplete => Sys2Proof.Machine.execLockComplete s
  | .laneTransaction l span bytes => Sys2Proof.Machine.execLaneTransaction l span bytes s
  | .unknownRequest l => Sys2Proof.Machine.execUnknownRequest l s
  | .null l => Sys2Proof.Machine.execNull l s
  | .attach l => Sys2Proof.Machine.execAttach l s
  | .detach l => Sys2Proof.Machine.execDetach l s
  | .setVotes l => Sys2Proof.Machine.execSetVotes l s
  | .send l => Sys2Proof.Machine.execSend l s
  | .fetch l => Sys2Proof.Machine.execFetch l s
  | .readDirectory l => Sys2Proof.Machine.execReadDirectory l s
  | .readNode l => Sys2Proof.Machine.execReadNode l s
  | .readLines l => Sys2Proof.Machine.execReadLines l s
  | .readCounters l => Sys2Proof.Machine.execReadCounters l s
  | .readNotices l => Sys2Proof.Machine.execReadNotices l s
  | .clearNotices l => Sys2Proof.Machine.execClearNotices l s
  | .setMask l => Sys2Proof.Machine.execSetMask l s
  | .startInauguration l => Sys2Proof.Machine.execStartInauguration l s
  | .retrainLine l => Sys2Proof.Machine.execRetrainLine l s
  | .readSetting l => Sys2Proof.Machine.execReadSetting l s
  | .writeSetting l => Sys2Proof.Machine.execWriteSetting l s
  | .lockCommissioning l => Sys2Proof.Machine.execLockCommissioning l s

end Sys2Proof.Machine
end

