-- ==== Sys2Proof/Safety.lean ====
section
/-! DEFINITION. What every state of a running node keeps, in the terms the statements use: queues, senders, lines,
windows, the engine, the directory, the votes, the store, and the node held out of the train. -/

namespace Sys2Proof.Machine

open Sys2Proof

/-- A property holds of both ends. -/
def State.EveryEnd (s : State) (P : EndUnit → Prop) : Prop := P s.end1 ∧ P s.end2

/-- A property holds of both lines of an end. -/
def EndUnit.EveryLine (u : EndUnit) (P : LineUnit → Prop) : Prop := P u.lineA ∧ P u.lineB

/-- A property holds of both lane ports. -/
def State.EveryLane (s : State) (P : LanePort → Prop) : Prop := P s.laneA ∧ P s.laneB

/-! ## Queues (R122, R129) -/

/-- The queues of an end hold no more than their capacities, each class queue holds frames of its class, and DATA
frames stand in them only while the end is ADMITTED. -/
def EndUnit.QueuesKept (u : EndUnit) : Prop :=
  u.queues.control.length ≤ 4 ∧ u.queues.command.length ≤ 8 ∧ u.queues.process.length ≤ 16 ∧
  u.queues.bulk.length ≤ 16 ∧
  (∀ r ∈ u.queues.command, r.frame.cls = .command) ∧ (∀ r ∈ u.queues.process, r.frame.cls = .process) ∧
  (∀ r ∈ u.queues.bulk, r.frame.cls = .bulk) ∧
  (u.state ≠ .admitted → u.queues.command = [] ∧ u.queues.process = [] ∧ u.queues.bulk = [] ∧
    u.queues.reliefProcess = 0 ∧ u.queues.reliefBulk = 0)

/-- The queues of a lane hold no more than their capacities. -/
def LanePort.QueuesKept (p : LanePort) : Prop := p.sendQueue.length ≤ 8 ∧ p.receiveQueue.length ≤ 16

/-- No queue of the node holds more than its capacity (R122, R129). -/
def State.QueuesKept (s : State) : Prop := s.EveryEnd EndUnit.QueuesKept ∧ s.EveryLane LanePort.QueuesKept

/-! ## The stop-and-wait senders (5.3) -/

/-- The fields of a sender stand in the ranges and together as the table of 5.3 and R94 to R99 have them. -/
def Sender.Kept (n : Sender) : Prop :=
  (n.frame = none ↔ n.state = .idle) ∧
  (n.timer = .reply ↔ n.state = .awaiting ∧ n.waitsHold = false) ∧
  (n.timer = .holdWait ↔ n.state = .backing) ∧
  (n.waitsHold = true → n.state = .awaiting ∧ n.sends ≤ 2) ∧
  (n.state = .pending ∨ n.state = .backing → n.sends = 0) ∧
  n.sends ≤ 3 ∧ n.holds ≤ 2000 ∧ (n.state ≠ .idle → n.holds < 2000)

/-- Both senders. -/
def State.SendersKept (s : State) : Prop := s.EveryEnd (fun u => u.sender.Kept)

/-! ## Lines and trainers (chapter 4) -/

/-- The transmit side is sending a reply. -/
def Transmitter.sendsReply (t : Transmitter) : Bool :=
  match t.sending with
  | some (.reply _ _) => true
  | some (.beacon _ _ _ _) => false
  | some (.held _ _) => false
  | none => false

/-- The timers, waits and marks of a line go with its state, its counts stay in their ranges, and in pattern hold it
sends no frame (R66 to R74, R78, R79, R92, R98). -/
def LineUnit.Kept (n : LineUnit) : Prop :=
  n.state ≠ .silent ∧
  (n.settleTimer.isSome ↔ n.state = .settling) ∧ (n.byRetrain = true → n.state = .settling) ∧
  (n.silenceTimer.isSome ↔ n.state = .active) ∧ (n.beaconTimer.isSome ↔ n.state = .active) ∧
  (n.pauseTimer.isSome → n.state = .training) ∧
  (n.wantsSweep = true → n.state = .training ∧ n.pauseTimer = none) ∧
  (n.recentre ≠ .none → n.state = .active) ∧ (n.state ≠ .active → n.tx = Transmitter.idle) ∧
  n.unanswered ≤ 2 ∧ n.record.sweeps ≤ 3 ∧ (n.state = .training → n.record.sweeps ≤ 2) ∧
  (n.holdTimer.isSome → n.tx.sending = none) ∧ (n.tx.holdAfter.isSome → n.tx.sendsReply = true)

/-- The trainer of an end sweeps a line only as that line's state has it (R73, R78). -/
def EndUnit.TrainerKept (u : EndUnit) : Prop :=
  u.trainer.passMap.length = 64 ∧
  (∀ x, u.trainer.job = .fullSweep x →
    (u.line x).state = .training ∧ (u.line x).pauseTimer = none ∧ (u.line x).wantsSweep = false) ∧
  (∀ x, u.trainer.job = .recentreSweep x ↔ (u.line x).recentre = .sweeping) ∧
  (∀ x, (u.line x).recentre ≠ .none → (u.line x.partner).recentre = .none) ∧
  (∀ x, (u.line x).recentre = .requested → (u.line x.partner).state = .active)

/-- The lines of an end, its trainer, and a frame that has been sent standing on an ACTIVE line (R101). -/
def EndUnit.LinesKept (u : EndUnit) : Prop :=
  u.EveryLine LineUnit.Kept ∧ u.TrainerKept ∧
  (u.sender.state = .awaiting ∨ u.sender.state = .backing → (u.line u.sender.currentLine).state = .active)

/-- Both ends. -/
def State.LinesKept (s : State) : Prop := s.EveryEnd EndUnit.LinesKept

/-! ## Windows (R76, R80, R81) -/

/-- A recorded window lies within 0..63, is its own width, and holds its phase at its margin. -/
def Window.Sound (w : Window) : Prop :=
  w.low ≤ w.phase ∧ w.phase ≤ w.high ∧ w.high ≤ 63 ∧ w.width = w.high - w.low + 1 ∧ 4 ≤ w.width ∧
  w.margin = min (w.phase - w.low) (w.high - w.phase)

/-- An ACTIVE line has a recorded window, and every recorded window is sound. -/
def LineUnit.WindowKept (n : LineUnit) : Prop :=
  (n.state = .active → n.record.window.isSome) ∧ ∀ w, n.record.window = some w → w.Sound

/-- All four lines, and the least window width the settings can ask. -/
def State.WindowsKept (s : State) : Prop :=
  4 ≤ s.store.working.wmin ∧ s.EveryEnd (fun u => u.EveryLine LineUnit.WindowKept)

/-! ## The node held out of the train (R65, R144) -/

/-- An end of a node that is not in the train. -/
def EndUnit.HeldOut (u : EndUnit) : Prop :=
  u.lineA.state = .dark ∧ u.lineB.state = .dark ∧ u.state = .opened ∧ u.peer = none ∧ u.receiver = none ∧
  u.sender.frame = none ∧ u.queues = EndQueues.empty ∧ u.trainer.job = .free

/-- A sender without a frame is IDLE and waits for nothing. -/
def Sender.IdleWithoutFrame (n : Sender) : Prop := n.frame = none → n.state = .idle ∧ n.waitsHold = false

/-- While the bypass is not OFF the node is out of the train: its lines DARK, its ends OPEN, its queues empty, its
directory cleared, its engine QUIET (R7, R17, R65, R144, R147). -/
def State.HeldOut (s : State) : Prop :=
  s.EveryEnd (fun u => u.sender.IdleWithoutFrame) ∧
  (s.bypass.state ≠ .off →
    s.EveryEnd EndUnit.HeldOut ∧ s.laneA.sendQueue = [] ∧ s.laneB.sendQueue = [] ∧
    s.directory = Directory.empty ∧ s.candidate = none ∧ s.engine.state = .quiet ∧ s.engine.context = none ∧
    s.engine.deadline = none ∧ s.engine.cause = none)

/-- Until start-up is complete the bypass is ENGAGED, and the store is LOADING only then (R143, R180). -/
def State.StartUpHeld (s : State) : Prop :=
  (s.store.activity = .loading → s.bypass.startUpComplete = false) ∧
  (s.bypass.startUpComplete = false → s.bypass.state = .engaged)

/-! ## The engine (chapters 2 and 3) -/

/-- The in-progress states, in which the deadline runs (R23). -/
def EngineState.inProgress : EngineState → Bool
  | .alerted => true
  | .leading => true
  | .relaying => true
  | .closed => true
  | .quiet => false
  | .mismatch => false
  | .failed => false

/-- The engine's record goes with its state: the deadline runs in the in-progress states, the mismatch cause is
present in MISMATCH, a candidate is held in CLOSED, of the attempt in the context, and the count is 0..5 (R8, R17,
R18, R22, R23, R46, R53). -/
def State.EngineKept (s : State) : Prop :=
  s.engine.count ≤ 5 ∧
  (s.engine.deadline.isSome ↔ s.engine.state.inProgress = true) ∧
  (s.engine.cause.isSome ↔ s.engine.state = .mismatch) ∧
  (s.candidate.isSome ↔ s.engine.state = .closed) ∧
  (∀ c, s.candidate = some c → ∃ x, s.engine.context = some x ∧ x.attempt = c.attempt) ∧
  (s.engine.state = .leading → ∃ x, s.engine.context = some x ∧ x.role = .starter) ∧
  (s.engine.state = .relaying → ∃ x, s.engine.context = some x ∧ x.role = .relay ∧ x.tallyEnd.isSome) ∧
  (s.engine.state = .mismatch ∨ s.engine.state = .failed → s.engine.context = none)

/-- A node in ALERTED, LEADING or RELAYING never has effective inhibit on (R55). -/
def State.InhibitKept (s : State) : Prop :=
  s.engine.effective.inhibit = true →
    s.engine.state ≠ .alerted ∧ s.engine.state ≠ .leading ∧ s.engine.state ≠ .relaying

/-! ## The directory (R1, R4, R8, R9) -/

/-- A list that the directory may hold: 1..24 entries at positions 1..N in order, no tag 0 and none twice, no claim
of an INTERMEDIATE car, and this node's own tag among them (R9). -/
def ListSound (own : Tag) (entries : List Entry) : Prop :=
  1 ≤ entries.length ∧ entries.length ≤ 24 ∧
  entries.map Entry.position = (List.range entries.length).map (· + 1) ∧
  (entries.map Entry.tag).Nodup ∧ (∀ n ∈ entries, n.tag ≠ 0) ∧
  (∀ n ∈ entries, n.kind = .intermediate → n.claim = false) ∧ (∃ n ∈ entries, n.tag = own)

/-- The form that R9 asks of a list apart from tags that stand in it once: DUPLICATE-TAG is the refusal of a list that has
this form. -/
def ListFormed (own : Tag) (entries : List Entry) : Prop :=
  1 ≤ entries.length ∧ entries.length ≤ 24 ∧
  entries.map Entry.position = (List.range entries.length).map (· + 1) ∧ (∀ n ∈ entries, n.tag ≠ 0) ∧
  (∀ n ∈ entries, n.kind = .intermediate → n.claim = false) ∧ (∃ n ∈ entries, n.tag = own)

/-- A record whose entries are a sound list and whose other fields are those the rules derive from it (R1, R4,
R5). -/
def Directory.Sound (own : Tag) (d : Directory) : Prop :=
  d.generation ≠ 0 ∧ ListSound own d.entries ∧
  (∃ n ∈ d.entries, n.tag = own ∧ d.ownPosition = some n.position ∧ d.ownOrientation = some n.orientation) ∧
  (∀ n ∈ d.entries, n.position = 1 → d.referenceTag = n.tag) ∧
  d.check = crc16 (d.entries.flatMap Entry.bytes) ∧
  (d.claimConflict = true ↔ 2 ≤ (d.entries.filter Entry.claim).length)

/-- A candidate whose list is sound and whose check value and own position were computed from it (R8, R9). -/
def Candidate.Sound (own : Tag) (c : Candidate) : Prop :=
  ListSound own (c.entries.map ListedEntry.entry) ∧
  c.check = crc16 ((c.entries.map ListedEntry.entry).flatMap Entry.bytes) ∧
  ∃ n ∈ c.entries, n.entry.tag = own ∧ c.ownPosition = n.entry.position

/-- The active record is empty or sound, and so is the candidate; while the store is LOADING both are empty (R1, R7,
R9, R16). -/
def State.DirectoryKept (s : State) : Prop :=
  (s.directory = Directory.empty ∨ s.directory.Sound s.store.working.tag) ∧
  (∀ c, s.candidate = some c → c.Sound s.store.working.tag) ∧
  (s.store.activity = .loading → s.directory = Directory.empty ∧ s.candidate = none)

/-! ## Votes and lanes (R47 to R49, R160) -/

/-- A DETACHED lane votes no to all and holds nothing in its queues (R47, R160). -/
def LanePort.DetachedIdle (p : LanePort) : Prop :=
  p.attached = false →
    p.votes.inhibit = false ∧ p.votes.claim = false ∧ p.votes.bypass = false ∧ p.sendQueue = [] ∧
    p.receiveQueue = []

/-- A value that every attached lane votes, with at least one attached (R49). -/
def State.AllAttachedVote (s : State) (vote : Votes → Bool) : Prop :=
  (s.laneA.attached = true ∨ s.laneB.attached = true) ∧
  (s.laneA.attached = true → vote s.laneA.votes = true) ∧ (s.laneB.attached = true → vote s.laneB.votes = true)

/-- The vote register holds the combination of the attached lanes' votes, and an INTERMEDIATE car claims nothing
(R48, R49). -/
def State.VotesKept (s : State) : Prop :=
  s.EveryLane LanePort.DetachedIdle ∧
  (s.engine.effective.inhibit = true ↔
    (s.laneA.attached = true ∧ s.laneA.votes.inhibit = true) ∨
    (s.laneB.attached = true ∧ s.laneB.votes.inhibit = true)) ∧
  (s.engine.effective.claim = true ↔ s.AllAttachedVote Votes.claim) ∧
  (s.engine.effective.bypass = true ↔ s.AllAttachedVote Votes.bypass) ∧
  (s.store.working.kind = .intermediate → s.laneA.votes.claim = false ∧ s.laneB.votes.claim = false) ∧
  (s.store.activity = .loading → s.store.working.kind = .intermediate)

/-! ## The settings store (R172, R177) -/

/-- Every setting lies in its range (R172). -/
def Settings.InRange (w : Settings) : Prop :=
  w.unit ≤ 99 ∧ (∀ e x, (w.offset e x).magnitude ≤ 15) ∧ 4 ≤ w.wmin ∧ w.wmin ≤ 40 ∧
  50 ≤ w.settle ∧ w.settle ≤ 2000 ∧ w.settle % 10 = 0 ∧ 5 ≤ w.beacon ∧ w.beacon ≤ 100 ∧
  1 ≤ w.reliefProcess ∧ w.reliefProcess ≤ 1023 ∧ 1 ≤ w.reliefBulk ∧ w.reliefBulk ≤ 1023

/-- The working copy and the write image stay in range, the load check is that of the working copy once it is
loaded, and an operation has its lane and its timer (R172, R173, R177 to R179). -/
def State.StoreKept (s : State) : Prop :=
  s.store.working.InRange ∧ s.store.image.InRange ∧
  (s.store.activity ≠ .loading → s.store.loadCheck = crc16 s.store.working.bytes) ∧
  (s.store.operation.isSome ↔ s.store.activity = .writing ∨ s.store.activity = .locking) ∧
  (s.store.writingLane.isSome ↔ s.store.activity = .writing ∨ s.store.activity = .locking)

/-! ## Frames the statements share -/

/-- What only the resets, start-up, the bypass controller, the store, the resolver and the rotation write. -/
def State.SameRest (s t : State) : Prop :=
  t.pending = s.pending ∧ t.nrst = s.nrst ∧ t.rotation = s.rotation ∧ t.recentreTimer = s.recentreTimer ∧
  t.resolver = s.resolver ∧ t.noListener = s.noListener ∧ t.bypass = s.bypass ∧ t.store = s.store

/-- Two ends that differ at most in their control queue and its count of drops. -/
def EndUnit.SameButControl (u v : EndUnit) : Prop :=
  v = { u with
    queues := { u.queues with control := v.queues.control }
    counters := { u.counters with controlDrops := v.counters.controlDrops } }

/-- Two lane ports that differ at most in pending marks and loss counters. -/
def LanePort.SameButReports (p q : LanePort) : Prop := q = { p with notices := q.notices, losses := q.losses }

/-- What an event at one end leaves: the rest of the node, the other end but for control frames placed there, and the
lanes but for notices and losses. The engine and the directory may act. -/
def State.EndEventFrame (e : EndId) (s t : State) : Prop :=
  s.SameRest t ∧ (s.endUnit e.other).SameButControl (t.endUnit e.other) ∧
  ∀ l, (s.lane l).SameButReports (t.lane l)

/-- The end a command is an event of, for the events of chapters 4 and 5 but the arrival of a DATA frame. -/
def endOf : Instr → Option EndId
  | .couplerSenseChange e _ | .carrierChange e _ _ | .settleTimerExpiry e _ | .fullSweepStart e
  | .fullSweepEnd e _ | .trainingPauseEnd e _ | .silenceTimerExpiry e _ | .recentreSweepEnd e _
  | .patternHoldEnd e _ | .beaconDue e _ | .transmissionEnd e _ | .unknownFrameKind e _ _ _ | .beacon e _ _
  | .patternRequest e _ _ | .alert e _ _ | .tally e _ _ | .closure e _ _ | .commit e _ _ | .dissent e _ _
  | .defer e _ _ | .accept e _ _ | .hold e _ _ | .refuse e _ _ | .replyTimeout e | .holdWaitEnd e | .pendingSend e
  | .arbiterOffer e => some e
  | .powerOn | .nodeReset | .nodeResetRelease | .startUpComplete | .laneReset _ | .laneResetRelease _
  | .recentreTurn | .commitPurge | .admissionAtCommit | .data _ _ _ | .resolverExamination | .deadlineExpiry
  | .releaseEnd | .engageEnd | .scrub | .writeComplete | .lockComplete | .laneTransaction _ _ _
  | .unknownRequest _ | .null _ | .attach _ | .detach _ | .setVotes _ | .send _ | .fetch _ | .readDirectory _
  | .readNode _ | .readLines _ | .readCounters _ | .readNotices _ | .clearNotices _ | .setMask _
  | .startInauguration _ | .retrainLine _ | .readSetting _ | .writeSetting _ | .lockCommissioning _ => none

/-- The handling of a request, and a transaction, at a lane (chapter 9). -/
def laneOf : Instr → Option LaneId
  | .laneTransaction l _ _ | .unknownRequest l | .null l | .attach l | .detach l | .setVotes l | .send l | .fetch l
  | .readDirectory l | .readNode l | .readLines l | .readCounters l | .readNotices l | .clearNotices l | .setMask l
  | .startInauguration l | .retrainLine l | .readSetting l | .writeSetting l | .lockCommissioning l => some l
  | .powerOn | .nodeReset | .nodeResetRelease | .startUpComplete | .laneReset _ | .laneResetRelease _
  | .couplerSenseChange _ _ | .carrierChange _ _ _ | .settleTimerExpiry _ _ | .fullSweepStart _
  | .fullSweepEnd _ _ | .trainingPauseEnd _ _ | .silenceTimerExpiry _ _ | .recentreTurn | .recentreSweepEnd _ _
  | .patternHoldEnd _ _ | .beaconDue _ _ | .transmissionEnd _ _ | .unknownFrameKind _ _ _ _ | .beacon _ _ _
  | .patternRequest _ _ _ | .alert _ _ _ | .tally _ _ _ | .closure _ _ _ | .commit _ _ _ | .commitPurge
  | .admissionAtCommit | .dissent _ _ _ | .defer _ _ _ | .data _ _ _ | .accept _ _ _ | .hold _ _ _
  | .refuse _ _ _ | .replyTimeout _ | .holdWaitEnd _ | .pendingSend _ | .arbiterOffer _ | .resolverExamination
  | .deadlineExpiry | .releaseEnd | .engageEnd | .scrub | .writeComplete | .lockComplete => none

/-- Every counter of an end is at least what it was. -/
def EndCounters.NoneFell (c d : EndCounters) : Prop :=
  c.framesSent ≤ d.framesSent ∧ c.holds ≤ d.holds ∧ c.refusals ≤ d.refusals ∧ c.noAnswer ≤ d.noAnswer ∧
  c.misroutes ≤ d.misroutes ∧ c.stale ≤ d.stale ∧ c.congested ≤ d.congested ∧ c.controlDrops ≤ d.controlDrops

/-- Every counter of a lane is at least what it was. -/
def LanePort.NoneFell (p q : LanePort) : Prop :=
  p.losses.consistChanged ≤ q.losses.consistChanged ∧ p.losses.linkDown ≤ q.losses.linkDown ∧
  p.losses.noAnswer ≤ q.losses.noAnswer ∧ p.losses.refused ≤ q.losses.refused ∧
  p.losses.congested ≤ q.losses.congested ∧ p.losses.bypass ≤ q.losses.bypass ∧
  p.receiveDrops ≤ q.receiveDrops ∧ p.receiveDisplacements ≤ q.receiveDisplacements ∧
  p.frameErrors ≤ q.frameErrors

/-! ## Arrivals -/

/-- A frame of a kind arrives whole on an ACTIVE line (R66, R90). -/
def State.Hears (s : State) (e : EndId) (x : LineId) (kind : Byte) (f : RawFrame) : Prop :=
  (s.line e x).state = .active ∧ framePasses kind f = true

/-- The line's transmit side is free: no hold, nothing sent and nothing waiting. -/
def LineUnit.FreeToSend (n : LineUnit) : Prop := n.holdTimer = none ∧ n.tx = Transmitter.idle

/-- The frame is no repeat of the one last answered (R102). -/
def EndUnit.FindsNew (u : EndUnit) (f : RawFrame) : Prop := ∀ r, u.receiver = some r → r.bit ≠ frameBit f

/-- A line whose silence timer has restarted and which begins a reply (R72, R104). -/
def LineUnit.replying (silence : Nat) (bit : Bool) (a : Answer) (n : LineUnit) : LineUnit :=
  { n with silenceTimer := some silence, tx := { Transmitter.idle with sending := some (.reply bit a) } }

/-- The node whose end has just answered a new frame with ACCEPT on the line it came by (R72, R102, R104). -/
def State.accepted (s : State) (e : EndId) (x : LineId) (bit : Bool) : State :=
  s.modEnd e (fun u =>
    { u.modLine x (LineUnit.replying (4000 * s.store.working.beacon) bit .accept) with
      receiver := some { bit := bit, answer := .accept } })

/-- How a reply to a frame that arrived on a line leaves the end (R104): on the line of arrival when that is ACTIVE and
not in pattern hold, otherwise on the partner line when that is so, and otherwise not; at once on a line with nothing in
hand, and behind the frame that a line is sending. -/
def EndUnit.Replies (x : LineId) (r : WaitingReply) (u v : EndUnit) : Prop :=
  let can := fun y => (u.line y).state = .active ∧ (u.line y).holdTimer = none
  let leaves := fun y =>
    ((u.line y).tx = Transmitter.idle ∧ v = u.modLine y (fun n => { n with tx := { Transmitter.idle with
        sending := some (.reply r.bit r.answer), holdAfter := r.holdAfter } })) ∨
    ((u.line y).tx.sending.isSome ∧
      v = u.modLine y (fun n => { n with tx := { n.tx with replies := n.tx.replies ++ [r] } }))
  (can x ∧ leaves x) ∨ (¬ can x ∧ can x.partner ∧ leaves x.partner) ∨
    (¬ can x ∧ ¬ can x.partner ∧ r.holdAfter = none ∧ v = u)

/-- The body of a frame of a known kind has the length and the values its kind requires (R91, 11.3). -/
def bodyInForm (kind : Byte) (body : List Byte) : Bool :=
  if kind = kindBeacon then (decodeBeacon body).isSome
  else if kind = kindPatternRequest then (decodePatternRequest body).isSome
  else if kind = kindAlert then (decodeAlert body).isSome
  else if kind = kindTally then (decodeTally body).isSome
  else if kind = kindClosure then (decodeClosure body).isSome
  else if kind = kindCommit then (decodeCommit body).isSome
  else if kind = kindDissent then (decodeDissent body).isSome
  else if kind = kindDefer then (decodeDefer body).isSome
  else if kind = kindData then (decodeData body).isSome
  else if kind = kindRefuse then (decodeRefuse body).isSome
  else body.isEmpty

/-- An entry arrives at a lane (R133, R134): nothing joins a DETACHED lane; it joins the tail of a queue with room; a
COMMAND entry at a full queue displaces the oldest entry of another class, if there is one; and any other entry at a
full queue is dropped and counted. -/
def LanePort.Takes (r : ReceiveEntry) (p q : LanePort) : Prop :=
  let full := 16 ≤ p.receiveQueue.length
  let others := ∃ n ∈ p.receiveQueue, n.cls ≠ .command
  (p.attached = false ∧ q = p) ∨
  (p.attached = true ∧ ¬ full ∧ q = { p with receiveQueue := p.receiveQueue ++ [r] }) ∨
  (p.attached = true ∧ full ∧ r.cls = .command ∧
    ∃ before old after, p.receiveQueue = before ++ old :: after ∧ (∀ n ∈ before, n.cls = .command) ∧
      old.cls ≠ .command ∧
      q = { p with
        receiveQueue := before ++ after ++ [r], receiveDisplacements := satInc p.receiveDisplacements }) ∨
  (p.attached = true ∧ full ∧ (r.cls ≠ .command ∨ ¬ others) ∧
    q = { p with receiveDrops := satInc p.receiveDrops })

/-- A delivery (R133, R135): one entry to each attached lane, or one count of no-listener. -/
def State.Delivers (r : ReceiveEntry) (s t : State) : Prop :=
  ∃ p q, s.laneA.Takes r p ∧ s.laneB.Takes r q ∧
    t = { s with
      laneA := p, laneB := q
      noListener := if s.laneA.attached = false ∧ s.laneB.attached = false then satInc s.noListener
        else s.noListener }

/-- Some attached lane can neither take a COMMAND entry nor make room for it (R130). -/
def State.CommandBlocked (s : State) : Prop :=
  ∃ l, (s.lane l).attached = true ∧ 16 ≤ (s.lane l).receiveQueue.length ∧
    ∀ n ∈ (s.lane l).receiveQueue, n.cls = .command

/-- The command of the arrival of a frame of a kind (11.3). -/
def frameCommand (kind : Byte) (e : EndId) (x : LineId) (f : RawFrame) : Instr :=
  if kind = kindBeacon then .beacon e x f else if kind = kindPatternRequest then .patternRequest e x f
  else if kind = kindAlert then .alert e x f else if kind = kindTally then .tally e x f
  else if kind = kindClosure then .closure e x f else if kind = kindCommit then .commit e x f
  else if kind = kindDissent then .dissent e x f else if kind = kindDefer then .defer e x f
  else if kind = kindData then .data e x f else if kind = kindAccept then .accept e x f
  else if kind = kindHold then .hold e x f else if kind = kindRefuse then .refuse e x f
  else .unknownFrameKind e x kind f

/-- The kinds that do not await one (R91). -/
def unansweredKinds : List Byte := [kindBeacon, kindAccept, kindHold, kindRefuse]

/-- The kinds that await a reply (R91, R103). -/
def awaitingKinds : List Byte :=
  [kindPatternRequest, kindAlert, kindTally, kindClosure, kindCommit, kindDissent, kindDefer, kindData]

/-- A frame joins the tail of an end's control queue (R20). -/
def EndUnit.withControl (f : ControlFrame) (u : EndUnit) : EndUnit :=
  { u with queues := { u.queues with control := u.queues.control ++ [f] } }

/-- The end's control queue has room (R122). -/
def EndUnit.ControlRoom (u : EndUnit) : Prop := u.queues.control.length < 4

/-- The fields of a control frame lie in the ranges their layout gives (11.2, 11.3). -/
def ControlFrame.Sendable : ControlFrame → Prop
  | .patternRequest _ _ => True
  | .alert o h _ _ => o ≠ 0 ∧ 1 ≤ h ∧ h ≤ 24
  | .tally a ns => a.tag ≠ 0 ∧ ListSendable ns
  | .closure a ns _ => a.tag ≠ 0 ∧ ListSendable ns
  | .commit a g _ => a.tag ≠ 0 ∧ g ≠ 0
  | .dissent a _ => a.tag ≠ 0
  | .defer a t => a.tag ≠ 0 ∧ t ≠ 0
where
  /-- 1..24 listed entries at positions 1, 2, 3 and onward, no tag 0, units 0..99, no claim of an INTERMEDIATE
  car. -/
  ListSendable (ns : List ListedEntry) : Prop :=
    1 ≤ ns.length ∧ ns.length ≤ 24 ∧
    ns.map (fun n => n.entry.position) = (List.range ns.length).map (· + 1) ∧
    ∀ n ∈ ns, n.entry.tag ≠ 0 ∧ n.entry.unit ≤ 99 ∧ (n.entry.kind = .intermediate → n.entry.claim = false)

/-- The engine's record in an attempt it is starting, relaying or closing: the deadline running, no mismatch cause. -/
def Engine.entering (g : Engine) (st : EngineState) (c : Option AttemptContext) (count : Nat) :
    Engine :=
  { g with state := st, context := c, count := count, deadline := some 600000, cause := none }

/-- The engine's record in FAILED or MISMATCH, or in QUIET after a commit: nothing held, no deadline. -/
def Engine.leaving (g : Engine) (st : EngineState) (cause : Option MismatchCause) : Engine :=
  { g with state := st, context := none, deadline := none, cause := cause }

/-- A node with effective inhibit off takes a change up with an attempt count (R22, R25 to R28, R31): a middle node sends
an ALERT out of each end and waits in ALERTED, an extremity starts its own tally behind its ALERT, and a lone node
leaves with a directory of one. The ALERT is a restart or a plain one; that it carries the sender state ALERTED is the
model's choice (log 18). -/
def State.TakesUp (restart : Bool) (count : Nat) (s t : State) : Prop :=
  let g := s.engine
  let alert : ControlFrame := .alert s.ownTag 1 restart .alerted
  (s.identified .end1 = true → s.identified .end2 = true → s.end1.ControlRoom → s.end2.ControlRoom →
    t = { s with
      engine := g.entering .alerted g.context count
      end1 := s.end1.withControl alert, end2 := s.end2.withControl alert }) ∧
  (∀ e, s.identified e = true → s.identified e.other = false → (s.endUnit e).queues.control.length ≤ 2 →
    let attempt : AttemptId := { tag := s.ownTag, claim := g.effective.claim, number := g.number + 1 }
    let entry := s.ownEntry 1 (match e with | .end1 => .reversed | .end2 => .direct)
    t = State.modEnd
      { s with engine := { g.entering .leading
          (some { attempt := attempt, role := .starter, tallyEnd := none, ownPosition := 1 }) count with
            number := g.number + 1 } } e
      (fun u => (u.withControl alert).withControl (.tally attempt [entry]))) ∧
  (s.identified .end1 = false → s.identified .end2 = false → s.ownTag ≠ 0 →
    t.engine = { g.leaving .quiet none with count := count } ∧ t.candidate = none ∧
    t.directory.generation = successor s.directory.generation ∧
    t.directory.entries = [(s.ownEntry 1 .direct).entry] ∧
    ∀ l, (t.lane l).notices &&& Notice.directoryChanged.mark = Notice.directoryChanged.mark)

/-- The sender of an end takes a frame from the arbiter, which leaves the queues as `q` (R87, R94): it goes out on line A
where that is ACTIVE, not recentring and not in pattern hold, else on line B, at once on a line with nothing in hand and
behind what a line is sending; with neither line selectable the sender is PENDING. -/
def State.TakesFrame (e : EndId) (h : HeldFrame) (q : EndQueues) (s t : State) : Prop :=
  let ready := fun (x : LineId) =>
    (s.line e x).state = .active ∧ (s.line e x).recentre = .none ∧ (s.line e x).holdTimer = none
  let n := (s.endUnit e).sender
  let taken : Sender := { n with
    state := .pending, frame := some h, currentBit := n.nextBit, moved := false, sends := 0, holds := 0,
    timer := .stopped, waitsHold := false }
  let sent := fun (x : LineId) (tx : Transmitter) => s.modEnd e (fun u =>
    { u.modLine x (fun m => { m with tx := tx }) with
      queues := q
      sender := { taken with state := .awaiting, currentLine := x, lastLine := x, sends := 1, timer := .reply } })
  (∀ x, ready x → x = .lineA ∨ ¬ ready .lineA →
    ((s.line e x).tx = Transmitter.idle →
      t = sent x { Transmitter.idle with sending := some (.held n.nextBit h) }) ∧
    ((s.line e x).tx.sending.isSome → t = sent x { (s.line e x).tx with frameDue := true })) ∧
  (¬ ready .lineA → ¬ ready .lineB → t = s.modEnd e (fun u => { u with queues := q, sender := taken }))

/-- The bytes the node sends for a frame are those of a raw frame of a kind, which passes the frame check and carries the
sequence bit (R90, R181). -/
def LineFrame.Carries (f : LineFrame) (kind : Byte) (bit : Bool) (r : RawFrame) : Prop :=
  (∃ c, r.check = some c ∧ f.bytes = kind :: r.flags :: r.length :: r.body ++ wordBytes c) ∧
  framePasses kind r = true ∧ frameBit r = bit

/-! ## Losses (R138 to R140) -/

/-- The record carries a message of a lane (R129). -/
def DataRecord.isOf (l : LaneId) (r : DataRecord) : Bool :=
  match r.origin with
  | .local_ m _ _ => m == l
  | .through => false

/-- The record is a THROUGH frame (R129). -/
def DataRecord.isThrough (r : DataRecord) : Bool :=
  match r.origin with
  | .local_ _ _ _ => false
  | .through => true

/-- How many messages of a lane a sender's frame carries: 1 for a LOCAL DATA frame of the lane, else 0. -/
def HeldFrame.messagesOf (l : LaneId) : HeldFrame → Nat
  | .control _ => 0
  | .data r => (r.isOf l).toNat

/-- How many messages of a lane the sender of an end holds. -/
def EndUnit.heldOf (l : LaneId) (u : EndUnit) : Nat :=
  match u.sender.frame with
  | some h => h.messagesOf l
  | none => 0

/-- The records of an end's class queues. -/
def EndUnit.records (u : EndUnit) : List DataRecord := u.queues.command ++ u.queues.process ++ u.queues.bulk

/-- So many losses of one reason at a lane: its counter counts each, and SEND-LOSS is raised if there is one (R140). -/
def LanePort.charged (k : Nat) (reason : LossCounters → LossCounters) (p : LanePort) : LanePort :=
  { p with
    losses := Nat.iterate reason k p.losses
    notices := if k = 0 then p.notices else p.notices ||| Notice.sendLoss.mark }

/-- An end that leaves ADMITTED (R138): its class queues are empty and their relief counts 0, its control queue kept; each
LOCAL frame is a loss LINK-DOWN of its lane, and each THROUGH frame counts in the end's no-answer. -/
def State.departed (e : EndId) (s : State) : State :=
  let gone := (s.endUnit e).records
  let lost := fun (l : LaneId) (p : LanePort) =>
    p.charged (gone.countP (DataRecord.isOf l)) (fun c => { c with linkDown := satInc c.linkDown })
  State.modEnd { s with laneA := lost .laneA s.laneA, laneB := lost .laneB s.laneB } e (fun u =>
    { u with
      queues := { EndQueues.empty with control := u.queues.control }
      counters := { u.counters with
        noAnswer := Nat.iterate satInc (gone.countP DataRecord.isThrough) u.counters.noAnswer } })

/-- The start of an engagement (R147): the transit runs; lines DARK, ends OPEN, queues empty, directory and candidate
cleared, engine QUIET with its number and effective values kept; windows, end counters, receive queues and votes stand. Each
message of a lane in its send queue, the class queues and the senders is a loss BYPASS (R139); BYPASS-CHANGE is raised to
both lanes, and END-CHANGE when an end was not OPEN. -/
def State.Engages (s t : State) : Prop :=
  t.bypass = { s.bypass with state := .engaging, transition := some 15000 } ∧
  t.directory = Directory.empty ∧ t.candidate = none ∧
  t.engine = { s.engine with state := .quiet, context := none, count := 0, deadline := none, cause := none } ∧
  (∀ e, (t.endUnit e).state = .opened ∧ (t.endUnit e).peer = none ∧ (t.endUnit e).receiver = none ∧
    (t.endUnit e).sender.frame = none ∧ (t.endUnit e).queues = EndQueues.empty ∧
    (t.endUnit e).counters = (s.endUnit e).counters ∧
    ∀ x, (t.line e x).state = .dark ∧ (t.line e x).record.window = (s.line e x).record.window) ∧
  ∀ l,
    let lost := (s.lane l).sendQueue.length + s.end1.records.countP (DataRecord.isOf l) + s.end1.heldOf l +
      s.end2.records.countP (DataRecord.isOf l) + s.end2.heldOf l
    t.lane l = { s.lane l with
      sendQueue := []
      losses := Nat.iterate (fun c => { c with bypass := satInc c.bypass }) lost (s.lane l).losses
      notices := (s.lane l).notices ||| Notice.bypassChange.mark |||
        (if lost = 0 then 0 else Notice.sendLoss.mark) |||
        (if s.end1.state = .opened ∧ s.end2.state = .opened then 0 else Notice.endChange.mark) }

/-! ## The settings area -/

/-- Some stored value of a settings area lies outside its range, or SETTLE is no multiple of 10 (R174, 11.6). -/
def AreaOutOfRange (bytes : List Byte) : Prop :=
  let byte := fun k => (bytes.getD k 0).toNat
  let word := fun k => 256 * byte k + byte (k + 1)
  bytes.length = 14 ∧
  (99 < byte 0 ∨ 1 < byte 1 ∨ byte 6 < 4 ∨ 40 < byte 6 ∨ word 7 < 50 ∨ 2000 < word 7 ∨ word 7 % 10 ≠ 0 ∨
    byte 9 < 5 ∨ 100 < byte 9 ∨ word 10 < 1 ∨ 1023 < word 10 ∨ word 12 < 1 ∨ 1023 < word 12)

/-- The settings area is not sound: never written or a write given up, a check that fails, or a value outside its range
under a check that passes (R174, R178). -/
def SettingsArea.Spoilt (a : SettingsArea) : Prop :=
  a = .unsound ∨ ∃ bytes check, a = .written bytes check ∧ (crc16 bytes ≠ check ∨ AreaOutOfRange bytes)

/-! ## Sweeps and addresses -/

/-- A phase step passed: 32 consecutive symbols matched within its share of the sweep (R75). -/
def StepPassed (runs : List Nat) (k : Nat) : Prop := 32 ≤ runs.getD k 0

/-- The run of steps `low` to `high` is the longest of consecutive passing steps, the lowest among equals (R76,
step 1). -/
def LongestPassing (runs : List Nat) (low high : Nat) : Prop :=
  low ≤ high ∧ high ≤ 63 ∧ (∀ k, low ≤ k → k ≤ high → StepPassed runs k) ∧
  ∀ l h, l ≤ h → h ≤ 63 → (∀ k, l ≤ k → k ≤ h → StepPassed runs k) →
    h - l ≤ high - low ∧ (h - l = high - low → low ≤ l)

/-- The run of passing steps that contains a phase, within the steps `from_` to `to_` of a recentre sweep (R80,
step 2). -/
def RunAround (runs : List Nat) (from_ to_ phase low high : Nat) : Prop :=
  from_ ≤ low ∧ low ≤ phase ∧ phase ≤ high ∧ high ≤ to_ ∧ (∀ k, low ≤ k → k ≤ high → StepPassed runs k) ∧
  (low = from_ ∨ ¬ StepPassed runs (low - 1)) ∧ (high = to_ ∨ ¬ StepPassed runs (high + 1))

/-- The midpoint of a window with a line's offset applied, clamped into the window (R76, steps 3 to 5). -/
def targetOf (o : Offset) (low high : Nat) : Int :=
  max (low : Int) (min (high : Int)
    (if o.subtract then ((low + high) / 2 : Nat) - (o.magnitude : Int) else ((low + high) / 2 : Nat) + o.magnitude))

/-- The window with a sample phase and its margin (R76, step 6). -/
def windowAt (low high phase : Nat) : Window :=
  { low := low, high := high, width := high - low + 1, phase := phase, margin := min (phase - low) (high - phase) }

/-- The position an address names from a car at position `p` (R108, stage 1). -/
def Address.Names (d : Directory) (p : Nat) (o : Orientation) (a : Address) (t : Int) : Prop :=
  match a with
  | .position n => t = n
  | .offset k => t = match o with
    | .direct => (p : Int) + k
    | .reversed => (p : Int) - k
  | .tag w => ∃ n, d.byTag w = some n ∧ t = n
  | .broadcast => False

/-! ## Reset values -/

/-- An end unit as R88, R94, R102, R105, R132 and R142 give it after power-on and node reset. -/
def EndUnit.AtReset (u : EndUnit) : Prop :=
  u.EveryLine (fun n =>
    n.state = .dark ∧ n.settleTimer = none ∧ n.silenceTimer = none ∧ n.holdTimer = none ∧ n.recentre = .none ∧
    n.unanswered = 0 ∧ n.checkErrors = 0 ∧ n.record = TrainingRecord.reset) ∧
  u.state = .opened ∧ u.peer = none ∧ u.receiver = none ∧ u.trainer = Trainer.reset ∧
  u.sender.state = .idle ∧ u.sender.frame = none ∧ u.sender.nextBit = false ∧ u.sender.timer = .stopped ∧
  u.queues = EndQueues.empty ∧ u.counters = EndCounters.zero

/-- A lane port as R170 gives it, its notices none. -/
def LanePort.AtReset (p : LanePort) : Prop :=
  p.attached = false ∧ p.votes = Votes.none ∧ p.sendQueue = [] ∧ p.receiveQueue = [] ∧ p.slot = .empty ∧
  p.notices = 0 ∧ p.mask = 0xFFF ∧ p.losses = LossCounters.zero ∧ p.receiveDrops = 0 ∧
  p.receiveDisplacements = 0 ∧ p.frameErrors = 0

/-- The node as the rules give it after power-on and node reset (R16, R17, R49, R77, R88, R142, R143, R170, R173),
its reset cause recorded. -/
def State.AtReset (s : State) (cause : ResetCause) : Prop :=
  s.directory = Directory.empty ∧ s.candidate = none ∧
  s.engine = { state := .quiet, context := none, count := 0, number := 0, deadline := none, cause := none,
               effective := Votes.none } ∧
  s.EveryEnd EndUnit.AtReset ∧ s.EveryLane LanePort.AtReset ∧
  s.rotation = (.end2, .lineB) ∧ s.recentreTimer = some 250000 ∧ s.resolver = .laneA ∧ s.noListener = 0 ∧
  s.bypass = { state := .engaged, transition := none, startUpComplete := false, latched := .none,
               scrubTimer := none } ∧
  s.store.activity = .loading ∧ s.store.operation = none ∧ s.store.writingLane = none ∧
  s.store.resetCause = cause

end Sys2Proof.Machine
end

