-- ==== Sys2Proof/Certificates/Slice0/Obligations.lean ====
section
/-! DEFINITION. The statements for the provers, in the order of OBLIGATIONS.json: the step and the machine as a whole,
the invariants, the encodings, and the effect of every command. A docstring names the rules a statement formalises
and, where a clause rests on a choice of the model, the log entry of that choice. -/

open Sys2Proof Sys2Proof.Machine

/-! ## The step and the machine as a whole -/

/-- A step takes the command at the front of the queue, with the rest left waiting. That an empty queue idles is the
model's choice (log 1). -/
def Obligations.StepRunsFrontCommand : Prop :=
  (∀ (s : State) (c : Instr) (rest : List Instr),
    s.pending = c :: rest → step s = exec c { s with pending := rest }) ∧
  ∀ s : State, s.pending = [] → step s = .next s

/-- Every command completes in every state, leaves the queue of commands, and moves no input but the one it is a
change of (R65, R169, R170; log 2). -/
def Obligations.EveryCommandCompletes : Prop :=
  ∀ (c : Instr) (s : State), ∃ t, exec c s = .next t ∧ t.pending = s.pending ∧
    (t.nrst = s.nrst ∨ c = .nodeReset ∨ c = .nodeResetRelease) ∧
    (∀ l, (t.lane l).lrst = (s.lane l).lrst ∨ c = .laneReset l ∨ c = .laneResetRelease l) ∧
    (∀ e, (t.endUnit e).sense = (s.endUnit e).sense ∨ ∃ b, c = .couplerSenseChange e b) ∧
    ∀ e x, (t.line e x).carrier = (s.line e x).carrier ∨ ∃ b, c = .carrierChange e x b

/-- An event at one end, other than the arrival of a DATA frame, leaves the store, the bypass, the resolver, the other
end but for control frames placed there, and the lanes but for notices and losses. A request or transaction of one lane
leaves the other lane's attach state, votes, reply slot, mask and frame errors, and clears none of its notices (R20,
R86, R128, R138, R140, R161, R164, R165, R171). -/
def Obligations.EventsKeepToTheirSide : Prop :=
  (∀ (c : Instr) (e : EndId) (s t : State), endOf c = some e → exec c s = .next t → s.EndEventFrame e t) ∧
  ∀ (c : Instr) (l : LaneId) (s t : State), laneOf c = some l → exec c s = .next t →
    let p := s.lane l.other
    let q := t.lane l.other
    q.attached = p.attached ∧ q.votes = p.votes ∧ q.slot = p.slot ∧ q.mask = p.mask ∧ q.lrst = p.lrst ∧
    q.frameErrors = p.frameErrors ∧ q.dataOut = p.dataOut ∧ p.notices &&& q.notices = p.notices

/-- The settings store changes only by its own commands: the working copy only at the resets and start-up, the
settings area only at the resets and the end of a write, the lock only at the end of a lock, and never back
(R172, R173, R177, R178, R179). -/
def Obligations.StoreChangesOnlyByItsCommands : Prop :=
  ∀ (c : Instr) (s t : State), exec c s = .next t →
    (t.store = s.store ∨ c = .powerOn ∨ c = .nodeReset ∨ c = .startUpComplete ∨ c = .writeComplete ∨
      c = .lockComplete ∨ (∃ l, c = .writeSetting l) ∨ ∃ l, c = .lockCommissioning l) ∧
    (t.store.working = s.store.working ∨ c = .powerOn ∨ c = .nodeReset ∨ c = .startUpComplete) ∧
    (t.store.area = s.store.area ∨ c = .powerOn ∨ c = .nodeReset ∨ c = .writeComplete) ∧
    (t.store.locked = s.store.locked ∨ c = .lockComplete) ∧
    (s.store.locked = true → t.store.locked = true) ∧ t.store.factory = s.store.factory

/-- The active record changes only at a clearing, which empties it, and at a commit, which leaves a nonzero
generation, no candidate, and DIRECTORY-CHANGED pending at both lanes (R1, R10, R11, R16). That this holds also of a commit
that a lane reset brings, at the lane that is reset, is the model's: it clears the port before it recombines the votes, where
R169 lets the notice and the reset come in either order (log 50). -/
def Obligations.DirectoryChangesOnlyAtCommitOrClearing : Prop :=
  ∀ (c : Instr) (s t : State), exec c s = .next t → t.directory ≠ s.directory →
    t.directory = Directory.empty ∨
    (t.directory.generation ≠ 0 ∧ t.candidate = none ∧
      ∀ l, (t.lane l).notices &&& Notice.directoryChanged.mark = Notice.directoryChanged.mark)

/-- No counter falls but at power-on and node reset, and for the counters of a lane at its lane reset (R105, R141,
R142, R164). -/
def Obligations.CountersFallOnlyAtResets : Prop :=
  ∀ (c : Instr) (s t : State), exec c s = .next t → c ≠ .powerOn → c ≠ .nodeReset →
    (∀ e, (s.endUnit e).counters.NoneFell (t.endUnit e).counters) ∧
    (∀ e x, (s.line e x).checkErrors ≤ (t.line e x).checkErrors) ∧
    s.noListener ≤ t.noListener ∧ ∀ l, c ≠ .laneReset l → (s.lane l).NoneFell (t.lane l)

/-! ## Invariants -/

/-- No queue ever holds more than its capacity, and class queues hold frames only of their class and only while their
end is ADMITTED (R122, R129). -/
def Obligations.QueuesKeptByStep : Prop :=
  ∀ s t : State, s.QueuesKept → step s = .next t → t.QueuesKept

/-- The fields of both senders stay together as the sender states and R94 to R99 have them. What a sender holds while its
send waits for a pattern hold, AWAITING with its timer stopped and at most 2 sends, is the model's (log 15): 5.3 says of
AWAITING that the reply timeout runs. -/
def Obligations.SendersKeptByStep : Prop :=
  ∀ s t : State, s.SendersKept → step s = .next t → t.SendersKept

/-- While the senders' fields are together, each line's timers, waits, marks and counts stay as its state has them, a line
in pattern hold sends no frame, each trainer sweeps only such a line, and a frame that has been sent stands on an ACTIVE
line (R66 to R74, R78, R79, R89, R98, R101). That a line which is not ACTIVE has no transmission and no reply waiting is the
model's (log 47). -/
def Obligations.LinesKeptByStep : Prop :=
  ∀ s t : State, s.SendersKept → s.LinesKept → step s = .next t → t.LinesKept

/-- Every ACTIVE line has a recorded window, and every recorded window lies within 0..63 and holds its sample phase at
its margin (R76, R80, R81). -/
def Obligations.WindowsKeptByStep : Prop :=
  ∀ s t : State, s.WindowsKept → step s = .next t → t.WindowsKept

/-- Until start-up is complete the bypass stays ENGAGED, and while it is not OFF the node stays out of the train: lines
DARK, ends OPEN, queues empty, directory cleared, engine QUIET (R65, R143, R144, R147). -/
def Obligations.HeldOutKeptByStep : Prop :=
  ∀ s t : State, s.HeldOut → s.StartUpHeld → step s = .next t → t.HeldOut ∧ t.StartUpHeld

/-- The engine's record goes with its state, and a node in ALERTED, LEADING or RELAYING never has effective inhibit on
(R8, R17, R18, R22, R23, R46, R53, R55). -/
def Obligations.EngineKeptByStep : Prop :=
  ∀ s t : State, step s = .next t →
    (s.EngineKept → t.EngineKept) ∧ (s.HeldOut → s.InhibitKept → t.InhibitKept)

/-- The active record is always empty or a sound list with its derived fields, and the candidate is sound: positions
1..N once and in order, no tag 0 and none twice, this node's own tag among them (R1, R4, R5, R8, R9). -/
def Obligations.DirectoryKeptByStep : Prop :=
  ∀ s t : State, s.HeldOut → s.StartUpHeld → s.DirectoryKept → step s = .next t → t.DirectoryKept

/-- The vote register holds the combination of the attached lanes' votes, a DETACHED lane votes nothing and holds
nothing, and an INTERMEDIATE car claims nothing (R47 to R50, R160). That a car counts as INTERMEDIATE while the store is
LOADING, which SET-VOTES reads, is the model's choice (log 24, log 46). -/
def Obligations.VotesKeptByStep : Prop :=
  ∀ s t : State, s.VotesKept → step s = .next t → t.VotesKept

/-- Every setting stays in its range, the load check is that of the working copy, and an operation has its lane and its
timer (R172, R173, R177 to R179). -/
def Obligations.StoreKeptByStep : Prop :=
  ∀ s t : State, s.StoreKept → step s = .next t → t.StoreKept

/-- Every invariant holds right after reset, at the values that R1, R17, R88, R94, R142, R143, R170 and R173 give. The
values that no rule gives (log 22 to 25) are the model's. -/
def Obligations.InvariantsHoldAtReset : Prop :=
  State.reset.QueuesKept ∧ State.reset.SendersKept ∧ State.reset.LinesKept ∧ State.reset.WindowsKept ∧
  State.reset.HeldOut ∧ State.reset.StartUpHeld ∧ State.reset.EngineKept ∧ State.reset.InhibitKept ∧
  State.reset.DirectoryKept ∧ State.reset.VotesKept ∧ State.reset.StoreKept

/-! ## Encodings and pure rules -/

/-- A control frame whose fields lie in their ranges, a BEACON and a reply: the bytes the node sends are those of a frame of
the kind, which passes the frame check, carries the sequence bit and is read back as it was (R90, R91, R181 to R183). The
`live` mark of a PATTERN-REQUEST is not on the line. -/
def Obligations.ControlFramesReadBack : Prop :=
  (∀ (bit : Bool) (f : ControlFrame), f.Sendable → ∃ r,
    (LineFrame.held bit (.control f)).Carries f.encode.1 bit r ∧
    match f with
    | .patternRequest x _ => decodePatternRequest r.body = some x
    | .alert o h re st =>
      decodeAlert r.body = some { originator := o, hops := h, restart := re, sender := st }
    | .tally a ns => decodeTally r.body = some (a, ns)
    | .closure a ns c => decodeClosure r.body = some (a, ns, c)
    | .commit a g c => decodeCommit r.body = some (a, g, c)
    | .dissent a re => decodeDissent r.body = some (a, re)
    | .defer a t => decodeDefer r.body = some (a, t)) ∧
  (∀ (t : Tag) (e : EndId) (generation : Word) (quiet : Bool), t ≠ 0 → ∃ r,
    (LineFrame.beacon t e generation quiet).Carries kindBeacon false r ∧
    decodeBeacon r.body = some { tag := t, peerEnd := e, generation := generation, quiet := quiet }) ∧
  ∀ bit : Bool,
    (∃ r, (LineFrame.reply bit .accept).Carries kindAccept bit r ∧ r.body = []) ∧
    (∃ r, (LineFrame.reply bit .hold).Carries kindHold bit r ∧ r.body = []) ∧
    ∀ reason, ∃ r, (LineFrame.reply bit (.refuse reason)).Carries kindRefuse bit r ∧ decodeRefuse r.body = some reason

/-- A DATA frame whose fields lie in their ranges is sent as the bytes of a frame that passes the frame check, carries the
sequence bit and is read back as it was (R111, R181, R183); a lane's request frame is taken
with its kind and body whatever bytes follow it (R155, R157); and a settings area written from settings in range
loads them again under the tag of the factory area (R174, 11.6). -/
def Obligations.DataRequestsAndSettingsReadBack : Prop :=
  (∀ (bit : Bool) (d : DataFrame) (o : Origin),
    d.target ≤ 24 → 1 ≤ d.hops → d.hops ≤ 23 → 1 ≤ d.origin → d.origin ≤ 24 → d.generation ≠ 0 →
    1 ≤ d.payload.length → d.payload.length ≤ 64 →
    ∃ r, (LineFrame.held bit (.data { frame := d, origin := o })).Carries kindData bit r ∧
      decodeData r.body = some d) ∧
  (∀ (kind : Byte) (body fill : List Byte), body.length ≤ 72 →
    parseRequest (requestFrame kind body ++ fill) = some (kind, body)) ∧
  ∀ w : Settings, w.InRange →
    SettingsArea.load (.written w.areaBytes (crc16 w.areaBytes)) w.tag = some w

/-- Lookups in a sound record (R12, R13): by position 1..N the entry at that position and otherwise none; on the up and
the down end the entry next to this node, if there is one; by tag the position of the one entry that carries it, none
for tag 0; nothing at generation 0. The record is not changed, and an origin position outside 1..N has origin tag
0. -/
def Obligations.LookupsFindTheEntries : Prop :=
  (∀ (own : Tag) (d : Directory), d.Sound own →
    (∀ k n, d.byPosition k = some n ↔ n ∈ d.entries ∧ n.position = k) ∧
    (∀ k, d.byPosition k = none ↔ k = 0 ∨ d.entries.length < k) ∧
    (∀ p o, d.ownPosition = some p → d.ownOrientation = some o →
      d.neighbour o.upEnd = d.byPosition (p + 1) ∧ d.neighbour o.downEnd = d.byPosition (p - 1)) ∧
    (∀ tag k, d.byTag tag = some k ↔ ∃ n ∈ d.entries, n.tag = tag ∧ n.position = k) ∧
    (∀ k n, d.byPosition k = some n → d.originTag k = n.tag) ∧
    ∀ k, (k = 0 ∨ d.entries.length < k) → d.originTag k = 0) ∧
  ∀ d : Directory, d.generation = 0 →
    (∀ k, d.byPosition k = none) ∧ (∀ tag, d.byTag tag = none) ∧ ∀ e, d.neighbour e = none

/-- The new generation is the first successor of the greatest prior generation that equals none of them; at most 25
successors are formed, and it is never 0 (R38, with R6's successor). -/
def Obligations.NewGenerationIsFresh : Prop :=
  (∀ g : Word, (successor g).toNat = if g.toNat = 65535 then 1 else g.toNat + 1) ∧
  ∀ priors : List Word, priors ≠ [] → priors.length ≤ 24 →
    ∃ (g : Word) (k : Nat), g ∈ priors ∧ (∀ p ∈ priors, p.toNat ≤ g.toNat) ∧ 1 ≤ k ∧ k ≤ 25 ∧
      newGeneration priors = Nat.iterate successor k g ∧ newGeneration priors ∉ priors ∧
      (∀ j, 1 ≤ j → j < k → Nat.iterate successor j g ∈ priors) ∧ newGeneration priors ≠ 0

/-- Stages 2 to 4 of resolution: a target outside 1..N is OUT-OF-CONSIST and never clamped, the own position is a
LOOPBACK, and any other goes out of the end R3 names as facing it with as many hops as there are links between; for
an OFFSET that is the end its sign names and its magnitude (R109, R110). -/
def Obligations.ResolutionFollowsTheStages : Prop :=
  ∀ (d : Directory) (p : Nat) (o : Orientation) (a : Address) (t : Int),
    d.generation ≠ 0 → d.ownPosition = some p → d.ownOrientation = some o → a.Names d p o t →
    (t < 1 ∨ d.entries.length < t → d.resolve a = .outOfConsist) ∧
    (1 ≤ t ∧ t ≤ d.entries.length → t = p → d.resolve a = .loopback) ∧
    (1 ≤ t ∧ t ≤ d.entries.length → p < t →
      d.resolve a = .resolved t.toNat (match o with | .direct => .end2 | .reversed => .end1) (t - p).toNat) ∧
    (1 ≤ t ∧ t ≤ d.entries.length → t < p →
      d.resolve a = .resolved t.toNat (match o with | .direct => .end1 | .reversed => .end2) (p - t).toNat) ∧
    (∀ m e h, 1 ≤ p → p ≤ d.entries.length → d.entries.length ≤ 24 → d.resolve a = .resolved m e h →
      1 ≤ h ∧ h ≤ 23) ∧
    ∀ k m e h, a = .offset k → d.resolve a = .resolved m e h →
      e = (if 0 < k then .end2 else .end1) ∧ h = k.natAbs

/-- The end state by R83, with admission as R84 and the generation check as R85 state it. -/
def Obligations.EndStateFollowsAdmission : Prop :=
  ∀ (s : State) (e : EndId),
    (s.bypass.state ≠ .off → s.endStateOf e = .opened) ∧
    (s.bypass.state = .off →
      ((∀ x, (s.line e x).state = .dark) → (s.endUnit e).sense = false → s.endStateOf e = .opened) ∧
      ((∀ x, (s.line e x).state ≠ .active) →
        ((s.endUnit e).sense = true ∨ ∃ x, (s.line e x).state ≠ .dark) → s.endStateOf e = .coupling) ∧
      ((∃ x, (s.line e x).state = .active) →
        ((s.endUnit e).peer = none → s.endStateOf e = .coupling) ∧
        ∀ p, (s.endUnit e).peer = some p →
          (s.endStateOf e = .admitted ↔
            s.directory.generation ≠ 0 ∧
            ∃ n o, s.directory.neighbour e = some n ∧ n.tag = p.tag ∧ s.directory.ownOrientation = some o ∧
              p.peerEnd = (if e = o.upEnd then n.orientation.downEnd else n.orientation.upEnd) ∧
              (p.quiet = true → p.generation = s.directory.generation)) ∧
          (s.endStateOf e ≠ .admitted → s.endStateOf e = .unadmitted)))

/-! ## Resets, start-up and lane reset -/

/-- Power-on and node reset put every block at the values its rules give, the relay drive removed, record their cause, and
keep the nonvolatile areas and the lock; a write in progress leaves the settings area unsound. The releases of the reset
inputs change nothing else (R143, R169, R170, R173, R178). The state right after reset has those values too. That a reset
keeps the levels of the inputs, coupler sense and the carriers among them, is the model's (log 23), and so are that a power-on
leaves NRST asserted (log 2), that a node reset given again while NRST is asserted resets again (log 38), and that a release
keeps the recorded cause (log 27). -/
def Obligations.ResetsRestoreEveryBlock : Prop :=
  (∀ (c : Instr) (cause : ResetCause) (s : State),
    (c = .powerOn ∧ cause = .powerOn) ∨ (c = .nodeReset ∧ cause = .nodeReset) →
    ∃ t, exec c s = .next t ∧ t.AtReset cause ∧ t.nrst = (if c = .nodeReset then true else s.nrst) ∧
      t.store.factory = s.store.factory ∧ t.store.locked = s.store.locked ∧
      t.store.area = (if s.store.activity = .writing then .unsound else s.store.area) ∧
      t.relayDriven = false ∧ (∀ l, (t.lane l).lrst = (s.lane l).lrst) ∧
      ∀ e, (t.endUnit e).sense = (s.endUnit e).sense ∧ ∀ x, (t.line e x).carrier = (s.line e x).carrier) ∧
  (∀ s : State, exec .nodeResetRelease s = .next { s with nrst := false }) ∧
  (∀ (l : LaneId) (s : State),
    exec (.laneResetRelease l) s = .next (s.modLane l (fun p => { p with lrst := false }))) ∧
  State.reset.AtReset .powerOn

/-- Start-up loads a sound area into the working copy, and replaces one that is not, a value out of range under a good
check included, by the defaults with SETTINGS-DEFAULTED; whichever it was, a valid tag lets the node release unless its
lanes request the bypass, and an invalid tag is latched with BYPASS-CHANGE and blocks the release (R145, R151, R153, R172,
R174, R175, R180). -/
def Obligations.StartUpLoadsOrDefaults : Prop :=
  ∀ (s : State) (w : Settings) (sound valid : Bool), s.nrst = false → s.store.activity = .loading →
    s.bypass.state = .engaged → s.bypass.latched = .none →
    (sound = true ∧ (∃ stored : Settings, stored.InRange ∧
        s.store.area = .written stored.areaBytes (crc16 stored.areaBytes) ∧
        w = { stored with tag := s.store.factory.tag })) ∨
      (sound = false ∧ s.store.area.Spoilt ∧ w =
        { tag := s.store.factory.tag, unit := 0, kind := .intermediate,
          offset1A := { subtract := false, magnitude := 0 }, offset1B := { subtract := false, magnitude := 0 },
          offset2A := { subtract := false, magnitude := 0 }, offset2B := { subtract := false, magnitude := 0 },
          wmin := 12, settle := 300, beacon := 10, reliefProcess := 32, reliefBulk := 16 }) →
    (valid = true ↔ s.store.factory.checkPasses = true ∧ s.store.factory.tag ≠ 0) →
    let releases := valid = true ∧ s.engine.effective.bypass = false
    let raised := fun (b : Bool) (n : Notice) (t : State) => if b = true then t.raiseBoth n else t
    exec .startUpComplete s = .next (raised (!valid) .bypassChange (raised (!sound) .settingsDefaulted { s with
      store := { s.store with working := w, image := w, loadCheck := crc16 w.bytes, tagValid := valid,
                              activity := .idle, loadOutcome := if sound = true then .valid else .defaulted }
      bypass := { s.bypass with
        state := if releases then .releasing else .engaged
        transition := if releases then some 15000 else s.bypass.transition
        latched := if valid = true then .none else .integrityTag
        startUpComplete := true, scrubTimer := some 100000 } }))

/-- A lane reset empties its port whatever it held and recombines the votes to those of the other lane; where the
effective values do not change, nothing else does (R49, R142, R168, R169). That one given again while LRST is asserted applies
again is the model's (log 38), and so is that the record of the bytes last sent, `dataOut`, is empty after it (log 25). -/
def Obligations.LaneResetEmptiesThePort : Prop :=
  ∀ (l : LaneId) (s : State),
    let left := if (s.lane l.other).attached then (s.lane l.other).votes else Votes.none
    (∃ t, exec (.laneReset l) s = .next t ∧ t.engine.effective = left ∧
      (t.lane l).lrst = true ∧ (t.lane l).attn = false ∧ (t.lane l).attached = false ∧
      (t.lane l).votes = Votes.none ∧ (t.lane l).sendQueue = [] ∧ (t.lane l).receiveQueue = [] ∧
      (t.lane l).slot = .empty ∧ (t.lane l).mask = 0xFFF ∧ (t.lane l).receiveDrops = 0 ∧
      (t.lane l).receiveDisplacements = 0 ∧ (t.lane l).frameErrors = 0) ∧
    (s.engine.effective = left → exec (.laneReset l) s = .next (s.setLane l
      { lrst := true, attached := false, votes := Votes.none, sendQueue := [], receiveQueue := [], slot := .empty,
        notices := 0, mask := 0xFFF, losses := LossCounters.zero, receiveDrops := 0, receiveDisplacements := 0,
        frameErrors := 0, dataOut := [] }))

/-! ## Lines -/

/-- A change of coupler sense or carrier moves only the input while the bypass is not OFF, or when the level is no change
(log 2). In OFF a SETTLING line starts its settle time again at every change; a DARK line enters SETTLING when the change
leaves it with carrier on a coupled end, and otherwise stays as it was; a line in TRAINING, ACTIVE or FAILED that loses
carrier or sense enters DARK with all it waited for given up, and otherwise keeps its state; and an end that loses sense with
no line SETTLING opens and forgets its peer (R65, R67, R68, R70, R71, R78, R82, R83, R101). That the line's transmission and
the replies waiting for it are given up is the model's (log 47). -/
def Obligations.InputChangesMoveTheLines : Prop :=
  ∀ (s : State) (e : EndId),
    (∀ b, s.bypass.state ≠ .off ∨ (s.endUnit e).sense = b →
      exec (.couplerSenseChange e b) s = .next (s.modEnd e (fun u => { u with sense := b }))) ∧
    (∀ x b, s.bypass.state ≠ .off ∨ (s.line e x).carrier = b →
      exec (.carrierChange e x b) s = .next (s.modLine e x (fun n => { n with carrier := b }))) ∧
    (s.LinesKept → s.bypass.state = .off →
      let settles : LineUnit → LineUnit := fun n =>
        { n with state := .settling, settleTimer := some (s.store.working.settle * 1000) }
      let drops : LineUnit → LineUnit := fun n => { n with
        state := .dark, settleTimer := none, byRetrain := false, wantsSweep := false, pauseTimer := none,
        silenceTimer := none, holdTimer := none, beaconTimer := none, recentre := .none, tx := Transmitter.idle
        record := if n.recentre = .none then n.record else { n.record with lastRecentre := .abandoned } }
      let follows := fun (present wakes : Bool) (n m : LineUnit) =>
        (n.state = .settling → m = settles n) ∧
        (n.state = .dark → m = if wakes then settles n else n) ∧
        (n.state = .training ∨ n.state = .active ∨ n.state = .failed →
          (present = false → m = drops n) ∧ (present = true → m.state = n.state))
      (∀ b, (s.endUnit e).sense ≠ b → ∃ t, exec (.couplerSenseChange e b) s = .next t ∧
        (t.endUnit e).sense = b ∧
        (∀ x, follows b (b && (s.line e x).carrier) (s.line e x) (t.line e x)) ∧
        (b = false → (∀ x, (s.line e x).state ≠ .settling) →
          (t.endUnit e).state = .opened ∧ (t.endUnit e).peer = none ∧ (t.endUnit e).receiver = none ∧
          (t.endUnit e).sender.frame = none)) ∧
      ∀ x b, (s.line e x).carrier ≠ b → ∃ t, exec (.carrierChange e x b) s = .next t ∧
        follows b (b && (s.endUnit e).sense) { s.line e x with carrier := b } (t.line e x) ∧
        (t.line e x.partner).state = (s.line e x.partner).state ∧
        (b = false → (s.line e x).state = .training ∨ (s.line e x).state = .active ∨ (s.line e x).state = .failed →
          (t.endUnit e).trainer.job ≠ .fullSweep x ∧ (t.endUnit e).trainer.job ≠ .recentreSweep x))

/-- When the settle timer expires, the line is decided on the inputs as they stand: TRAINING, its cause
RETRAIN-REQUEST after RETRAIN-LINE and SETTLE otherwise, asking for a full sweep; or DARK (R69). -/
def Obligations.SettleTimerDecidesTheLine : Prop :=
  ∀ (s : State) (e : EndId) (x : LineId), s.LinesKept → (s.line e x).state = .settling →
    ((s.line e x).carrier = true ∧ (s.endUnit e).sense = true →
      ∃ t, exec (.settleTimerExpiry e x) s = .next t ∧
        t.line e x = { s.line e x with
          state := .training, settleTimer := none, byRetrain := false, wantsSweep := true
          record := { (s.line e x).record with
            cause := if (s.line e x).byRetrain then .retrainRequest else .settle, sweeps := 0 } }) ∧
    ((s.line e x).carrier = false ∨ (s.endUnit e).sense = false →
      ∃ t, exec (.settleTimerExpiry e x) s = .next t ∧
        t.line e x = { s.line e x with
          state := .dark, settleTimer := none, byRetrain := false, holdTimer := none })

/-- A free trainer takes the one waiting line, line A before line B, with its pass map cleared, and nothing otherwise;
a line whose pause ends asks again (R73, R74). -/
def Obligations.TrainerTakesOneWaitingLine : Prop :=
  ∀ (s : State) (e : EndId),
    let waits := fun x => (s.line e x).state = .training ∧ (s.line e x).wantsSweep = true
    let taken := fun x => s.modEnd e (fun u =>
      { u.modLine x (fun n => { n with wantsSweep := false }) with
        trainer := { job := .fullSweep x, passMap := List.replicate 64 false } })
    ((s.endUnit e).trainer.job = .free → waits .lineA → exec (.fullSweepStart e) s = .next (taken .lineA)) ∧
    ((s.endUnit e).trainer.job = .free → ¬ waits .lineA → waits .lineB →
      exec (.fullSweepStart e) s = .next (taken .lineB)) ∧
    ((s.endUnit e).trainer.job ≠ .free ∨ (¬ waits .lineA ∧ ¬ waits .lineB) →
      exec (.fullSweepStart e) s = .next s) ∧
    ∀ x, (s.line e x).state = .training → (s.line e x).pauseTimer.isSome →
      exec (.trainingPauseEnd e x) s =
        .next (s.modLine e x (fun n => { n with pauseTimer := none, wantsSweep := true }))

/-- The end of a full sweep: the longest passing run at least WMIN wide makes the line ACTIVE with that window, its
phase at the target and its margin, and its first BEACON leaves; no passing step or a narrower run is a failed sweep,
which leaves the window, pauses the line, and after the third makes it FAILED with LINE-FAULT at both lanes (R72, R74,
R76, R81, R92). -/
def Obligations.FullSweepDecidesTheLine : Prop :=
  ∀ (s : State) (e : EndId) (x : LineId) (runs : List Nat), s.LinesKept →
    (s.endUnit e).trainer.job = .fullSweep x →
    (∀ low high, LongestPassing runs low high → s.store.working.wmin ≤ high - low + 1 →
      ∃ t, exec (.fullSweepEnd e runs) s = .next t ∧ (t.line e x).state = .active ∧
        (t.line e x).record = { (s.line e x).record with
          sweeps := (s.line e x).record.sweeps + 1, lastSweep := .pass
          window := some (windowAt low high (targetOf (s.store.working.offset e x) low high).toNat) } ∧
        (t.line e x).silenceTimer = some (4 * (s.store.working.beacon * 1000)) ∧
        (t.line e x).beaconTimer = some (s.store.working.beacon * 1000) ∧ (t.line e x).unanswered = 0 ∧
        ((s.line e x).holdTimer = none → (t.line e x).tx.sending =
          some (.beacon s.store.working.tag e s.directory.generation (s.engine.state == .quiet))) ∧
        (t.endUnit e).trainer.job = .free) ∧
    (∀ outcome,
      ((∀ k, k ≤ 63 → ¬ StepPassed runs k) ∧ outcome = .noPass) ∨
      (∃ low high, LongestPassing runs low high ∧ high - low + 1 < s.store.working.wmin ∧ outcome = .narrow) →
      let record := { (s.line e x).record with
        sweeps := (s.line e x).record.sweeps + 1, lastSweep := outcome }
      ((s.line e x).record.sweeps < 2 →
        ∃ t, exec (.fullSweepEnd e runs) s = .next t ∧ (t.endUnit e).trainer.job = .free ∧
          t.line e x = { s.line e x with pauseTimer := some 20000, record := record }) ∧
      ((s.line e x).record.sweeps = 2 →
        ∃ t, exec (.fullSweepEnd e runs) s = .next t ∧ (t.endUnit e).trainer.job = .free ∧
          t.line e x = { s.line e x with state := .failed, record := record } ∧
          ∀ l, (t.lane l).notices &&& Notice.lineFault.mark = Notice.lineFault.mark))

/-- The silence timer's end takes an ACTIVE line through SILENT to TRAINING with its carrier, to DARK without, a recentre of
it abandoned. With an ACTIVE partner the frame sent on it moves there with sends 1, or ends NO-ANSWER when it has moved
already. The end's last ACTIVE line takes the peer, the receiver record and the sender's frame with it, LINK-DOWN: an ADMITTED
end loses its class queues, LOCAL frames as losses LINK-DOWN and THROUGH frames counted in no-answer, and its departure is a
topology change, restarted or held by inhibit; an UNADMITTED end's is none. END-CHANGE is raised where the end changes state
(R24, R25, R54, R72, R78, R82, R83, R86, R97, R101, R102, R138, R140). That what the line had in hand is given up is the
model's (log 47), and for the UNADMITTED end the model follows R24 where R154 differs (log 51). -/
def Obligations.SilenceTakesTheLineBack : Prop :=
  ∀ (s : State) (e : EndId) (x : LineId), s.LinesKept → (s.line e x).state = .active →
    let u := s.endUnit e
    let n := u.sender
    let g := s.engine
    ∃ t, exec (.silenceTimerExpiry e x) s = .next t ∧
      t.line e x = { s.line e x with
        state := if (s.line e x).carrier then .training else .dark
        settleTimer := none, byRetrain := false, wantsSweep := (s.line e x).carrier, pauseTimer := none,
        silenceTimer := none, holdTimer := none, beaconTimer := none, recentre := .none, tx := Transmitter.idle
        record := { (s.line e x).record with
          cause := if (s.line e x).carrier then .silent else (s.line e x).record.cause
          sweeps := if (s.line e x).carrier then 0 else (s.line e x).record.sweeps
          lastRecentre := if (s.line e x).recentre = .none then (s.line e x).record.lastRecentre
            else .abandoned } } ∧
      ((t.endUnit e).state ≠ u.state →
        ∀ l, (t.lane l).notices &&& Notice.endChange.mark = Notice.endChange.mark) ∧
      ((s.line e x.partner).state = .active →
        ∀ h, n.frame = some h → n.state = .awaiting ∨ n.state = .backing → n.currentLine = x →
        (n.moved = false → (s.line e x.partner).holdTimer = none →
          (t.endUnit e).sender.state = .awaiting ∧ (t.endUnit e).sender.currentLine = x.partner ∧
          (t.endUnit e).sender.moved = true ∧ (t.endUnit e).sender.sends = 1 ∧
          (t.endUnit e).sender.timer = .reply) ∧
        (n.moved = true → (t.endUnit e).sender.state = .idle ∧ (t.endUnit e).sender.frame = none ∧
          ∀ l, (t.lane l).losses.noAnswer =
            Nat.iterate satInc (h.messagesOf l) (s.lane l).losses.noAnswer)) ∧
      ((s.line e x.partner).state ≠ .active →
        let gone := if u.state = .admitted then u.records else []
        (t.endUnit e).peer = none ∧ (t.endUnit e).receiver = none ∧ (t.endUnit e).sender.frame = none ∧
        (u.state = .admitted → (t.endUnit e).records = [] ∧ (t.endUnit e).queues.reliefProcess = 0 ∧
          (t.endUnit e).queues.reliefBulk = 0) ∧
        (t.endUnit e).counters.noAnswer =
          Nat.iterate satInc ((if n.frame = none then 0 else 1) + gone.countP DataRecord.isThrough)
            u.counters.noAnswer ∧
        (∀ l,
          let lost := u.heldOf l + gone.countP (DataRecord.isOf l)
          (t.lane l).losses =
            Nat.iterate (fun c => { c with linkDown := satInc c.linkDown }) lost (s.lane l).losses ∧
          (lost ≠ 0 → (t.lane l).notices &&& Notice.sendLoss.mark = Notice.sendLoss.mark)) ∧
        (s.bypass.state = .off →
          (t.endUnit e).state = (if u.sense = true ∨ (s.line e x).carrier = true ∨
            (s.line e x.partner).state ≠ .dark then .coupling else .opened) ∧
          (u.state = .admitted → g.effective.inhibit = false → t.engine.count = 1 ∧
            (s.identified e.other = true → t.engine.state = .leading) ∧
            (s.identified e.other = false → s.ownTag ≠ 0 → t.engine.state = .quiet ∧
              t.directory.generation = successor s.directory.generation ∧
              t.directory.entries = [(s.ownEntry 1 .direct).entry])) ∧
          (u.state = .admitted → g.effective.inhibit = true →
            t.engine.state = .mismatch ∧ t.engine.cause = some .localCause ∧ t.engine.count = g.count) ∧
          (u.state = .unadmitted → g.state ≠ .alerted → t.engine = g ∧ t.directory = s.directory)))

/-- A recentre turn moves the pointer to the next line and starts its period again. It starts a recentre of that line
exactly when both lines of the end are ACTIVE and not recentring and the end is identified: the line is marked and its
PATTERN-REQUEST joins the control queue, or at a full queue is dropped, counted, and the recentre abandoned (R77,
R78, R128). That a turn needs NRST released is the model's (log 26). -/
def Obligations.RecentreTurnMarksOneLine : Prop :=
  ∀ s : State, s.nrst = false → s.recentreTimer.isSome →
    let next : EndId × LineId := match s.rotation with
      | (e, .lineA) => (e, .lineB)
      | (.end1, .lineB) => (.end2, .lineA)
      | (.end2, .lineB) => (.end1, .lineA)
    let turned := { s with rotation := next, recentreTimer := some 250000 }
    let mayStart := (∀ x, (s.line next.1 x).state = .active ∧ (s.line next.1 x).recentre = .none) ∧
      ((s.endUnit next.1).state = .unadmitted ∨ (s.endUnit next.1).state = .admitted)
    (mayStart → (s.endUnit next.1).ControlRoom →
      exec .recentreTurn s = .next (turned.modEnd next.1 (fun u =>
        (u.modLine next.2 (fun n => { n with recentre := .requested })).withControl
          (.patternRequest next.2 true)))) ∧
    (mayStart → ¬ (s.endUnit next.1).ControlRoom →
      ∃ t, exec .recentreTurn s = .next t ∧ t.rotation = next ∧
        t.line next.1 next.2 = { s.line next.1 next.2 with
          record := { (s.line next.1 next.2).record with lastRecentre := .abandoned } } ∧
        (t.endUnit next.1).counters = { (s.endUnit next.1).counters with
          controlDrops := satInc (s.endUnit next.1).counters.controlDrops }) ∧
    (¬ mayStart → exec .recentreTurn s = .next turned)

/-- The end of a recentre sweep around phase P: a run containing P at least WMIN wide becomes the window, the phase moving
toward its target by at most 2; otherwise the line retrains with cause RECENTRE (R80, R81). That what the line then had in
hand is given up, the replies waiting for it among it, is the model's (log 47). -/
def Obligations.RecentreSweepMovesOrRetrains : Prop :=
  ∀ (s : State) (e : EndId) (x : LineId) (runs : List Nat) (w : Window), s.LinesKept → s.WindowsKept →
    (s.endUnit e).trainer.job = .recentreSweep x → (s.line e x).record.window = some w →
    let from_ := w.phase - 8
    let to_ := min 63 (w.phase + 8)
    (∀ low high, RunAround runs from_ to_ w.phase low high → s.store.working.wmin ≤ high - low + 1 →
      let target := targetOf (s.store.working.offset e x) low high
      let moved := (w.phase : Int) + max (-2) (min 2 (target - w.phase))
      ∃ t, exec (.recentreSweepEnd e runs) s = .next t ∧ (t.endUnit e).trainer.job = .free ∧
        t.line e x = { s.line e x with
          recentre := .none
          record := { (s.line e x).record with
            lastRecentre := .moved, window := some (windowAt low high moved.toNat) } }) ∧
    (¬ StepPassed runs w.phase ∨
      (∃ low high, RunAround runs from_ to_ w.phase low high ∧ high - low + 1 < s.store.working.wmin) →
      ∃ t, exec (.recentreSweepEnd e runs) s = .next t ∧ (t.endUnit e).trainer.job = .free ∧
        t.line e x = { s.line e x with
          state := .training, wantsSweep := true, silenceTimer := none, holdTimer := none, beaconTimer := none,
          recentre := .none, tx := Transmitter.idle
          record := { (s.line e x).record with lastRecentre := .retrain, cause := .recentre, sweeps := 0 } })

/-- A PATTERN-REQUEST is answered ACCEPT; when that ACCEPT has been sent, or at once where it cannot be, the line it names
enters, or starts again, a pattern hold of 1 ms, and a frame it was sending is cut. A line in hold sends pattern only. When
the hold ends, a beacon held back is sent, and a repeat that waited for it, which then counts as one send more (R66, R78, R79,
R89, R97, R103, R104). The model's are: that a cut frame is given up, and that a hold whose ACCEPT cannot be sent begins at
once (log 13); that a line which is not ACTIVE is held too (log 44); that a send which fell due but had not begun stays counted
and begins at the end of the hold, and that a repeat which waits is counted only then (log 15); and that a beacon goes before
such a send (log 48). -/
def Obligations.PatternHoldStartsAndEnds : Prop :=
  ∀ (s : State) (e : EndId) (x : LineId),
    let held : LineUnit → LineUnit := fun n =>
      { n with holdTimer := some 1000, tx := { n.tx with sending := none, holdAfter := none } }
    (∀ (f : RawFrame) (y : LineId), s.Hears e x kindPatternRequest f → (s.endUnit e).FindsNew f →
      decodePatternRequest f.body = some y →
      ((s.line e x).FreeToSend →
        exec (.patternRequest e x f) s = .next ((s.accepted e x (frameBit f)).modLine e x (fun n =>
          { n with tx := { n.tx with holdAfter := some y } }))) ∧
      ((s.line e x).holdTimer.isSome →
        (s.line e x.partner).state ≠ .active ∨ (s.line e x.partner).holdTimer.isSome →
        exec (.patternRequest e x f) s = .next (s.modEnd e (fun u =>
          { (u.modLine x (fun n => { n with silenceTimer := some (4000 * s.store.working.beacon) })).modLine y held
            with receiver := some { bit := frameBit f, answer := .accept } })))) ∧
    (∀ y, (s.line e x).tx.sending.isSome → (s.line e x).tx.holdAfter = some y →
      y = x ∨ ((s.line e x).tx.replies = [] ∧ (s.line e x).tx.beaconDue = false ∧
        (s.line e x).tx.frameDue = false) →
      exec (.transmissionEnd e x) s = .next (s.modEnd e (fun u =>
        (u.modLine x (fun n => { n with tx := { n.tx with sending := none, holdAfter := none } })).modLine y
          held))) ∧
    ((s.line e x).holdTimer.isSome →
      s.lineOutput e x = if s.bypass.state = .off then .pattern else .silent) ∧
    ((s.line e x).state = .active → (s.line e x).holdTimer.isSome → (s.line e x).tx.sending = none →
      (s.line e x).tx.replies = [] →
      let n := (s.endUnit e).sender
      let beacon : LineFrame :=
        .beacon s.store.working.tag e s.directory.generation (s.engine.state == .quiet)
      let ended := fun (tx : Transmitter) => s.modLine e x (fun n => { n with holdTimer := none, tx := tx })
      let tx := (s.line e x).tx
      (∀ f, n.frame = some f → n.waitsHold = true → n.currentLine = x → n.state = .awaiting →
        let resent := fun (tx : Transmitter) => (ended tx).modEnd e (fun u => { u with
          sender := { n with timer := .reply, waitsHold := false, sends := n.sends + 1, lastLine := x } })
        (tx.beaconDue = false → exec (.patternHoldEnd e x) s = .next (resent
          { tx with sending := some (.held n.currentBit f), frameDue := false })) ∧
        (tx.beaconDue = true → exec (.patternHoldEnd e x) s = .next (resent
          { tx with sending := some beacon, beaconDue := false, frameDue := true }))) ∧
      (n.waitsHold = false ∨ n.currentLine ≠ x →
        (tx.beaconDue = true → exec (.patternHoldEnd e x) s = .next (ended
          { tx with sending := some beacon, beaconDue := false })) ∧
        (∀ f, n.frame = some f → tx.beaconDue = false → tx.frameDue = true →
          exec (.patternHoldEnd e x) s = .next (ended
            { tx with sending := some (.held n.currentBit f), frameDue := false })) ∧
        (tx.beaconDue = false → tx.frameDue = false → exec (.patternHoldEnd e x) s = .next (ended tx))))

/-- A line's transmit side sends nothing unless the bypass is OFF; in OFF it sends the frame in hand while the line is ACTIVE
and not in pattern hold, and training pattern otherwise. A due BEACON leaves a free ACTIVE line at once, with the tag, the end,
the generation and the QUIET mark of that moment, and waits while the line is in hold or transmitting. When a transmission
that no hold follows ends, a waiting reply leaves before a due beacon, and a due beacon before the sender's frame (R66, R79,
R92, R104). That of several replies the one that arrived first leaves first is the model's (log 49), and so is that a beacon
which falls due while one is held back is sent with it as one, the beacon timer running on (log 54). -/
def Obligations.TransmissionsLeaveInOrder : Prop :=
  ∀ (s : State) (e : EndId) (x : LineId),
    let beacon : LineFrame :=
      .beacon s.store.working.tag e s.directory.generation (s.engine.state == .quiet)
    let sends := fun (t : Transmitter) => s.modLine e x (fun n => { n with tx := t })
    let tx := (s.line e x).tx
    (s.bypass.state ≠ .off → s.lineOutput e x = .silent) ∧
    (s.bypass.state = .off →
      ((s.line e x).state ≠ .active ∨ (s.line e x).holdTimer.isSome → s.lineOutput e x = .pattern) ∧
      ((s.line e x).state = .active → (s.line e x).holdTimer = none →
        (tx.sending = none → s.lineOutput e x = .pattern) ∧
        ∀ f, tx.sending = some f → s.lineOutput e x = .frame f)) ∧
    ((s.line e x).state = .active → (s.line e x).beaconTimer.isSome →
      ((s.line e x).FreeToSend →
        exec (.beaconDue e x) s = .next (sends { Transmitter.idle with sending := some beacon })) ∧
      ((s.line e x).holdTimer.isSome ∨ tx.sending.isSome →
        exec (.beaconDue e x) s = .next (sends { tx with beaconDue := true }))) ∧
    ((s.line e x).state = .active → (s.line e x).holdTimer = none → tx.sending.isSome → tx.holdAfter = none →
      (∀ r rest, tx.replies = r :: rest →
        exec (.transmissionEnd e x) s = .next (sends { tx with
          sending := some (.reply r.bit r.answer), holdAfter := r.holdAfter, replies := rest })) ∧
      (tx.replies = [] → tx.beaconDue = true →
        exec (.transmissionEnd e x) s = .next (sends { tx with sending := some beacon, beaconDue := false })) ∧
      (∀ f, tx.replies = [] → tx.beaconDue = false → tx.frameDue = true →
        (s.endUnit e).sender.frame = some f →
        exec (.transmissionEnd e x) s = .next
          (sends { tx with
            sending := some (.held (s.endUnit e).sender.currentBit f), frameDue := false })) ∧
      (tx.replies = [] → tx.beaconDue = false → tx.frameDue = false →
        exec (.transmissionEnd e x) s = .next (sends { tx with sending := none })))

/-! ## Frames arriving -/

/-- Whatever its kind, a frame on a line that is not ACTIVE is not taken, and one that fails the frame check only adds
to the line's check errors. A repeat is answered from the receiver record and nothing else acts on it. A malformed frame
that awaits a reply is refused MALFORMED, and the record takes that answer; a frame of unknown kind is refused so too, the
record not touched; a malformed BEACON or reply adds to the check errors. Each answer leaves on the line of arrival,
otherwise on its partner, otherwise not (R66, R72, R90, R91, R102, R104). That the repeat test comes first and that
MALFORMED is recorded are the model's (log 16), and so are that a tag 0 in an ALERT, an attempt identifier or a DEFER is
malformed (log 17) and that an answer waits behind the replies that wait already (log 49). -/
def Obligations.FramesAreCheckedAndRepeatsAnswered : Prop :=
  ∀ (s : State) (e : EndId) (x : LineId) (kind : Byte) (f : RawFrame),
    let u := s.endUnit e
    let counted : LineUnit → LineUnit := fun n => { n with checkErrors := satInc n.checkErrors }
    let silence : LineUnit → LineUnit := fun n =>
      { n with silenceTimer := some (4000 * s.store.working.beacon) }
    ((s.line e x).state ≠ .active → exec (frameCommand kind e x f) s = .next s) ∧
    ((s.line e x).state = .active → framePasses kind f = false →
      exec (frameCommand kind e x f) s = .next (s.modLine e x counted)) ∧
    (s.Hears e x kind f →
      (kind ∈ unansweredKinds → bodyInForm kind f.body = false →
        exec (frameCommand kind e x f) s = .next (s.modLine e x (fun n => counted (silence n)))) ∧
      ∀ (a : Answer) (v : EndUnit), (u.modLine x silence).Replies x (.plain (frameBit f) a) v →
        (∀ r, kind ∈ awaitingKinds → u.receiver = some r → r.bit = frameBit f → a = r.answer.answer →
          exec (frameCommand kind e x f) s = .next (s.setEnd e v)) ∧
        (a = .refuse .malformed → kind ∈ awaitingKinds → u.FindsNew f → bodyInForm kind f.body = false →
          exec (frameCommand kind e x f) s = .next (s.setEnd e { v with
            receiver := some { bit := frameBit f, answer := .refuse .malformed } })) ∧
        (a = .refuse .malformed → kind ∉ kindCodes →
          exec (.unknownFrameKind e x kind f) s = .next (s.setEnd e v)))

/-- A BEACON overwrites the peer identity, restarts the line's silence timer and decides the end state again; it forgets the
receiver record when the peer's tag changes. Where neither state nor tag changes nothing else does. A change of end state
raises END-CHANGE at both lanes, and a departure from ADMITTED purges the end's class queues: LOCAL frames are losses
LINK-DOWN, THROUGH frames count in no-answer. An entry to UNADMITTED, a departure from ADMITTED, and a tag that changes on an
identified end are each a topology change, which restarts the inauguration or is held by inhibit; nothing else is, and then
the engine stays (R24, R25, R54, R72, R82, R86, R93, R102, R138). That two of these at once are one topology change is the
model's (log 8), and so is the sender state in the ALERT (log 18). -/
def Obligations.BeaconsNameThePeer : Prop :=
  ∀ (s : State) (e : EndId) (x : LineId) (f : RawFrame) (p : PeerId),
    s.Hears e x kindBeacon f → decodeBeacon f.body = some p →
    let named := s.modEnd e (fun u => { u with peer := some p })
    let silence := some (4 * (s.store.working.beacon * 1000))
    (∃ t, exec (.beacon e x f) s = .next t ∧ (t.endUnit e).peer = some p ∧
      (t.endUnit e).state = named.endStateOf e ∧
      t.line e x = { s.line e x with silenceTimer := silence } ∧
      t.line e x.partner = s.line e x.partner ∧ (t.endUnit e).sender = (s.endUnit e).sender ∧
      (t.endUnit e).receiver = (match (s.endUnit e).peer with
        | some q => if q.tag = p.tag then (s.endUnit e).receiver else none
        | none => (s.endUnit e).receiver) ∧
      ((s.endUnit e).state.identified = true → (∃ q, (s.endUnit e).peer = some q ∧ q.tag ≠ p.tag) →
        s.bypass.state = .off → s.engine.effective.inhibit = false →
        t.engine.count = 1 ∧ (t.engine.state = .alerted ∨ t.engine.state = .leading))) ∧
    (named.endStateOf e = (s.endUnit e).state → (∀ q, (s.endUnit e).peer = some q → q.tag = p.tag) →
      exec (.beacon e x f) s = .next (named.modLine e x (fun n => { n with silenceTimer := silence }))) ∧
    (s.bypass.state = .off →
      let old := (s.endUnit e).state
      let new := named.endStateOf e
      let otherTag := ∃ q, (s.endUnit e).peer = some q ∧ q.tag ≠ p.tag
      let heard := s.modEnd e (fun u =>
        { u.modLine x (fun n => { n with silenceTimer := silence }) with
          peer := some p, state := new
          receiver := match u.peer with
            | some q => if q.tag = p.tag then u.receiver else none
            | none => u.receiver })
      let left := if old = .admitted ∧ new ≠ .admitted then heard.departed e else heard
      let told := if old = new then left else left.raiseBoth .endChange
      let change := (old ≠ .unadmitted ∧ new = .unadmitted) ∨ (old = .admitted ∧ new ≠ .admitted) ∨
        (old.identified = true ∧ otherTag)
      (change → s.engine.effective.inhibit = false → ∃ t, exec (.beacon e x f) s = .next t ∧
        State.TakesUp true 1 { told with candidate := none, engine := { s.engine with context := none } } t) ∧
      (change → s.engine.effective.inhibit = true → s.engine.state ≠ .mismatch →
        ∃ t, exec (.beacon e x f) s = .next t ∧ t.candidate = none ∧
          t.engine = s.engine.leaving .mismatch (some .localCause) ∧
          ∀ l, (t.lane l).notices &&& Notice.mismatch.mark = Notice.mismatch.mark) ∧
      (¬ change → s.engine.state ≠ .alerted → exec (.beacon e x f) s = .next told))

/-- An ALERT that rouses a node: a middle node waits in ALERTED and passes it on with one hop more; an extremity starts its own
tally. With inhibit on it puts a node in QUIET or FAILED, and a restart ALERT a node in CLOSED, into MISMATCH with attempt
count 1, and is passed on if another end is identified and its hops allow; in MISMATCH it is passed on while inhibit is off.
On an end that is not identified, back at its originator, in ALERTED, without the restart flag in an attempt, and in MISMATCH
under inhibit it changes nothing (R19, R22, R27 to R31, R53, R56, R61, R103). The sender state written into the ALERT passed
on, ALERTED or MISMATCH, is the model's (log 18), and so is the reading of R22 that sets the count under inhibit (log 45). -/
def Obligations.AlertsRouseTheNode : Prop :=
  ∀ (s : State) (e : EndId) (x : LineId) (f : RawFrame) (a : AlertBody),
    s.Hears e x kindAlert f → (s.line e x).FreeToSend → (s.endUnit e).FindsNew f →
    decodeAlert f.body = some a →
    let s' := s.accepted e x (frameBit f)
    let g := s.engine
    let rouses := g.state = .quiet ∨ g.state = .failed ∨ (a.restart = true ∧ g.state ≠ .alerted)
    let onward := fun (sender : EngineState) (t : State) =>
      t.modEnd e.other (EndUnit.withControl (.alert a.originator (a.hops + 1) a.restart sender))
    let passes := s.identified e.other = true ∧ a.hops < 24
    (s.identified e = false ∨ a.originator = s.ownTag ∨ g.state = .alerted ∨
      (a.restart = false ∧ (g.state = .leading ∨ g.state = .relaying ∨ g.state = .closed)) ∨
      (g.state = .mismatch ∧ g.effective.inhibit = true) →
      exec (.alert e x f) s = .next s') ∧
    (s.identified e = true → a.originator ≠ s.ownTag →
      (rouses → g.effective.inhibit = false →
        (s.identified e.other = true →
          let roused := { s' with candidate := none, engine := g.entering .alerted none 1 }
          (a.hops < 24 → (s.endUnit e.other).ControlRoom →
            exec (.alert e x f) s = .next (onward .alerted roused)) ∧
          (24 ≤ a.hops → exec (.alert e x f) s = .next roused)) ∧
        (s.identified e.other = false → (s.endUnit e).ControlRoom →
          let attempt : AttemptId := { tag := s.ownTag, claim := g.effective.claim, number := g.number + 1 }
          let entry := s.ownEntry 1 (match e with | .end1 => .reversed | .end2 => .direct)
          exec (.alert e x f) s = .next (State.modEnd
            { s' with
              candidate := none
              engine := { g.entering .leading
                (some { attempt := attempt, role := .starter, tallyEnd := none, ownPosition := 1 }) 1 with
                  number := g.number + 1 } } e
            (EndUnit.withControl (.tally attempt [entry]))))) ∧
      (g.state = .quiet ∨ g.state = .failed ∨ (g.state = .closed ∧ a.restart = true) → g.effective.inhibit = true →
        let held := State.raiseBoth
          { s' with
            candidate := none, engine := Engine.leaving { g with count := 1 } .mismatch (some .localCause) } .mismatch
        (passes → (s.endUnit e.other).ControlRoom → exec (.alert e x f) s = .next (onward .mismatch held)) ∧
        (¬ passes → exec (.alert e x f) s = .next held)) ∧
      (g.state = .mismatch → g.effective.inhibit = false → a.restart = false →
        (passes → (s.endUnit e.other).ControlRoom → exec (.alert e x f) s = .next (onward .mismatch s')) ∧
        (¬ passes → exec (.alert e x f) s = .next s')))

/-- A TALLY taken by a middle node goes on with its entry added; taken by the far extremity, a sound list becomes the
candidate and a CLOSURE goes back; with 24 entries it ends in DISSENT(OVERLENGTH) and FAILED. With inhibit on it is
turned back with DEFER. A FAILED node, and one with a better attempt, drops it (R23, R32 to R35, R44, R46, R53, R57). -/
def Obligations.TalliesAreRelayedOrClosed : Prop :=
  ∀ (s : State) (e : EndId) (x : LineId) (f : RawFrame) (a : AttemptId) (entries : List ListedEntry),
    s.Hears e x kindTally f → (s.line e x).FreeToSend → (s.endUnit e).FindsNew f →
    decodeTally f.body = some (a, entries) →
    let s' := s.accepted e x (frameBit f)
    let g := s.engine
    let count := if g.state = .quiet then 1 else g.count
    let mine := s.ownEntry (entries.length + 1) (match e with | .end1 => .direct | .end2 => .reversed)
    let all := entries ++ [mine]
    let taken := g.state = .quiet ∨ g.state = .alerted ∨
      ((g.state = .leading ∨ g.state = .relaying ∨ g.state = .closed) ∧
        ∀ c, g.context = some c → c.attempt.better a = false)
    (s.identified e = false ∨ g.state = .failed ∨
      ((g.state = .leading ∨ g.state = .relaying ∨ g.state = .closed) ∧ g.effective.inhibit = false ∧
        ∃ c, g.context = some c ∧ c.attempt.better a = true) →
      exec (.tally e x f) s = .next s') ∧
    (s.identified e = true → taken → g.effective.inhibit = false →
      (entries.length < 24 → s.identified e.other = true → (s.endUnit e.other).ControlRoom →
        exec (.tally e x f) s = .next (State.modEnd
          { s' with
            candidate := none
            engine := g.entering .relaying
              (some { attempt := a, role := .relay, tallyEnd := some e, ownPosition := entries.length + 1 }) count }
          e.other (EndUnit.withControl (.tally a all)))) ∧
      (ListSound s.ownTag (all.map ListedEntry.entry) → s.identified e.other = false →
        (s.endUnit e).ControlRoom →
        let check := crc16 ((all.map ListedEntry.entry).flatMap Entry.bytes)
        exec (.tally e x f) s = .next (State.modEnd
          { s' with
            candidate := some { attempt := a, entries := all, check := check, ownPosition := all.length }
            engine := g.entering .closed
              (some { attempt := a, role := .closer, tallyEnd := some e, ownPosition := all.length }) count }
          e (EndUnit.withControl (.closure a all check)))) ∧
      (entries.length = 24 → (s.endUnit e).ControlRoom →
        exec (.tally e x f) s = .next (State.raiseBoth (State.modEnd
          { s' with candidate := none, engine := Engine.leaving { g with count := count } .failed none }
          e (EndUnit.withControl (.dissent a .overlength))) .inaugurationFailed))) ∧
    (s.identified e = true → g.state = .quiet → g.effective.inhibit = true → (s.endUnit e).ControlRoom →
      exec (.tally e x f) s = .next (State.raiseBoth (State.modEnd
        { s' with candidate := none, engine := g.leaving .mismatch (some .localCause) }
        e (EndUnit.withControl (.defer a s.ownTag))) .mismatch)) ∧
    (s.identified e = true → g.state = .mismatch → (s.endUnit e).ControlRoom →
      exec (.tally e x f) s = .next (s'.modEnd e (EndUnit.withControl (.defer a s.ownTag))))

/-- A CLOSURE that fits a relay's context, with its entry right and its check agreeing, becomes its candidate and goes on
out of the tally end. With its entry wrong it is answered DISSENT(ENTRY-MISMATCH), with a check that differs
DISSENT(CHECK-MISMATCH), and the node stays RELAYING; with a tag twice DISSENT(DUPLICATE-TAG), and the node fails. At its
starter a sound one is committed under the new generation, with DIRECTORY-CHANGED, CLAIM-CONFLICT where two entries claim,
and a COMMIT; a tag twice is FAILED; and a first entry not its own or a check that differs is a retry, which fails at count
5, holds in MISMATCH with inhibit on and else starts again. Without a fitting context it is dropped (R9, R11, R22, R36 to
R39, R59, R64). The model's are that the COMMIT leaves by the end the CLOSURE came by, also where the other end is
identified (log 19), that a DISSENT is placed at the tally end whether or not it is identified (log 20), that a starter
which retries as a middle node keeps its old context in ALERTED (log 21), and the sender state in an ALERT (log 18). -/
def Obligations.ClosuresAreHeldAndCommitted : Prop :=
  ∀ (s : State) (e : EndId) (x : LineId) (f : RawFrame) (a : AttemptId) (entries : List ListedEntry)
    (check : Word),
    s.Hears e x kindClosure f → (s.line e x).FreeToSend → (s.endUnit e).FindsNew f →
    decodeClosure f.body = some (a, entries, check) →
    let s' := s.accepted e x (frameBit f)
    let emptied : State := { s' with candidate := none }
    let g := s.engine
    let list := entries.map ListedEntry.entry
    let agrees := check = crc16 (list.flatMap Entry.bytes)
    let carries := fun (k : Nat) => ∃ n ∈ entries, n.entry.position = k ∧ n.entry.tag = s.ownTag
    let failed := fun (t : State) (count : Nat) => State.raiseBoth
      { t with candidate := none, engine := Engine.leaving { g with count := count } .failed none }
      .inaugurationFailed
    ((∀ c, g.context = some c → c.attempt ≠ a) → exec (.closure e x f) s = .next s') ∧
    (∀ k, s.identified e = true → a.tag ≠ s.ownTag → g.state = .relaying →
      g.context = some { attempt := a, role := .relay, tallyEnd := some e.other, ownPosition := k } →
      (s.endUnit e.other).ControlRoom →
      let dissents := fun (reason : DissentReason) (t : State) =>
        t.modEnd e.other (EndUnit.withControl (.dissent a reason))
      (¬ carries k → exec (.closure e x f) s = .next (dissents .entryMismatch s')) ∧
      (carries k →
        (ListSound s.ownTag list → agrees → exec (.closure e x f) s = .next (State.modEnd
          { s' with
            candidate := some { attempt := a, entries := entries, check := check, ownPosition := k }
            engine := g.entering .closed g.context g.count }
          e.other (EndUnit.withControl (.closure a entries check)))) ∧
        (ListSound s.ownTag list → ¬ agrees →
          exec (.closure e x f) s = .next (dissents .checkMismatch emptied)) ∧
        (ListFormed s.ownTag list → ¬ (list.map Entry.tag).Nodup →
          exec (.closure e x f) s = .next (failed (dissents .duplicateTag s') g.count)))) ∧
    (s.identified e = true → a.tag = s.ownTag → g.state = .leading →
      g.context = some { attempt := a, role := .starter, tallyEnd := none, ownPosition := 1 } →
      (∀ n rest, (s.endUnit e).ControlRoom → ListSound s.ownTag list → agrees → entries = n :: rest →
        n.entry.tag = s.ownTag →
        let generation := newGeneration (entries.map ListedEntry.prior)
        let conflict := decide (2 ≤ (entries.filter (fun n => n.entry.claim)).length)
        let committed := State.raiseBoth (State.modEnd
          { s' with
            directory := { generation := generation, entries := list, referenceTag := s.ownTag,
                           ownPosition := some 1, ownOrientation := some n.entry.orientation, check := check,
                           claimConflict := conflict }
            candidate := none
            engine := { g with state := .quiet, deadline := none, cause := none } }
          e (EndUnit.withControl (.commit a generation check))) .directoryChanged
        exec (.closure e x f) s = .next (if conflict then committed.raiseBoth .claimConflict else committed)) ∧
      (carries 1 → ListFormed s.ownTag list → ¬ (list.map Entry.tag).Nodup →
        exec (.closure e x f) s = .next (failed s' g.count)) ∧
      ∀ r : State,
        (¬ carries 1 ∧ r = s') ∨
          (carries 1 ∧ r = emptied ∧ ListSound s.ownTag list ∧ ¬ agrees) →
        (g.count = 4 → exec (.closure e x f) s = .next (failed r 5)) ∧
        (g.count < 4 →
          (g.effective.inhibit = false →
            ∃ t, exec (.closure e x f) s = .next t ∧ r.TakesUp false (g.count + 1) t) ∧
          (g.effective.inhibit = true → exec (.closure e x f) s = .next (State.raiseBoth
            { r with
              candidate := none
              engine := Engine.leaving { g with count := g.count + 1 } .mismatch (some .localCause) }
            .mismatch))))

/-- A COMMIT that matches the candidate commits it: the record takes its list under the new generation, every derived
field with it, the candidate is empty, the engine QUIET, DIRECTORY-CHANGED pending at both lanes and CLAIM-CONFLICT when
two entries claim; and it goes on when cars stand beyond. One for no or another attempt is dropped; one whose check or
generation is wrong is answered DISSENT(CHECK-MISMATCH) and the candidate kept (R4, R11, R40, R41, R64). That the COMMIT goes
on whether or not the other end is identified is the model's (log 20). -/
def Obligations.CommitsInstallTheCandidate : Prop :=
  ∀ (s : State) (e : EndId) (x : LineId) (f : RawFrame) (a : AttemptId) (generation check : Word),
    s.Hears e x kindCommit f → (s.line e x).FreeToSend → (s.endUnit e).FindsNew f →
    decodeCommit f.body = some (a, generation, check) → s.identified e = true →
    let s' := s.accepted e x (frameBit f)
    ((∀ c, s.candidate = some c → c.attempt ≠ a) → exec (.commit e x f) s = .next s') ∧
    ∀ c, s.candidate = some c → c.attempt = a →
      (c.check ≠ check ∨ generation = s.directory.generation → (s.endUnit e).ControlRoom →
        exec (.commit e x f) s =
          .next (s'.modEnd e (EndUnit.withControl (.dissent a .checkMismatch)))) ∧
      (c.check = check → generation ≠ s.directory.generation → c.Sound s.ownTag →
        ∃ t, exec (.commit e x f) s = .next t ∧
          t.directory.generation = generation ∧ t.directory.entries = c.entries.map ListedEntry.entry ∧
          t.directory.check = check ∧ t.directory.ownPosition = some c.ownPosition ∧
          t.directory.Sound s.ownTag ∧ t.candidate = none ∧ t.engine = s.engine.leaving .quiet none ∧
          (∀ l, (t.lane l).notices &&& Notice.directoryChanged.mark = Notice.directoryChanged.mark ∧
            (t.directory.claimConflict = true →
              (t.lane l).notices &&& Notice.claimConflict.mark = Notice.claimConflict.mark)) ∧
          t.endUnit e = s'.endUnit e ∧
          t.endUnit e.other =
            (if c.ownPosition < c.entries.length then
              if (s.endUnit e.other).queues.control.length < 4 then
                (s.endUnit e.other).withControl (.commit a generation check)
              else { s.endUnit e.other with
                counters := { (s.endUnit e.other).counters with
                  controlDrops := satInc (s.endUnit e.other).counters.controlDrops } }
            else s.endUnit e.other))

/-- A DISSENT at a node that is not its starter passes on out of the other end, and a structural one makes the node
FAILED; a retryable one leaves it. At its starter, LEADING or QUIET after its commit, a structural one and the one that
brings the attempt count to 5 make it FAILED; a retryable one below that count makes the starter send a plain ALERT, enter
ALERTED and, as an extremity, start a new tally, or enter MISMATCH with inhibit on. A DEFER passes on too, and puts the
relay and the starter of its attempt into MISMATCH with cause REMOTE (R22, R31, R42 to R44, R46, R53, R58, R59). That the
retried ALERT carries ALERTED, and that a starter keeps its old context until its new tally, are the model's (log 18,
log 21). -/
def Obligations.DissentsAndDefersTravelToTheStarter : Prop :=
  ∀ (s : State) (e : EndId) (x : LineId) (f : RawFrame) (a : AttemptId),
    (s.line e x).FreeToSend → (s.endUnit e).FindsNew f → s.identified e = true →
    let s' := s.accepted e x (frameBit f)
    let g := s.engine
    let failed := fun (t : State) (count : Nat) => State.raiseBoth
      { t with candidate := none, engine := Engine.leaving { g with count := count } .failed none }
      .inaugurationFailed
    let remote := fun (t : State) => State.raiseBoth
      { t with candidate := none, engine := g.leaving .mismatch (some .remoteCause) } .mismatch
    (∀ reason, s.Hears e x kindDissent f → decodeDissent f.body = some (a, reason) →
      let structural := reason = .overlength ∨ reason = .duplicateTag
      (a.tag ≠ s.ownTag →
        let t := if s.identified e.other then s'.modEnd e.other (EndUnit.withControl (.dissent a reason)) else s'
        (s.endUnit e.other).ControlRoom →
        (¬ structural → exec (.dissent e x f) s = .next t) ∧
        (structural → g.state ≠ .failed → exec (.dissent e x f) s = .next (failed t g.count))) ∧
      (∀ c, a.tag = s.ownTag → g.context = some c → c.role = .starter → c.attempt = a →
        g.state = .leading ∨ g.state = .quiet →
        (structural → exec (.dissent e x f) s = .next (failed s' g.count)) ∧
        (¬ structural → g.count = 4 → exec (.dissent e x f) s = .next (failed s' 5)) ∧
        (¬ structural → g.count < 4 →
          (g.effective.inhibit = false →
            ∃ t, exec (.dissent e x f) s = .next t ∧ s'.TakesUp false (g.count + 1) t) ∧
          (g.effective.inhibit = true → exec (.dissent e x f) s = .next (State.raiseBoth
            { s' with
              candidate := none
              engine := Engine.leaving { g with count := g.count + 1 } .mismatch (some .localCause) }
            .mismatch))))) ∧
    (∀ by_, s.Hears e x kindDefer f → decodeDefer f.body = some (a, by_) →
      (a.tag ≠ s.ownTag →
        let t := if s.identified e.other then s'.modEnd e.other (EndUnit.withControl (.defer a by_)) else s'
        (s.endUnit e.other).ControlRoom →
        (∀ c, g.context = some c → c.attempt = a → g.state = .relaying →
          exec (.defer e x f) s = .next (remote t)) ∧
        (g.state ≠ .relaying → exec (.defer e x f) s = .next t)) ∧
      (∀ c, a.tag = s.ownTag → g.context = some c → c.role = .starter → c.attempt = a → g.state = .leading →
        exec (.defer e x f) s = .next (remote s')))

/-- The purge at commit leaves in the class queues only frames of the active generation, and of those it finds there
loses none and moves none past another; control queues and senders stand. A frame of another generation, alone among any
others: a THROUGH frame is counted stale; a message of another address than TAG, or to a tag no longer known, is a loss
CONSIST-CHANGED; a TAG message to this car is delivered; one that resolves to the same end is stamped again where it
stands; one to the other end joins the tail there when that end is ADMITTED with room, and else is a loss CONSIST-CHANGED.
Re-evaluating admission gives End 1 the state R83 decides, and End 2 too when End 1's did not change; where neither
changes, nothing does (R86, R118, R119, R132, R136). The model's are the order End 1 before End 2 (log 9), and that the purge
and the admission are commands which may be given at any time (log 10). -/
def Obligations.CommitsPurgeAndReadmit : Prop :=
  (∀ s : State, ∃ t, exec .commitPurge s = .next t ∧ t.directory = s.directory ∧ t.engine = s.engine ∧
    ∀ e, (t.endUnit e).sender = (s.endUnit e).sender ∧
      (t.endUnit e).queues.control = (s.endUnit e).queues.control ∧ (t.endUnit e).state = (s.endUnit e).state ∧
      ∀ cls,
        (∀ r ∈ (t.endUnit e).queues.classQueue cls, r.frame.generation = s.directory.generation) ∧
        (((s.endUnit e).queues.classQueue cls).filter
          (fun r => decide (r.frame.generation = s.directory.generation))).Sublist
            ((t.endUnit e).queues.classQueue cls)) ∧
  (∀ (s : State) (e : EndId) (r : DataRecord) (before after : List DataRecord),
    let d := s.directory
    let cls := r.frame.cls
    let fresh := fun n : DataRecord => n.frame.generation = d.generation
    (s.endUnit e).queues.classQueue cls = before ++ r :: after → ¬ fresh r →
    (∀ n ∈ before ++ after, fresh n) →
    (∀ e' cls', e' ≠ e ∨ cls' ≠ cls → ∀ n ∈ (s.endUnit e').queues.classQueue cls', fresh n) →
    let rest := fun q : EndQueues => q.setClassQueue cls (before ++ after)
    let removed := s.modEnd e (fun u =>
      { u with queues := if before = [] then (rest u.queues).clearRelief cls else rest u.queues })
    let stamped : Nat → Nat → DataRecord := fun t h => { r with frame := { r.frame with
      target := t, hops := h, origin := d.ownPosition.getD 0, generation := d.generation } }
    (r.origin = .through → exec .commitPurge s = .next (removed.modEnd e (fun u =>
      { u with counters := { u.counters with stale := satInc u.counters.stale } }))) ∧
    ∀ lane address accepted, r.origin = .local_ lane address accepted →
      let lost := removed.modLane lane (fun p => { p with
        notices := p.notices ||| Notice.sendLoss.mark
        losses := { p.losses with consistChanged := satInc p.losses.consistChanged } })
      ((∀ w, address ≠ .tag w) ∨ d.resolve address = .unknownTag → exec .commitPurge s = .next lost) ∧
      ∀ w, address = .tag w →
        (∀ t, d.resolve address = .loopback →
          removed.Delivers { cls := cls, broadcast := false, originPosition := d.ownPosition.getD 0,
                             originTag := s.ownTag, generation := d.generation, payload := r.frame.payload } t →
          exec .commitPurge s = .next t) ∧
        (∀ t h, d.resolve address = .resolved t e h → exec .commitPurge s = .next (s.modEnd e (fun u =>
          { u with queues := u.queues.setClassQueue cls (before ++ stamped t h :: after) }))) ∧
        ∀ t h, d.resolve address = .resolved t e.other h →
          ((s.endUnit e.other).state = .admitted → (s.endUnit e.other).queues.hasRoom cls = true →
            exec .commitPurge s = .next (removed.modEnd e.other (fun u =>
              { u with queues := u.queues.push (stamped t h) }))) ∧
          ((s.endUnit e.other).state ≠ .admitted ∨ (s.endUnit e.other).queues.hasRoom cls = false →
            exec .commitPurge s = .next lost)) ∧
  ∀ s : State,
    (∃ t, exec .admissionAtCommit s = .next t ∧ t.end1.state = s.endStateOf .end1 ∧
      (s.end1.state = s.endStateOf .end1 → t.end2.state = s.endStateOf .end2)) ∧
    (s.end1.state = s.endStateOf .end1 → s.end2.state = s.endStateOf .end2 →
      exec .admissionAtCommit s = .next s)

/-- A DATA frame is refused NOT-ADMITTED on an end that is not ADMITTED, and STALE under another generation. Otherwise a
target beyond the consist, the own position with another hop count than one, another position with one hop left, and a
frame running back are misroutes. At its target it is delivered to the attached lanes, or held back when a lane can take no
COMMAND frame. For another car it is dropped and counted at an end that is not ADMITTED, forwarded with one hop less where
the class queue has room, and held back where it has none. A broadcast is delivered and, with hops left, forwarded or its
copy counted, all in one, or held back as a whole (R103, R114, R115, R117, R130, R133 to R135). -/
def Obligations.DataFramesAreDeliveredForwardedOrHeld : Prop :=
  ∀ (s : State) (e : EndId) (x : LineId) (f : RawFrame) (d : DataFrame),
    s.Hears e x kindData f → (s.line e x).FreeToSend → (s.endUnit e).FindsNew f → decodeData f.body = some d →
    let bit := frameBit f
    let s' := s.accepted e x bit
    let size := s.directory.entries.length
    let out := s.endUnit e.other
    let refused := fun (reason : RefuseReason) (t : State) => t.modEnd e (fun u =>
      { u.modLine x (LineUnit.replying (4000 * s.store.working.beacon) bit (.refuse reason)) with
        receiver := some { bit := bit, answer := .refuse reason } })
    let heldBack := s.modLine e x (LineUnit.replying (4000 * s.store.working.beacon) bit .hold)
    let misrouted := s'.modEnd e (fun u =>
      { u with counters := { u.counters with misroutes := satInc u.counters.misroutes } })
    let unsent : EndUnit → EndUnit := fun u =>
      { u with counters := { u.counters with noAnswer := satInc u.counters.noAnswer } }
    let onward : EndUnit → EndUnit := fun u =>
      { u with queues := u.queues.push { frame := { d with hops := d.hops - 1 }, origin := .through } }
    let entry : Bool → ReceiveEntry := fun broadcast =>
      { cls := d.cls, broadcast := broadcast, originPosition := d.origin,
        originTag := s.directory.originTag d.origin, generation := d.generation, payload := d.payload }
    let blocked := d.cls = .command ∧ s.CommandBlocked
    ((s.endUnit e).state ≠ .admitted → exec (.data e x f) s = .next (refused .notAdmitted s)) ∧
    ((s.endUnit e).state = .admitted → d.generation ≠ s.directory.generation →
      exec (.data e x f) s = .next (refused .stale (s.modEnd e (fun u =>
        { u with counters := { u.counters with stale := satInc u.counters.stale } })))) ∧
    ∀ p o, (s.endUnit e).state = .admitted → d.generation = s.directory.generation →
      s.directory.ownPosition = some p → s.directory.ownOrientation = some o → 1 ≤ p → p ≤ size →
      (size < d.target → exec (.data e x f) s = .next misrouted) ∧
      (d.target = p →
        (d.hops ≠ 1 → exec (.data e x f) s = .next misrouted) ∧
        (d.hops = 1 → blocked → exec (.data e x f) s = .next heldBack) ∧
        (∀ t, d.hops = 1 → ¬ blocked → s'.Delivers (entry false) t → exec (.data e x f) s = .next t)) ∧
      (1 ≤ d.target → d.target ≤ size → d.target ≠ p →
        let facing := if p < d.target then o.upEnd else o.downEnd
        (d.hops = 1 ∨ facing = e → exec (.data e x f) s = .next misrouted) ∧
        (d.hops ≠ 1 → facing = e.other →
          (out.state ≠ .admitted → exec (.data e x f) s = .next (s'.modEnd e.other unsent)) ∧
          (out.state = .admitted → out.queues.hasRoom d.cls = true →
            exec (.data e x f) s = .next (s'.modEnd e.other onward)) ∧
          (out.state = .admitted → out.queues.hasRoom d.cls = false →
            exec (.data e x f) s = .next heldBack))) ∧
      (d.target = 0 →
        (blocked → exec (.data e x f) s = .next heldBack) ∧
        (2 ≤ d.hops → out.state = .admitted → out.queues.hasRoom d.cls = false →
          exec (.data e x f) s = .next heldBack) ∧
        ∀ t, ¬ blocked → s'.Delivers (entry true) t →
          (d.hops = 1 → exec (.data e x f) s = .next t) ∧
          (2 ≤ d.hops → out.state ≠ .admitted →
            exec (.data e x f) s = .next (t.modEnd e.other unsent)) ∧
          (2 ≤ d.hops → out.state = .admitted → out.queues.hasRoom d.cls = true →
            exec (.data e x f) s = .next (t.modEnd e.other onward)))

/-! ## The sender, the arbiter and the resolver -/

/-- A matching ACCEPT or REFUSE ends the frame, its bit turned over, counted at the end, the unanswered run of the line it
was last sent on ended; a LOCAL DATA frame refused is a loss REFUSED of its lane, and the ACCEPT of a PATTERN-REQUEST starts
its sweep. A matching HOLD puts the sender into BACKING, or at the 2000th ends the frame CONGESTED, a loss of its lane when
it is LOCAL, with the next bit kept. A reply that does not match only restarts its line's silence timer (R72, R78, R95, R96,
R98, R99, R100, R140). The model's are the line whose run a HOLD ends for a frame that has moved and not been sent there
(log 42), and what the sender keeps at an outcome (log 36). -/
def Obligations.RepliesEndOrBackTheFrame : Prop :=
  ∀ (s : State) (e : EndId) (x : LineId) (f : RawFrame) (h : HeldFrame),
    let u := s.endUnit e
    let n := u.sender
    let silence := s.modLine e x (fun m => { m with silenceTimer := some (4 * (s.store.working.beacon * 1000)) })
    let idle : Sender := { n with
      state := .idle, frame := none, timer := .stopped, waitsHold := false, nextBit := !n.currentBit }
    let answers := (n.state = .awaiting ∨ n.state = .backing) ∧ n.currentBit = frameBit f ∧ n.frame = some h
    (s.Hears e x kindAccept f → f.body = [] →
      (answers → (∀ y, h ≠ .control (.patternRequest y true)) →
        ∃ t, exec (.accept e x f) s = .next t ∧ (t.endUnit e).sender = idle ∧
          (t.endUnit e).counters = { u.counters with framesSent := satInc u.counters.framesSent } ∧
          (t.line e n.lastLine).unanswered = 0 ∧ ∀ l, t.lane l = s.lane l) ∧
      (∀ y, answers → h = .control (.patternRequest y true) → (s.line e y).recentre = .requested →
        ∃ t, exec (.accept e x f) s = .next t ∧ (t.endUnit e).sender = idle ∧
          (t.line e y).recentre = .sweeping ∧
          (t.line e y).record.recentres = satInc (s.line e y).record.recentres ∧
          (t.endUnit e).trainer = { job := .recentreSweep y, passMap := List.replicate 64 false }) ∧
      (n.state = .idle ∨ n.state = .pending ∨ n.currentBit ≠ frameBit f →
        exec (.accept e x f) s = .next silence)) ∧
    (s.Hears e x kindRefuse f → (∃ r, decodeRefuse f.body = some r) →
      (answers →
        ∃ t, exec (.refuse e x f) s = .next t ∧ (t.endUnit e).sender = idle ∧
          (t.endUnit e).counters = { u.counters with refusals := satInc u.counters.refusals } ∧
          (t.line e n.lastLine).unanswered = 0 ∧
          ∀ l, t.lane l =
            (s.lane l).charged (h.messagesOf l) (fun c => { c with refused := satInc c.refused })) ∧
      (n.state = .idle ∨ n.state = .pending ∨ n.currentBit ≠ frameBit f →
        exec (.refuse e x f) s = .next silence)) ∧
    (s.Hears e x kindHold f → f.body = [] →
      (answers → n.holds + 1 < 2000 →
        ∃ t, exec (.hold e x f) s = .next t ∧
          (t.endUnit e).sender = { n with
            state := .backing, holds := n.holds + 1, sends := 0, timer := .holdWait, waitsHold := false } ∧
          (t.endUnit e).counters = { u.counters with holds := satInc u.counters.holds } ∧
          (t.line e n.lastLine).unanswered = 0 ∧ ∀ l, t.lane l = s.lane l) ∧
      (answers → n.holds + 1 = 2000 →
        ∃ t, exec (.hold e x f) s = .next t ∧ (t.endUnit e).sender.state = .idle ∧
          (t.endUnit e).sender.frame = none ∧ (t.endUnit e).sender.nextBit = n.nextBit ∧
          (t.endUnit e).counters = { u.counters with
            holds := satInc u.counters.holds, congested := satInc u.counters.congested } ∧
          ∀ l, t.lane l =
            (s.lane l).charged (h.messagesOf l) (fun c => { c with congested := satInc c.congested })) ∧
      (n.state = .idle ∨ n.state = .pending ∨ n.currentBit ≠ frameBit f →
        exec (.hold e x f) s = .next silence))

/-- An unanswered send is repeated on its line with the same bit while sends is below 3; then the frame moves to an ACTIVE
partner once, and else ends NO-ANSWER, a loss of its lane when it is LOCAL, the line's unanswered run one more; a run that
reaches 3 takes the line out of ACTIVE. The timeout does not run out while the send still waits for its line. A hold wait's
end sends again with sends 1, and a PENDING frame is sent on line A if that is selectable, else on line B, else not (R79,
R87, R94, R95, R97 to R99, R140). That the timer is marked running from the moment the send falls due is the model's (log
14). -/
def Obligations.UnansweredSendsRepeatMoveAndEnd : Prop :=
  ∀ (s : State) (e : EndId) (h : HeldFrame),
    let u := s.endUnit e
    let n := u.sender
    let y := n.currentLine
    let ready := fun x => (s.line e x).state = .active ∧ (s.line e x).recentre = .none ∧
      (s.line e x).holdTimer = none
    n.frame = some h →
    (n.state = .awaiting → (s.line e y).tx.frameDue = true → exec (.replyTimeout e) s = .next s) ∧
    (s.LinesKept → n.state = .awaiting → n.timer = .reply → n.waitsHold = false →
      (s.line e y).tx.frameDue = false →
      (n.sends < 3 → (s.line e y).holdTimer = none →
        ∃ t, exec (.replyTimeout e) s = .next t ∧
          (t.endUnit e).sender = { n with sends := n.sends + 1, holds := 0, lastLine := y } ∧
          (t.endUnit e).counters = u.counters ∧ (∀ x, (t.line e x).unanswered = (s.line e x).unanswered) ∧
          ∀ l, t.lane l = s.lane l) ∧
      (n.sends = 3 → n.moved = false → (s.line e y.partner).state = .active →
        (s.line e y.partner).holdTimer = none → (s.line e y).unanswered < 2 →
        ∃ t, exec (.replyTimeout e) s = .next t ∧
          (t.endUnit e).sender = { n with
            moved := true, currentLine := y.partner, lastLine := y.partner, sends := 1, holds := 0 } ∧
          (t.line e y).unanswered = (s.line e y).unanswered + 1 ∧ (t.line e y).state = .active ∧
          ∀ l, t.lane l = s.lane l) ∧
      (n.sends = 3 → n.moved = true ∨ (s.line e y.partner).state ≠ .active → (s.line e y).unanswered < 2 →
        ∃ t, exec (.replyTimeout e) s = .next t ∧ (t.endUnit e).sender.state = .idle ∧
          (t.endUnit e).sender.frame = none ∧ (t.endUnit e).sender.nextBit = !n.currentBit ∧
          (t.endUnit e).counters = { u.counters with noAnswer := satInc u.counters.noAnswer } ∧
          (t.line e y).unanswered = (s.line e y).unanswered + 1 ∧
          ∀ l, t.lane l =
            (s.lane l).charged (h.messagesOf l) (fun c => { c with noAnswer := satInc c.noAnswer })) ∧
      (n.sends = 3 → (s.line e y).unanswered = 2 →
        ∃ t, exec (.replyTimeout e) s = .next t ∧ (t.line e y).unanswered = 0 ∧
          (t.line e y).state = (if (s.line e y).carrier then .training else .dark))) ∧
    (n.state = .backing → n.timer = .holdWait → n.sends = 0 → (s.line e y).holdTimer = none →
      ∃ t, exec (.holdWaitEnd e) s = .next t ∧
        (t.endUnit e).sender = { n with
          state := .awaiting, timer := .reply, waitsHold := false, sends := 1, lastLine := y } ∧
        (t.endUnit e).counters = u.counters ∧ ∀ l, t.lane l = s.lane l) ∧
    (n.state = .pending → n.sends = 0 →
      (∀ x, ready x → (x = .lineA ∨ ¬ ready .lineA) →
        ∃ t, exec (.pendingSend e) s = .next t ∧
          (t.endUnit e).sender = { n with
            state := .awaiting, timer := .reply, waitsHold := false, sends := 1, currentLine := x,
            lastLine := x } ∧
          (t.endUnit e).counters = u.counters ∧ ∀ l, t.lane l = s.lane l) ∧
      (¬ ready .lineA → ¬ ready .lineB → exec (.pendingSend e) s = .next s))

/-- The arbiter offers the first head that exists to the IDLE sender of an identified end with an ACTIVE line: the control
head, on an ADMITTED end then a relieved PROCESS head, a relieved BULK head, and the COMMAND, PROCESS and BULK heads. The sender
takes it and sends it on line A where that is selectable, else on line B, at once or behind what the line is sending; with
neither selectable it is PENDING. The relief counts of the heads passed over rise to their limits, that of a head taken becomes
0. Otherwise nothing is offered (R87, R94, R131, R132). -/
def Obligations.ArbiterTakesTheFirstHead : Prop :=
  ∀ (s : State) (e : EndId),
    let u := s.endUnit e
    let q := u.queues
    let limitP := s.store.working.reliefProcess
    let limitB := s.store.working.reliefBulk
    let takes := fun (h : HeldFrame) (q' : EndQueues) =>
      ∃ t, exec (.arbiterOffer e) s = .next t ∧ s.TakesFrame e h q' t
    let count := fun (limit n : Nat) (rest : List DataRecord) => if rest = [] then 0 else min limit (n + 1)
    (u.sender.state ≠ .idle ∨ (∀ x, (s.line e x).state ≠ .active) ∨ u.state.identified = false →
      exec (.arbiterOffer e) s = .next s) ∧
    (u.sender.state = .idle → u.state.identified = true → (∃ x, (s.line e x).state = .active) →
      (∀ f rest, q.control = f :: rest → takes (.control f) { q with control := rest }) ∧
      (q.control = [] → u.state = .unadmitted → exec (.arbiterOffer e) s = .next s) ∧
      (q.control = [] → u.state = .admitted →
        if q.process ≠ [] ∧ limitP ≤ q.reliefProcess then
          ∀ r rest, q.process = r :: rest → takes (.data r)
            { q with process := rest, reliefProcess := 0, reliefBulk := count limitB q.reliefBulk q.bulk }
        else if q.bulk ≠ [] ∧ limitB ≤ q.reliefBulk then
          ∀ r rest, q.bulk = r :: rest → takes (.data r) { q with bulk := rest, reliefBulk := 0 }
        else if q.command ≠ [] then
          ∀ r rest, q.command = r :: rest → takes (.data r)
            { q with command := rest, reliefProcess := count limitP q.reliefProcess q.process,
                     reliefBulk := count limitB q.reliefBulk q.bulk }
        else if q.process ≠ [] then
          ∀ r rest, q.process = r :: rest → takes (.data r)
            { q with process := rest, reliefProcess := 0, reliefBulk := count limitB q.reliefBulk q.bulk }
        else
          (∀ r rest, q.bulk = r :: rest → takes (.data r) { q with bulk := rest, reliefBulk := 0 }) ∧
          (q.bulk = [] → exec (.arbiterOffer e) s = .next s)))

/-- The resolver at the head of the lane its pointer names: the frame joins the class queue of the ADMITTED end that
resolution names, stamped with the active generation; it is a loss LINK-DOWN when that end is not ADMITTED, and a loss
CONSIST-CHANGED when the message is not TAG-addressed and was accepted under another generation; each time the pointer
moves to the other lane. A head that finds its class queue full waits, and a broadcast places both its copies (R111,
R118, R125 to R127, R129, R140). That one RESOLVER_EXAMINATION ends when a head has left, so that the next head is another
command, is the model's: the worked example of 7.3 lets one opportunity go on to a second head (log 11). -/
def Obligations.ResolverPlacesLosesOrWaits : Prop :=
  ∀ (s : State) (r : SendRecord) (rest : List SendRecord),
    let l := s.resolver
    let d := s.directory
    let frame : Nat → Nat → DataFrame := fun target hops =>
      { target := target, hops := hops, origin := d.ownPosition.getD 0, generation := d.generation, cls := r.cls,
        payload := r.payload }
    let placed := fun (e : EndId) (target hops : Nat) (t : State) => t.modEnd e (fun u =>
      { u with queues := u.queues.push { frame := frame target hops, origin := .local_ l r.address r.accepted } })
    let popped := { s with resolver := l.other }.modLane l (fun p => { p with sendQueue := rest })
    let lost := fun (f : LossCounters → LossCounters) => popped.modLane l (fun p =>
      { p with notices := p.notices ||| Notice.sendLoss.mark, losses := f p.losses })
    (s.lane l).sendQueue = r :: rest →
    (∀ target e hops, r.address ≠ .broadcast → d.resolve r.address = .resolved target e hops →
      r.accepted = d.generation ∨ (∃ w, r.address = .tag w) →
      ((s.endUnit e).state = .admitted → (s.endUnit e).queues.hasRoom r.cls = true →
        exec .resolverExamination s = .next (placed e target hops popped)) ∧
      ((s.endUnit e).state ≠ .admitted → exec .resolverExamination s =
        .next (lost (fun c => { c with linkDown := satInc c.linkDown }))) ∧
      ((s.endUnit e).state = .admitted → (s.endUnit e).queues.hasRoom r.cls = false →
        (s.lane l.other).sendQueue = [] → exec .resolverExamination s = .next s)) ∧
    (r.accepted ≠ d.generation → (∀ w, r.address ≠ .tag w) →
      exec .resolverExamination s =
        .next (lost (fun c => { c with consistChanged := satInc c.consistChanged }))) ∧
    ∀ p o, r.address = .broadcast → r.accepted = d.generation → r.upPlaced = false → r.downPlaced = false →
      d.ownPosition = some p → d.ownOrientation = some o → 1 < p → p < d.entries.length →
      (∀ e, (s.endUnit e).state = .admitted ∧ (s.endUnit e).queues.hasRoom r.cls = true) →
      exec .resolverExamination s =
        .next (placed o.downEnd 0 (p - 1) (placed o.upEnd 0 (d.entries.length - p) popped))

/-! ## Deadline, bypass, scrub and store -/

/-- The deadline's expiry gives up the attempt and counts: the fifth makes the node FAILED; below that a middle node sends
a plain ALERT out of each end and re-enters ALERTED, an extremity starts a new tally as well, a lone node leaves with a
directory of one, and with inhibit on the node enters MISMATCH (R22, R26, R27, R31, R45, R59). That the ALERT carries the
sender state ALERTED is the model's (log 18). -/
def Obligations.DeadlineRetriesOrFails : Prop :=
  ∀ s : State, s.engine.deadline.isSome →
    let g := s.engine
    let n := min 5 (g.count + 1)
    let alert : ControlFrame := .alert s.ownTag 1 false .alerted
    (4 ≤ g.count → exec .deadlineExpiry s = .next (State.raiseBoth
      { s with candidate := none, engine := Engine.leaving { g with count := 5 } .failed none }
      .inaugurationFailed)) ∧
    (g.count < 4 → g.effective.inhibit = true → exec .deadlineExpiry s = .next (State.raiseBoth
      { s with candidate := none, engine := Engine.leaving { g with count := n } .mismatch (some .localCause) }
      .mismatch)) ∧
    (g.count < 4 → g.effective.inhibit = false →
      (s.identified .end1 = true → s.identified .end2 = true → s.end1.ControlRoom → s.end2.ControlRoom →
        exec .deadlineExpiry s = .next { s with
          candidate := none, engine := g.entering .alerted none n
          end1 := s.end1.withControl alert, end2 := s.end2.withControl alert }) ∧
      (∀ e, s.identified e = true → s.identified e.other = false → (s.endUnit e).queues.control.length ≤ 2 →
        let attempt : AttemptId := { tag := s.ownTag, claim := g.effective.claim, number := g.number + 1 }
        let entry := s.ownEntry 1 (match e with | .end1 => .reversed | .end2 => .direct)
        exec .deadlineExpiry s = .next (State.modEnd
          { s with
            candidate := none
            engine := { g.entering .leading
              (some { attempt := attempt, role := .starter, tallyEnd := none, ownPosition := 1 }) n with
                number := g.number + 1 } } e
          (fun u => (u.withControl alert).withControl (.tally attempt [entry])))) ∧
      (s.identified .end1 = false → s.identified .end2 = false → s.ownTag ≠ 0 →
        ∃ t, exec .deadlineExpiry s = .next t ∧ t.engine.state = .quiet ∧ t.engine.count = n ∧
          t.directory.generation = successor s.directory.generation ∧
          t.directory.entries = [(s.ownEntry 1 .direct).entry] ∧ t.candidate = none))

/-- The relay is driven in RELEASING and OFF alone. A release that nothing has turned back ends in OFF: BYPASS-CHANGE is
raised, coupled lines with carrier settle, and the node, lone, leaves with a directory of one under generation 1, or holds
in MISMATCH with inhibit on. A fault latched or a bypass request turns it into an engagement, which gives up what the node
holds. An engagement ends in ENGAGED, and in RELEASING at once when the release conditions hold (R26, R54, R65, R139, R143,
R145, R147, R149, R150). -/
def Obligations.BypassTransitsEnd : Prop :=
  (∀ s : State, s.relayDriven = true ↔ s.bypass.state = .releasing ∨ s.bypass.state = .off) ∧
  ∀ s : State, s.bypass.transition.isSome →
    (s.bypass.state = .releasing → s.HeldOut → s.bypass.latched = .none → s.engine.effective.bypass = false →
      ∃ t, exec .releaseEnd s = .next t ∧ t.bypass = { s.bypass with state := .off, transition := none } ∧
        (∀ l, (t.lane l).notices &&& Notice.bypassChange.mark = Notice.bypassChange.mark) ∧
        (∀ e x, (t.line e x).state =
          (if (s.endUnit e).sense && (s.line e x).carrier then .settling else .dark)) ∧
        (s.engine.effective.inhibit = false → s.ownTag ≠ 0 → t.engine.state = .quiet ∧
          t.directory.generation = 1 ∧ t.directory.entries = [(s.ownEntry 1 .direct).entry]) ∧
        (s.engine.effective.inhibit = true → t.engine.state = .mismatch ∧
          t.engine.cause = some .localCause ∧ t.directory = Directory.empty)) ∧
    (s.bypass.state = .releasing → s.bypass.latched ≠ .none ∨ s.engine.effective.bypass = true →
      ∃ t, exec .releaseEnd s = .next t ∧ s.Engages t) ∧
    (s.bypass.state = .engaging →
      exec .engageEnd s = .next { s with
        bypass := if s.bypass.startUpComplete = true ∧ s.bypass.latched = .none ∧ s.engine.effective.bypass = false
          then { s.bypass with state := .releasing, transition := some 15000 }
          else { s.bypass with state := .engaged, transition := none } })

/-- A scrub that finds nothing changes nothing. One that finds the directory or, that being whole, the settings spoilt
latches the cause unless one is latched, with BYPASS-CHANGE, and in OFF engages: the node falls out of the train with its
queues and lines empty, each message in them a loss BYPASS, its directory cleared, its engine QUIET with its number kept, and
votes, receive queues and training windows kept (R16, R17, R81, R88, R134, R139, R146, R147, R152, R153). -/
def Obligations.ScrubLatchesAndEngages : Prop :=
  ∀ s : State, s.bypass.scrubTimer.isSome →
    let badDirectory := crc16 (s.directory.entries.flatMap Entry.bytes) ≠ s.directory.check
    let badSettings := crc16 s.store.working.bytes ≠ s.store.loadCheck
    (¬ badDirectory → ¬ badSettings → exec .scrub s = .next s) ∧
    (s.bypass.latched ≠ .none → exec .scrub s = .next s) ∧
    ∀ cause, (badDirectory ∧ cause = .integrityDirectory) ∨
        (¬ badDirectory ∧ badSettings ∧ cause = .integritySettings) →
      s.bypass.latched = .none →
      (s.bypass.state ≠ .off →
        exec .scrub s = .next (State.raiseBoth { s with bypass := { s.bypass with latched := cause } }
          .bypassChange)) ∧
      (s.bypass.state = .off →
        ∃ t, exec .scrub s = .next t ∧ State.Engages
          (State.raiseBoth { s with bypass := { s.bypass with latched := cause } } .bypassChange) t)

/-- LOCK-COMMISSIONING is checked in its order and starts a lock of 5 ms; at the end of a write the settings area holds the
write image under a sound check, at the end of a lock the lock is LOCKED; either makes the store IDLE and raises
STORE-DONE to the writing lane alone (R158, R178, R179). -/
def Obligations.StoreOperationsRunAndEnd : Prop :=
  (∀ (s : State) (l : LaneId), (s.lane l).slot = .pending codeLockCommissioning [] →
    let result := if (s.lane l).attached = false ∨ (s.lane l.other).attached = false then ResultCode.detached
      else if s.store.locked = true then .locked
      else if s.store.activity ≠ .idle then .storeBusy
      else .done
    exec (.lockCommissioning l) s = .next (State.modLane
      (if result = .done then
        { s with store := { s.store with
          activity := .locking, writingLane := some l, operation := some 5000 } } else s) l
      (fun p => { p with slot := .ready { result := result, body := [] } }))) ∧
  ∀ (s : State) (l : LaneId), s.store.operation.isSome → s.store.writingLane = some l →
    let done := fun (t : Store) => State.modLane
      { s with store := { t with activity := .idle, writingLane := none, operation := none } } l
      (fun p => { p with notices := p.notices ||| Notice.storeDone.mark })
    (s.store.activity = .writing → exec .writeComplete s = .next (done { s.store with
      area := .written s.store.image.areaBytes (crc16 s.store.image.areaBytes) })) ∧
    (s.store.activity = .locking → exec .lockComplete s = .next (done { s.store with locked := true }))

/-! ## Lane ports -/

/-- A transaction is not taken while a reset holds the port, nor when a reset came within it; one that began with the slot
PENDING is sent BUSY; one shorter than the reply it collects leaves the slot; and otherwise a request frame with a good
check stands PENDING whatever fill follows it, and any other bytes are answered BAD-FRAME, counted, with LANE-FRAME-ERROR
to this lane alone. The data output is high-impedance while select is released or a reset holds the port, and drives the
reply of the slot otherwise (R155, R156, R157, R169, R170). The form of the command, and that a transaction which a reset came
within leaves the recorded bytes as they were, are the model's (log 5). -/
def Obligations.TransactionsCollectAndTake : Prop :=
  ∀ (s : State) (l : LaneId) (bytes : List Byte),
    (∀ span, s.nrst = true ∨ (s.lane l).lrst = true ∨ span = .acrossReset →
      exec (.laneTransaction l span bytes) s = .next s) ∧
    (∀ selected, selected = false ∨ s.nrst = true ∨ (s.lane l).lrst = true →
      s.dataOutput l selected = .highImpedance) ∧
    (s.nrst = false → (s.lane l).lrst = false →
      exec (.laneTransaction l .fromPending bytes) s = .next (s.modLane l (fun p =>
        { p with dataOut := (Reply.frame { result := .busy, body := [] }).take bytes.length })) ∧
      (∀ kind body, (s.lane l).slot = .pending kind body →
        s.dataOutput l true = .reply (Reply.frame { result := .busy, body := [] })) ∧
      ∀ reply : Reply,
        ((s.lane l).slot = .empty ∧ reply = { result := .done, body := [] }) ∨ (s.lane l).slot = .ready reply →
        s.dataOutput l true = .reply reply.frame ∧
        (bytes.length < reply.frame.length →
          exec (.laneTransaction l .fromReady bytes) s =
            .next (s.modLane l (fun p => { p with dataOut := reply.frame.take bytes.length }))) ∧
        (reply.frame.length ≤ bytes.length →
          (∀ kind body fill, body.length ≤ 72 → bytes = requestFrame kind body ++ fill →
            exec (.laneTransaction l .fromReady bytes) s = .next (s.modLane l (fun p =>
              { p with dataOut := reply.frame.take bytes.length, slot := .pending kind body }))) ∧
          ((∀ kind body fill, body.length ≤ 72 → bytes ≠ requestFrame kind body ++ fill) →
            exec (.laneTransaction l .fromReady bytes) s = .next (s.modLane l (fun p =>
              { p with
                dataOut := reply.frame.take bytes.length
                slot := .ready { result := .badFrame, body := [] }
                frameErrors := satInc p.frameErrors
                notices := p.notices ||| Notice.laneFrameError.mark })))))

/-- NULL and the READ requests answer DONE from the state as it stands and change nothing but the reply slot, attached or
not; an unknown kind, an index or line outside its range, and a body of another length than its form, are BAD-REQUEST with
nothing changed; READ-DIRECTORY answers NO-DIRECTORY and OUT-OF-CONSIST as R15 states. CLEAR-NOTICES clears the named marks of
its lane, and SET-MASK replaces its mask. ATTN is asserted while some notice is pending and enabled and LRST is not asserted,
RECEIVE-READY being pending while the receive queue holds an entry (R15, R81, R158, R159, R163, R164, R166 to R169, R184). -/
def Obligations.ReadsAnswerFromTheState : Prop :=
  ∀ (s : State) (l : LaneId),
    let p := s.lane l
    let d := s.directory
    let answer := fun (result : ResultCode) (body : List Byte) =>
      s.modLane l (fun p => { p with slot := .ready { result := result, body := body } })
    (s.attn l = true ↔ p.lrst = false ∧ ∃ n : Notice, p.mask &&& n.mark = n.mark ∧
      if n = .receiveReady then p.receiveQueue ≠ [] else p.notices &&& n.mark = n.mark) ∧
    (∀ kind body, p.slot = .pending kind body →
      (∀ form ∈ [(codeReadNode, 0, Instr.readNode l), (codeReadLines, 1, .readLines l),
          (codeReadCounters, 0, .readCounters l), (codeReadNotices, 0, .readNotices l),
          (codeReadDirectory, 1, .readDirectory l), (codeClearNotices, 2, .clearNotices l),
          (codeSetMask, 2, .setMask l)],
        kind = form.1 → body.length ≠ form.2.1 → exec form.2.2 s = .next (answer .badRequest [])) ∧
      (0x11 < kind.toNat → exec (.unknownRequest l) s = .next (answer .badRequest [])) ∧
      (kind = codeNull → exec (.null l) s = .next (answer (if body = [] then .done else .badRequest) [])) ∧
      (kind = codeReadNode → body = [] →
        exec (.readNode l) s = .next (answer .done
          ([s.engine.state.code, mismatchCode s.engine.cause, natByte s.engine.count] ++
            wordBytes d.generation ++
            [s.end1.state.code, s.end2.state.code, s.bypass.state.code, s.bypass.latched.code,
              s.store.resetCause.code, boolByte s.engine.effective.inhibit, boolByte s.engine.effective.claim,
              boolByte s.engine.effective.bypass, boolByte p.votes.inhibit, boolByte p.votes.claim,
              boolByte p.votes.bypass]))) ∧
      (kind = codeReadLines →
        (∀ e x, body = [lineCode e x] →
          exec (.readLines l) s = .next (answer .done ((s.line e x).recordBytes e x))) ∧
        (∀ b, body = [b] → 4 ≤ b.toNat → exec (.readLines l) s = .next (answer .badRequest []))) ∧
      (kind = codeReadCounters → body = [] →
        exec (.readCounters l) s = .next (answer .done
          (([s.end1.lineA.checkErrors, s.end1.lineB.checkErrors, s.end2.lineA.checkErrors,
              s.end2.lineB.checkErrors] ++
            [s.end1.counters, s.end2.counters].flatMap (fun c => [c.framesSent, c.holds, c.refusals, c.noAnswer,
              c.misroutes, c.stale, c.congested, c.controlDrops]) ++
            [p.losses.consistChanged, p.losses.linkDown, p.losses.noAnswer, p.losses.refused,
              p.losses.congested, p.losses.bypass, p.receiveDrops, p.receiveDisplacements, p.frameErrors,
              s.noListener]).flatMap wordBytes))) ∧
      (kind = codeReadNotices → body = [] →
        exec (.readNotices l) s = .next (answer .done
          (noticeBytes (p.pendingSet &&& p.mask) ++ [boolByte (p.pendingSet &&& p.mask != 0)]))) ∧
      (kind = codeReadDirectory → ∀ b, body = [b] →
        exec (.readDirectory l) s = .next
          (if 24 < b.toNat then answer .badRequest []
          else if d.generation = 0 then answer .noDirectory []
          else if b.toNat = 0 then answer .done d.summaryBytes
          else match d.byPosition b.toNat with
            | some n => answer .done (n.bytes ++ wordBytes d.generation)
            | none => answer .outOfConsist [])) ∧
      (∀ named, decodeNoticeSet body = some named →
        (kind = codeClearNotices →
          let q := { p with notices := p.notices &&& ~~~named }
          exec (.clearNotices l) s = .next (s.setLane l { q with
            slot := .ready { result := .done
                             body := noticeBytes (q.pendingSet &&& q.mask) ++
                               [boolByte (q.pendingSet &&& q.mask != 0)] } })) ∧
        (kind = codeSetMask →
          exec (.setMask l) s = .next (s.modLane l (fun p =>
            { p with mask := named, slot := .ready { result := .done, body := [] } })))))

/-- ATTACH, DETACH and SET-VOTES set the lane's attach state and votes and recombine the vote register: inhibit when some
attached lane votes it, claim and bypass when at least one is attached and every attached lane votes it; a claim vote of
an INTERMEDIATE car is held as no. Where no effective value changes, nothing else does. Bypass turned yes engages in OFF;
turned no it starts a release that R145 allows. A changed claim is a topology change, whatever inhibit does. Inhibit turned
on alone holds ALERTED, LEADING and RELAYING in MISMATCH; turned off alone it takes a held change up (R25, R47 to R50, R54,
R55, R61, R63, R145 to R147, R159 to R161). ATTACH of an attached lane and DETACH of a detached one answer DONE and change
nothing; SET-VOTES of a detached lane is DETACHED, and a body outside its form BAD-REQUEST. The sender state in an ALERT is the
model's (log 18), and so are that a bypass request is acted on before a claim or inhibit that changes with it (log 12) and that
a claim named while the store is LOADING is held as no (log 24, log 46). -/
def Obligations.VotesRecombine : Prop :=
  (∀ (s : State) (l : LaneId),
    let p := s.lane l
    let answer := fun (result : ResultCode) =>
      s.modLane l (fun p => { p with slot := .ready { result := result, body := [] } })
    (p.slot = .pending codeAttach [] → p.attached = true → exec (.attach l) s = .next (answer .done)) ∧
    (p.slot = .pending codeDetach [] → p.attached = false → exec (.detach l) s = .next (answer .done)) ∧
    ∀ body, body ≠ [] →
      (p.slot = .pending codeAttach body → exec (.attach l) s = .next (answer .badRequest)) ∧
      (p.slot = .pending codeDetach body → exec (.detach l) s = .next (answer .badRequest))) ∧
  (∀ (s : State) (l : LaneId) (body : List Byte), (s.lane l).slot = .pending codeSetVotes body →
    let answer := fun (result : ResultCode) =>
      s.modLane l (fun p => { p with slot := .ready { result := result, body := [] } })
    ((s.lane l).attached = false → exec (.setVotes l) s = .next (answer .detached)) ∧
    ((s.lane l).attached = true → body.length ≠ 3 ∨ (∃ b ∈ body, 1 < b.toNat) →
      exec (.setVotes l) s = .next (answer .badRequest))) ∧
  ∀ (s : State) (l : LaneId) (c : Instr) (q : LanePort),
    let p := s.lane l
    let o := s.lane l.other
    let every := fun (vote : Votes → Bool) =>
      (q.attached || o.attached) && (!q.attached || vote q.votes) && (!o.attached || vote o.votes)
    let effective : Votes :=
      { inhibit := (q.attached && q.votes.inhibit) || (o.attached && o.votes.inhibit)
        claim := every Votes.claim, bypass := every Votes.bypass }
    let ready : ReplySlot := .ready { result := .done, body := [] }
    ((p.slot = .pending codeAttach [] ∧ c = .attach l ∧ p.attached = false ∧ q = { p with attached := true }) ∨
      (p.slot = .pending codeDetach [] ∧ c = .detach l ∧ p.attached = true ∧
        q = { p with attached := false, votes := Votes.none, sendQueue := [], receiveQueue := [] }) ∨
      ∃ v : Votes, p.slot = .pending codeSetVotes [boolByte v.inhibit, boolByte v.claim, boolByte v.bypass] ∧
        c = .setVotes l ∧ p.attached = true ∧
        q = { p with votes := { v with claim := v.claim && s.store.working.kind == .cab } }) →
    let was := s.engine.effective
    let g : Engine := { s.engine with effective := effective }
    let voted : State := { s.setLane l { q with slot := ready } with engine := g }
    let freed : State := { voted with candidate := none, engine := { g with context := none } }
    let mismatched := fun (t : State) => State.raiseBoth
      { t with candidate := none, engine := g.leaving .mismatch (some .localCause) } .mismatch
    (∃ t, exec c s = .next t ∧ t.engine.effective = effective ∧ (t.lane l).attached = q.attached ∧
      (t.lane l).votes = q.votes ∧ (t.lane l).slot = ready) ∧
    (was = effective → exec c s = .next voted) ∧
    (was.bypass = false → effective.bypass = true → s.bypass.state = .off →
      ∃ t, exec c s = .next t ∧ voted.Engages t) ∧
    (was.bypass ≠ effective.bypass → was.claim = effective.claim → was.inhibit = effective.inhibit →
      (effective.bypass = true → s.bypass.state ≠ .off → exec c s = .next voted) ∧
      (effective.bypass = false → exec c s = .next (
        if s.bypass.state = .engaged ∧ s.bypass.startUpComplete = true ∧ s.bypass.latched = .none then
          { voted with bypass := { s.bypass with state := .releasing, transition := some 15000 } }
        else voted))) ∧
    (was.bypass = effective.bypass → was.claim ≠ effective.claim →
      (s.bypass.state ≠ .off → exec c s = .next voted) ∧
      (s.bypass.state = .off → effective.inhibit = false →
        ∃ t, exec c s = .next t ∧ freed.TakesUp true 1 t) ∧
      (s.bypass.state = .off → effective.inhibit = true →
        (∀ e, s.identified e = true → (s.endUnit e).ControlRoom) →
        let told := fun (e : EndId) =>
          if s.identified e then (s.endUnit e).withControl (.alert s.ownTag 1 true .mismatch) else s.endUnit e
        let alerting : State := { voted with end1 := told .end1, end2 := told .end2 }
        exec c s = .next (if g.state = .mismatch then
          { alerting with engine := { g with cause := some .localCause } } else mismatched alerting))) ∧
    (was.bypass = effective.bypass → was.claim = effective.claim →
      (was.inhibit = false → effective.inhibit = true →
        (g.state = .quiet ∨ g.state = .closed ∨ g.state = .failed → exec c s = .next voted) ∧
        (g.state = .mismatch → exec c s = .next { voted with engine := { g with cause := some .localCause } }) ∧
        (g.state = .alerted ∨ g.state = .leading → exec c s = .next (mismatched voted)) ∧
        (∀ k e, g.state = .relaying → g.context = some k → k.tallyEnd = some e → (s.endUnit e).ControlRoom →
          exec c s = .next (mismatched (voted.modEnd e (EndUnit.withControl (.defer k.attempt s.ownTag)))))) ∧
      (was.inhibit = true → effective.inhibit = false →
        (g.state ≠ .mismatch ∨ g.cause ≠ some .localCause → exec c s = .next voted) ∧
        (g.state = .mismatch → g.cause = some .localCause →
          ∃ t, exec c s = .next t ∧ freed.TakesUp true 1 t)))

/-- A SEND of an attached lane is refused with nothing changed when its form fails, without a directory, for an unknown
tag, outside the consist and at a full send queue; is delivered at once to the attached lanes when it names this car; and
else joins the lane's send queue with the active generation, a broadcast with its local delivery. A delivery gives each
attached lane an entry, or displaces or drops there in a full receive queue (R112, R113, R122 to R124, R133 to R135). -/
def Obligations.SendsAreJudgedInOrder : Prop :=
  ∀ (s : State) (l : LaneId) (body : List Byte), (s.lane l).slot = .pending codeSend body →
    let d := s.directory
    let answer := fun (result : ResultCode) (t : State) =>
      t.modLane l (fun p => { p with slot := .ready { result := result, body := [] } })
    let join := fun (m : Message) (t : State) => t.modLane l (fun p => { p with
      sendQueue := p.sendQueue ++ [{ address := m.address, cls := m.cls, payload := m.payload,
                                     accepted := d.generation, upPlaced := false, downPlaced := false }] })
    let entry : Message → Bool → ReceiveEntry := fun m broadcast =>
      { cls := m.cls, broadcast := broadcast, originPosition := d.ownPosition.getD 0, originTag := s.ownTag,
        generation := d.generation, payload := m.payload }
    let full := 8 ≤ (s.lane l).sendQueue.length
    ((s.lane l).attached = false → exec (.send l) s = .next (answer .detached s)) ∧
    ((s.lane l).attached = true → decodeSend body = none → exec (.send l) s = .next (answer .badRequest s)) ∧
    ∀ m, (s.lane l).attached = true → decodeSend body = some m →
      (d.generation = 0 → exec (.send l) s = .next (answer .noDirectory s)) ∧
      (m.address ≠ .broadcast →
        (d.resolve m.address = .unknownTag → exec (.send l) s = .next (answer .unknownTag s)) ∧
        (d.resolve m.address = .outOfConsist → exec (.send l) s = .next (answer .outOfConsist s)) ∧
        (∀ t, d.resolve m.address = .loopback → s.Delivers (entry m false) t →
          exec (.send l) s = .next (answer .done t)) ∧
        (∀ t e h, d.resolve m.address = .resolved t e h →
          (full → exec (.send l) s = .next (answer .full s)) ∧
          (¬ full → exec (.send l) s = .next (answer .done (join m s))))) ∧
      (∀ p o, m.address = .broadcast → d.generation ≠ 0 → d.ownPosition = some p → d.ownOrientation = some o →
        1 ≤ p → p ≤ d.entries.length →
        (∀ t, d.entries.length = 1 → s.Delivers (entry m true) t → exec (.send l) s = .next (answer .done t)) ∧
        (1 < d.entries.length →
          (full → exec (.send l) s = .next (answer .full s)) ∧
          (∀ t, ¬ full → s.Delivers (entry m true) t → exec (.send l) s = .next (answer .done (join m t)))))

/-- FETCH takes the head of an attached lane's receive queue and answers its fields with the count left; it answers EMPTY
with nothing changed at an empty queue, and DETACHED at a detached lane (R159, R162, R184). -/
def Obligations.FetchTakesTheHead : Prop :=
  ∀ (s : State) (l : LaneId), (s.lane l).slot = .pending codeFetch [] →
    let answer := fun (result : ResultCode) (body : List Byte) (t : State) =>
      t.modLane l (fun p => { p with slot := .ready { result := result, body := body } })
    ((s.lane l).attached = false → exec (.fetch l) s = .next (answer .detached [] s)) ∧
    ((s.lane l).attached = true →
      ((s.lane l).receiveQueue = [] → exec (.fetch l) s = .next (answer .empty [] s)) ∧
      ∀ r rest, (s.lane l).receiveQueue = r :: rest →
        exec (.fetch l) s = .next (answer .done
          (r.cls.code :: boolByte r.broadcast :: natByte r.originPosition :: tagBytes r.originTag ++
            wordBytes r.generation ++ natByte r.payload.length :: r.payload ++ [natByte rest.length])
          (s.modLane l (fun p => { p with receiveQueue := rest }))))

/-- START-INAUGURATION is refused DETACHED to a detached lane, and INHIBITED with the engine unchanged while effective
inhibit is on; otherwise it is answered DONE and is a topology change: in OFF a middle node sends a restart ALERT out of
each end and stands ALERTED with attempt count 1, holding nothing (R24, R25, R62). That the ALERT carries the sender state
ALERTED is the model's (log 18). -/
def Obligations.StartInaugurationIsATopologyChange : Prop :=
  ∀ (s : State) (l : LaneId), (s.lane l).slot = .pending codeStartInauguration [] →
    let answer := fun (result : ResultCode) (t : State) =>
      t.modLane l (fun p => { p with slot := .ready { result := result, body := [] } })
    let alert : ControlFrame := .alert s.ownTag 1 true .alerted
    ((s.lane l).attached = false → exec (.startInauguration l) s = .next (answer .detached s)) ∧
    ((s.lane l).attached = true → s.engine.effective.inhibit = true →
      exec (.startInauguration l) s = .next (answer .inhibited s)) ∧
    ((s.lane l).attached = true → s.engine.effective.inhibit = false →
      exec (.startInauguration l) s = .next (answer .done s.topologyChange) ∧
      (s.bypass.state = .off → s.identified .end1 = true → s.identified .end2 = true → s.end1.ControlRoom →
        s.end2.ControlRoom →
        exec (.startInauguration l) s = .next (answer .done { s with
          candidate := none, engine := s.engine.entering .alerted none 1
          end1 := s.end1.withControl alert, end2 := s.end2.withControl alert })))

/-- RETRAIN-LINE of an attached lane puts a FAILED line into SETTLING with its settle timer, marked as entered so, and is
answered DONE; a line in any other state is unchanged; a value that names no line is BAD-REQUEST, and a detached lane is
refused (R69, R71, R159). -/
def Obligations.RetrainLineSettlesAFailedLine : Prop :=
  ∀ (s : State) (l : LaneId) (b : Byte), (s.lane l).slot = .pending codeRetrainLine [b] →
    let answer := fun (result : ResultCode) (t : State) =>
      t.modLane l (fun p => { p with slot := .ready { result := result, body := [] } })
    ((s.lane l).attached = false → exec (.retrainLine l) s = .next (answer .detached s)) ∧
    ((s.lane l).attached = true →
      (4 ≤ b.toNat → exec (.retrainLine l) s = .next (answer .badRequest s)) ∧
      ∀ e x, b = lineCode e x →
        ((s.line e x).state ≠ .failed → exec (.retrainLine l) s = .next (answer .done s)) ∧
        (s.LinesKept → (s.line e x).state = .failed →
          ∃ t, exec (.retrainLine l) s = .next t ∧ (t.lane l).slot = .ready { result := .done, body := [] } ∧
            t.line e x = { s.line e x with
              state := .settling, settleTimer := some (s.store.working.settle * 1000), byRetrain := true }))

/-- READ-SETTING answers STORE-BUSY while LOADING whatever the record, BAD-REQUEST for a code that names none, and
otherwise the record's working and pending values: TAG's with its validity mark, STATUS with activity, writing lane, load
outcome and lock. It changes nothing but the reply slot, and the lane's attach state does not matter (R176). -/
def Obligations.ReadSettingReadsBothValues : Prop :=
  ∀ (s : State) (l : LaneId) (b : Byte), (s.lane l).slot = .pending codeReadSetting [b] →
    let t := s.store
    let answer := fun (result : ResultCode) (body : List Byte) => exec (.readSetting l) s =
      .next (s.modLane l (fun p => { p with slot := .ready { result := result, body := body } }))
    (t.activity = .loading → answer .storeBusy []) ∧
    (t.activity ≠ .loading →
      (0x0B < b.toNat → b ≠ 0x80 → answer .badRequest []) ∧
      (b = 0x00 → answer .done
        (b :: tagBytes t.working.tag ++ tagBytes t.image.tag ++ [boolByte t.tagValid])) ∧
      (b = 0x80 → answer .done
        [b, t.activity.code, writingLaneCode t.writingLane, t.loadOutcome.code, boolByte t.locked]) ∧
      ∀ record : Settings → Word,
        (b = 0x01 ∧ record = fun w => natWord w.unit) ∨
        (b = 0x02 ∧ record = fun w => if w.kind = .cab then 1 else 0) ∨
        (∃ e x, b = 0x03 + lineCode e x ∧ record = fun w =>
          wordOf (boolByte (w.offset e x).subtract) (natByte (w.offset e x).magnitude)) ∨
        (b = 0x07 ∧ record = fun w => natWord w.wmin) ∨
        (b = 0x08 ∧ record = fun w => natWord w.settle) ∨
        (b = 0x09 ∧ record = fun w => natWord w.beacon) ∨
        (b = 0x0A ∧ record = fun w => natWord w.reliefProcess) ∨
        (b = 0x0B ∧ record = fun w => natWord w.reliefBulk) →
        answer .done (b :: wordBytes (record t.working) ++ wordBytes (record t.image)))

/-- WRITE-SETTING is checked in its order, DETACHED, BAD-REQUEST, LOCKED, STORE-BUSY, with nothing changed; accepted, its
value is clamped into the record's range, SETTLE rounded down to a multiple of 10, the write image takes it, and a write of
5 ms starts for this lane. TAG, STATUS and unknown codes are BAD-REQUEST, as are values of KIND and directions of an OFFSET
that are none of theirs (R177, R184). -/
def Obligations.WriteSettingClampsAndStarts : Prop :=
  ∀ (s : State) (l : LaneId) (b : Byte) (v : Word),
    (s.lane l).slot = .pending codeWriteSetting (b :: wordBytes v) →
    let i := s.store.image
    let n := v.toNat
    let clamp := fun (low high : Nat) => max low (min high n)
    let answer := fun (result : ResultCode) (body : List Byte) (t : State) =>
      t.modLane l (fun p => { p with slot := .ready { result := result, body := body } })
    let formFails := b = 0x00 ∨ 0x0B < b.toNat ∨ (b = 0x02 ∧ 1 < n) ∨
      (0x03 ≤ b.toNat ∧ b.toNat ≤ 0x06 ∧ 1 < n / 256)
    let writes := fun (image : Settings) (stored : Word) =>
      (b = 0x01 ∧ image = { i with unit := min 99 n } ∧ stored = natWord (min 99 n)) ∨
      (b = 0x02 ∧ n ≤ 1 ∧ image = { i with kind := if n = 1 then .cab else .intermediate } ∧ stored = v) ∨
      (∃ e x, b = 0x03 + lineCode e x ∧ n / 256 ≤ 1 ∧
        image = i.setOffset e x { subtract := decide (n / 256 = 1), magnitude := min 15 (n % 256) } ∧
        stored = natWord (n / 256 * 256 + min 15 (n % 256))) ∨
      (b = 0x07 ∧ image = { i with wmin := clamp 4 40 } ∧ stored = natWord (clamp 4 40)) ∨
      (b = 0x08 ∧ image = { i with settle := clamp 50 2000 / 10 * 10 } ∧
        stored = natWord (clamp 50 2000 / 10 * 10)) ∨
      (b = 0x09 ∧ image = { i with beacon := clamp 5 100 } ∧ stored = natWord (clamp 5 100)) ∨
      (b = 0x0A ∧ image = { i with reliefProcess := clamp 1 1023 } ∧ stored = natWord (clamp 1 1023)) ∨
      (b = 0x0B ∧ image = { i with reliefBulk := clamp 1 1023 } ∧ stored = natWord (clamp 1 1023))
    ((s.lane l).attached = false → exec (.writeSetting l) s = .next (answer .detached [] s)) ∧
    ((s.lane l).attached = true →
      (formFails → exec (.writeSetting l) s = .next (answer .badRequest [] s)) ∧
      ∀ image stored, writes image stored →
        exec (.writeSetting l) s = .next
          (if s.store.locked = true then answer .locked [] s
          else if s.store.activity ≠ .idle then answer .storeBusy [] s
          else answer .done (b :: wordBytes stored)
            { s with store := { s.store with
              image := image, activity := .writing, writingLane := some l, operation := some 5000 } }))
end

