-- ==== Sys2Proof/Laws/State.lean ====
section
/-! SUPPORT. The small lemmas of the record updates of Machine/Ops.lean: one for each field that an update leaves, and
one for what it writes, so that no later proof unfolds a record update. -/

namespace Sys2Proof.Machine

open Sys2Proof

/-! ## Names -/

@[simp] theorem EndId.other_other (e : EndId) : e.other.other = e := by cases e <;> rfl
@[simp] theorem EndId.other_ne (e : EndId) : e.other ≠ e := by cases e <;> decide
@[simp] theorem LineId.partner_partner (x : LineId) : x.partner.partner = x := by cases x <;> rfl
@[simp] theorem LineId.partner_ne (x : LineId) : x.partner ≠ x := by cases x <;> decide
@[simp] theorem LaneId.other_other (l : LaneId) : l.other.other = l := by cases l <;> rfl
@[simp] theorem LaneId.other_ne (l : LaneId) : l.other ≠ l := by cases l <;> decide

/-- An end is the named one or the opposite one. -/
theorem EndId.eq_or_other (e f : EndId) : f = e ∨ f = e.other := by cases e <;> cases f <;> decide
/-- A line is the named one or its partner. -/
theorem LineId.eq_or_partner (x y : LineId) : y = x ∨ y = x.partner := by cases x <;> cases y <;> decide
/-- A lane is the named one or the other one. -/
theorem LaneId.eq_or_other (l m : LaneId) : m = l ∨ m = l.other := by cases l <;> cases m <;> decide

/-! ## A line of an end -/

@[simp] theorem EndUnit.line_lineA (u : EndUnit) : u.line .lineA = u.lineA := rfl
@[simp] theorem EndUnit.line_lineB (u : EndUnit) : u.line .lineB = u.lineB := rfl
@[simp] theorem EndUnit.line_setLine_self (u : EndUnit) (x : LineId) (n : LineUnit) : (u.setLine x n).line x = n := by
  cases x <;> rfl
@[simp] theorem EndUnit.line_setLine_partner (u : EndUnit) (x : LineId) (n : LineUnit) :
    (u.setLine x n).line x.partner = u.line x.partner := by cases x <;> rfl
@[simp] theorem EndUnit.setLine_line (u : EndUnit) (x : LineId) : u.setLine x (u.line x) = u := by cases x <;> rfl
@[simp] theorem EndUnit.line_modLine_self (u : EndUnit) (x : LineId) (f : LineUnit → LineUnit) :
    (u.modLine x f).line x = f (u.line x) := by cases x <;> rfl
@[simp] theorem EndUnit.line_modLine_partner (u : EndUnit) (x : LineId) (f : LineUnit → LineUnit) :
    (u.modLine x f).line x.partner = u.line x.partner := by cases x <;> rfl

@[simp] theorem EndUnit.sense_setLine (u : EndUnit) (x : LineId) (n : LineUnit) : (u.setLine x n).sense = u.sense := by
  cases x <;> rfl
@[simp] theorem EndUnit.sense_modLine (u : EndUnit) (x : LineId) (f : LineUnit → LineUnit) :
    (u.modLine x f).sense = u.sense := by cases x <;> rfl
@[simp] theorem EndUnit.state_setLine (u : EndUnit) (x : LineId) (n : LineUnit) : (u.setLine x n).state = u.state := by
  cases x <;> rfl
@[simp] theorem EndUnit.state_modLine (u : EndUnit) (x : LineId) (f : LineUnit → LineUnit) :
    (u.modLine x f).state = u.state := by cases x <;> rfl
@[simp] theorem EndUnit.peer_setLine (u : EndUnit) (x : LineId) (n : LineUnit) : (u.setLine x n).peer = u.peer := by
  cases x <;> rfl
@[simp] theorem EndUnit.peer_modLine (u : EndUnit) (x : LineId) (f : LineUnit → LineUnit) :
    (u.modLine x f).peer = u.peer := by cases x <;> rfl
@[simp] theorem EndUnit.trainer_setLine (u : EndUnit) (x : LineId) (n : LineUnit) : (u.setLine x n).trainer = u.trainer := by
  cases x <;> rfl
@[simp] theorem EndUnit.trainer_modLine (u : EndUnit) (x : LineId) (f : LineUnit → LineUnit) :
    (u.modLine x f).trainer = u.trainer := by cases x <;> rfl
@[simp] theorem EndUnit.sender_setLine (u : EndUnit) (x : LineId) (n : LineUnit) : (u.setLine x n).sender = u.sender := by
  cases x <;> rfl
@[simp] theorem EndUnit.sender_modLine (u : EndUnit) (x : LineId) (f : LineUnit → LineUnit) :
    (u.modLine x f).sender = u.sender := by cases x <;> rfl
@[simp] theorem EndUnit.receiver_setLine (u : EndUnit) (x : LineId) (n : LineUnit) : (u.setLine x n).receiver = u.receiver := by
  cases x <;> rfl
@[simp] theorem EndUnit.receiver_modLine (u : EndUnit) (x : LineId) (f : LineUnit → LineUnit) :
    (u.modLine x f).receiver = u.receiver := by cases x <;> rfl
@[simp] theorem EndUnit.queues_setLine (u : EndUnit) (x : LineId) (n : LineUnit) : (u.setLine x n).queues = u.queues := by
  cases x <;> rfl
@[simp] theorem EndUnit.queues_modLine (u : EndUnit) (x : LineId) (f : LineUnit → LineUnit) :
    (u.modLine x f).queues = u.queues := by cases x <;> rfl
@[simp] theorem EndUnit.counters_setLine (u : EndUnit) (x : LineId) (n : LineUnit) : (u.setLine x n).counters = u.counters := by
  cases x <;> rfl
@[simp] theorem EndUnit.counters_modLine (u : EndUnit) (x : LineId) (f : LineUnit → LineUnit) :
    (u.modLine x f).counters = u.counters := by cases x <;> rfl

/-! ## An end of the node -/

@[simp] theorem State.endUnit_end1 (s : State) : s.endUnit .end1 = s.end1 := rfl
@[simp] theorem State.endUnit_end2 (s : State) : s.endUnit .end2 = s.end2 := rfl
@[simp] theorem State.endUnit_setEnd_self (s : State) (e : EndId) (u : EndUnit) : (s.setEnd e u).endUnit e = u := by
  cases e <;> rfl
@[simp] theorem State.endUnit_setEnd_other (s : State) (e : EndId) (u : EndUnit) :
    (s.setEnd e u).endUnit e.other = s.endUnit e.other := by cases e <;> rfl
@[simp] theorem State.setEnd_endUnit (s : State) (e : EndId) : s.setEnd e (s.endUnit e) = s := by cases e <;> rfl
@[simp] theorem State.endUnit_modEnd_self (s : State) (e : EndId) (f : EndUnit → EndUnit) :
    (s.modEnd e f).endUnit e = f (s.endUnit e) := by cases e <;> rfl
@[simp] theorem State.endUnit_modEnd_other (s : State) (e : EndId) (f : EndUnit → EndUnit) :
    (s.modEnd e f).endUnit e.other = s.endUnit e.other := by cases e <;> rfl
@[simp] theorem State.endUnit_modLine_self (s : State) (e : EndId) (x : LineId) (f : LineUnit → LineUnit) :
    (s.modLine e x f).endUnit e = (s.endUnit e).modLine x f := by cases e <;> rfl
@[simp] theorem State.endUnit_modLine_other (s : State) (e : EndId) (x : LineId) (f : LineUnit → LineUnit) :
    (s.modLine e x f).endUnit e.other = s.endUnit e.other := by cases e <;> rfl
@[simp] theorem State.line_modLine_self (s : State) (e : EndId) (x : LineId) (f : LineUnit → LineUnit) :
    (s.modLine e x f).line e x = f (s.line e x) := by simp [State.line]
@[simp] theorem State.line_modLine_partner (s : State) (e : EndId) (x : LineId) (f : LineUnit → LineUnit) :
    (s.modLine e x f).line e x.partner = s.line e x.partner := by simp [State.line]

@[simp] theorem State.pending_setEnd (s : State) (e : EndId) (u : EndUnit) : (s.setEnd e u).pending = s.pending := by
  cases e <;> rfl
@[simp] theorem State.pending_modEnd (s : State) (e : EndId) (f : EndUnit → EndUnit) : (s.modEnd e f).pending = s.pending := by
  cases e <;> rfl
@[simp] theorem State.pending_modLine (s : State) (e : EndId) (x : LineId) (f : LineUnit → LineUnit) :
    (s.modLine e x f).pending = s.pending := by cases e <;> rfl
@[simp] theorem State.nrst_setEnd (s : State) (e : EndId) (u : EndUnit) : (s.setEnd e u).nrst = s.nrst := by
  cases e <;> rfl
@[simp] theorem State.nrst_modEnd (s : State) (e : EndId) (f : EndUnit → EndUnit) : (s.modEnd e f).nrst = s.nrst := by
  cases e <;> rfl
@[simp] theorem State.nrst_modLine (s : State) (e : EndId) (x : LineId) (f : LineUnit → LineUnit) :
    (s.modLine e x f).nrst = s.nrst := by cases e <;> rfl
@[simp] theorem State.directory_setEnd (s : State) (e : EndId) (u : EndUnit) : (s.setEnd e u).directory = s.directory := by
  cases e <;> rfl
@[simp] theorem State.directory_modEnd (s : State) (e : EndId) (f : EndUnit → EndUnit) : (s.modEnd e f).directory = s.directory := by
  cases e <;> rfl
@[simp] theorem State.directory_modLine (s : State) (e : EndId) (x : LineId) (f : LineUnit → LineUnit) :
    (s.modLine e x f).directory = s.directory := by cases e <;> rfl
@[simp] theorem State.candidate_setEnd (s : State) (e : EndId) (u : EndUnit) : (s.setEnd e u).candidate = s.candidate := by
  cases e <;> rfl
@[simp] theorem State.candidate_modEnd (s : State) (e : EndId) (f : EndUnit → EndUnit) : (s.modEnd e f).candidate = s.candidate := by
  cases e <;> rfl
@[simp] theorem State.candidate_modLine (s : State) (e : EndId) (x : LineId) (f : LineUnit → LineUnit) :
    (s.modLine e x f).candidate = s.candidate := by cases e <;> rfl
@[simp] theorem State.engine_setEnd (s : State) (e : EndId) (u : EndUnit) : (s.setEnd e u).engine = s.engine := by
  cases e <;> rfl
@[simp] theorem State.engine_modEnd (s : State) (e : EndId) (f : EndUnit → EndUnit) : (s.modEnd e f).engine = s.engine := by
  cases e <;> rfl
@[simp] theorem State.engine_modLine (s : State) (e : EndId) (x : LineId) (f : LineUnit → LineUnit) :
    (s.modLine e x f).engine = s.engine := by cases e <;> rfl
@[simp] theorem State.rotation_setEnd (s : State) (e : EndId) (u : EndUnit) : (s.setEnd e u).rotation = s.rotation := by
  cases e <;> rfl
@[simp] theorem State.rotation_modEnd (s : State) (e : EndId) (f : EndUnit → EndUnit) : (s.modEnd e f).rotation = s.rotation := by
  cases e <;> rfl
@[simp] theorem State.rotation_modLine (s : State) (e : EndId) (x : LineId) (f : LineUnit → LineUnit) :
    (s.modLine e x f).rotation = s.rotation := by cases e <;> rfl
@[simp] theorem State.recentreTimer_setEnd (s : State) (e : EndId) (u : EndUnit) : (s.setEnd e u).recentreTimer = s.recentreTimer := by
  cases e <;> rfl
@[simp] theorem State.recentreTimer_modEnd (s : State) (e : EndId) (f : EndUnit → EndUnit) : (s.modEnd e f).recentreTimer = s.recentreTimer := by
  cases e <;> rfl
@[simp] theorem State.recentreTimer_modLine (s : State) (e : EndId) (x : LineId) (f : LineUnit → LineUnit) :
    (s.modLine e x f).recentreTimer = s.recentreTimer := by cases e <;> rfl
@[simp] theorem State.laneA_setEnd (s : State) (e : EndId) (u : EndUnit) : (s.setEnd e u).laneA = s.laneA := by
  cases e <;> rfl
@[simp] theorem State.laneA_modEnd (s : State) (e : EndId) (f : EndUnit → EndUnit) : (s.modEnd e f).laneA = s.laneA := by
  cases e <;> rfl
@[simp] theorem State.laneA_modLine (s : State) (e : EndId) (x : LineId) (f : LineUnit → LineUnit) :
    (s.modLine e x f).laneA = s.laneA := by cases e <;> rfl
@[simp] theorem State.laneB_setEnd (s : State) (e : EndId) (u : EndUnit) : (s.setEnd e u).laneB = s.laneB := by
  cases e <;> rfl
@[simp] theorem State.laneB_modEnd (s : State) (e : EndId) (f : EndUnit → EndUnit) : (s.modEnd e f).laneB = s.laneB := by
  cases e <;> rfl
@[simp] theorem State.laneB_modLine (s : State) (e : EndId) (x : LineId) (f : LineUnit → LineUnit) :
    (s.modLine e x f).laneB = s.laneB := by cases e <;> rfl
@[simp] theorem State.resolver_setEnd (s : State) (e : EndId) (u : EndUnit) : (s.setEnd e u).resolver = s.resolver := by
  cases e <;> rfl
@[simp] theorem State.resolver_modEnd (s : State) (e : EndId) (f : EndUnit → EndUnit) : (s.modEnd e f).resolver = s.resolver := by
  cases e <;> rfl
@[simp] theorem State.resolver_modLine (s : State) (e : EndId) (x : LineId) (f : LineUnit → LineUnit) :
    (s.modLine e x f).resolver = s.resolver := by cases e <;> rfl
@[simp] theorem State.noListener_setEnd (s : State) (e : EndId) (u : EndUnit) : (s.setEnd e u).noListener = s.noListener := by
  cases e <;> rfl
@[simp] theorem State.noListener_modEnd (s : State) (e : EndId) (f : EndUnit → EndUnit) : (s.modEnd e f).noListener = s.noListener := by
  cases e <;> rfl
@[simp] theorem State.noListener_modLine (s : State) (e : EndId) (x : LineId) (f : LineUnit → LineUnit) :
    (s.modLine e x f).noListener = s.noListener := by cases e <;> rfl
@[simp] theorem State.bypass_setEnd (s : State) (e : EndId) (u : EndUnit) : (s.setEnd e u).bypass = s.bypass := by
  cases e <;> rfl
@[simp] theorem State.bypass_modEnd (s : State) (e : EndId) (f : EndUnit → EndUnit) : (s.modEnd e f).bypass = s.bypass := by
  cases e <;> rfl
@[simp] theorem State.bypass_modLine (s : State) (e : EndId) (x : LineId) (f : LineUnit → LineUnit) :
    (s.modLine e x f).bypass = s.bypass := by cases e <;> rfl
@[simp] theorem State.store_setEnd (s : State) (e : EndId) (u : EndUnit) : (s.setEnd e u).store = s.store := by
  cases e <;> rfl
@[simp] theorem State.store_modEnd (s : State) (e : EndId) (f : EndUnit → EndUnit) : (s.modEnd e f).store = s.store := by
  cases e <;> rfl
@[simp] theorem State.store_modLine (s : State) (e : EndId) (x : LineId) (f : LineUnit → LineUnit) :
    (s.modLine e x f).store = s.store := by cases e <;> rfl

/-! ## A lane port of the node -/

@[simp] theorem State.lane_laneA (s : State) : s.lane .laneA = s.laneA := rfl
@[simp] theorem State.lane_laneB (s : State) : s.lane .laneB = s.laneB := rfl
@[simp] theorem State.lane_setLane_self (s : State) (l : LaneId) (p : LanePort) : (s.setLane l p).lane l = p := by
  cases l <;> rfl
@[simp] theorem State.lane_setLane_other (s : State) (l : LaneId) (p : LanePort) :
    (s.setLane l p).lane l.other = s.lane l.other := by cases l <;> rfl
@[simp] theorem State.setLane_lane (s : State) (l : LaneId) : s.setLane l (s.lane l) = s := by cases l <;> rfl
@[simp] theorem State.lane_modLane_self (s : State) (l : LaneId) (f : LanePort → LanePort) :
    (s.modLane l f).lane l = f (s.lane l) := by cases l <;> rfl
@[simp] theorem State.lane_modLane_other (s : State) (l : LaneId) (f : LanePort → LanePort) :
    (s.modLane l f).lane l.other = s.lane l.other := by cases l <;> rfl
@[simp] theorem State.endUnit_setLane (s : State) (l : LaneId) (p : LanePort) (e : EndId) :
    (s.setLane l p).endUnit e = s.endUnit e := by cases l <;> rfl
@[simp] theorem State.endUnit_modLane (s : State) (l : LaneId) (f : LanePort → LanePort) (e : EndId) :
    (s.modLane l f).endUnit e = s.endUnit e := by cases l <;> rfl
@[simp] theorem State.lane_setEnd (s : State) (e : EndId) (u : EndUnit) (l : LaneId) :
    (s.setEnd e u).lane l = s.lane l := by cases e <;> rfl
@[simp] theorem State.lane_modEnd (s : State) (e : EndId) (f : EndUnit → EndUnit) (l : LaneId) :
    (s.modEnd e f).lane l = s.lane l := by cases e <;> rfl
@[simp] theorem State.lane_modLine (s : State) (e : EndId) (x : LineId) (f : LineUnit → LineUnit) (l : LaneId) :
    (s.modLine e x f).lane l = s.lane l := by cases e <;> rfl

@[simp] theorem State.pending_setLane (s : State) (l : LaneId) (p : LanePort) : (s.setLane l p).pending = s.pending := by
  cases l <;> rfl
@[simp] theorem State.pending_modLane (s : State) (l : LaneId) (f : LanePort → LanePort) :
    (s.modLane l f).pending = s.pending := by cases l <;> rfl
@[simp] theorem State.pending_raise (s : State) (n : Notice) (l : LaneId) : (s.raise n l).pending = s.pending := by
  cases l <;> rfl
@[simp] theorem State.pending_raiseBoth (s : State) (n : Notice) : (s.raiseBoth n).pending = s.pending := rfl
@[simp] theorem State.pending_lose (s : State) (r : LossReason) (l : LaneId) : (s.lose r l).pending = s.pending := by
  cases l <;> rfl
@[simp] theorem State.nrst_setLane (s : State) (l : LaneId) (p : LanePort) : (s.setLane l p).nrst = s.nrst := by
  cases l <;> rfl
@[simp] theorem State.nrst_modLane (s : State) (l : LaneId) (f : LanePort → LanePort) :
    (s.modLane l f).nrst = s.nrst := by cases l <;> rfl
@[simp] theorem State.nrst_raise (s : State) (n : Notice) (l : LaneId) : (s.raise n l).nrst = s.nrst := by
  cases l <;> rfl
@[simp] theorem State.nrst_raiseBoth (s : State) (n : Notice) : (s.raiseBoth n).nrst = s.nrst := rfl
@[simp] theorem State.nrst_lose (s : State) (r : LossReason) (l : LaneId) : (s.lose r l).nrst = s.nrst := by
  cases l <;> rfl
@[simp] theorem State.directory_setLane (s : State) (l : LaneId) (p : LanePort) : (s.setLane l p).directory = s.directory := by
  cases l <;> rfl
@[simp] theorem State.directory_modLane (s : State) (l : LaneId) (f : LanePort → LanePort) :
    (s.modLane l f).directory = s.directory := by cases l <;> rfl
@[simp] theorem State.directory_raise (s : State) (n : Notice) (l : LaneId) : (s.raise n l).directory = s.directory := by
  cases l <;> rfl
@[simp] theorem State.directory_raiseBoth (s : State) (n : Notice) : (s.raiseBoth n).directory = s.directory := rfl
@[simp] theorem State.directory_lose (s : State) (r : LossReason) (l : LaneId) : (s.lose r l).directory = s.directory := by
  cases l <;> rfl
@[simp] theorem State.candidate_setLane (s : State) (l : LaneId) (p : LanePort) : (s.setLane l p).candidate = s.candidate := by
  cases l <;> rfl
@[simp] theorem State.candidate_modLane (s : State) (l : LaneId) (f : LanePort → LanePort) :
    (s.modLane l f).candidate = s.candidate := by cases l <;> rfl
@[simp] theorem State.candidate_raise (s : State) (n : Notice) (l : LaneId) : (s.raise n l).candidate = s.candidate := by
  cases l <;> rfl
@[simp] theorem State.candidate_raiseBoth (s : State) (n : Notice) : (s.raiseBoth n).candidate = s.candidate := rfl
@[simp] theorem State.candidate_lose (s : State) (r : LossReason) (l : LaneId) : (s.lose r l).candidate = s.candidate := by
  cases l <;> rfl
@[simp] theorem State.engine_setLane (s : State) (l : LaneId) (p : LanePort) : (s.setLane l p).engine = s.engine := by
  cases l <;> rfl
@[simp] theorem State.engine_modLane (s : State) (l : LaneId) (f : LanePort → LanePort) :
    (s.modLane l f).engine = s.engine := by cases l <;> rfl
@[simp] theorem State.engine_raise (s : State) (n : Notice) (l : LaneId) : (s.raise n l).engine = s.engine := by
  cases l <;> rfl
@[simp] theorem State.engine_raiseBoth (s : State) (n : Notice) : (s.raiseBoth n).engine = s.engine := rfl
@[simp] theorem State.engine_lose (s : State) (r : LossReason) (l : LaneId) : (s.lose r l).engine = s.engine := by
  cases l <;> rfl
@[simp] theorem State.end1_setLane (s : State) (l : LaneId) (p : LanePort) : (s.setLane l p).end1 = s.end1 := by
  cases l <;> rfl
@[simp] theorem State.end1_modLane (s : State) (l : LaneId) (f : LanePort → LanePort) :
    (s.modLane l f).end1 = s.end1 := by cases l <;> rfl
@[simp] theorem State.end1_raise (s : State) (n : Notice) (l : LaneId) : (s.raise n l).end1 = s.end1 := by
  cases l <;> rfl
@[simp] theorem State.end1_raiseBoth (s : State) (n : Notice) : (s.raiseBoth n).end1 = s.end1 := rfl
@[simp] theorem State.end1_lose (s : State) (r : LossReason) (l : LaneId) : (s.lose r l).end1 = s.end1 := by
  cases l <;> rfl
@[simp] theorem State.end2_setLane (s : State) (l : LaneId) (p : LanePort) : (s.setLane l p).end2 = s.end2 := by
  cases l <;> rfl
@[simp] theorem State.end2_modLane (s : State) (l : LaneId) (f : LanePort → LanePort) :
    (s.modLane l f).end2 = s.end2 := by cases l <;> rfl
@[simp] theorem State.end2_raise (s : State) (n : Notice) (l : LaneId) : (s.raise n l).end2 = s.end2 := by
  cases l <;> rfl
@[simp] theorem State.end2_raiseBoth (s : State) (n : Notice) : (s.raiseBoth n).end2 = s.end2 := rfl
@[simp] theorem State.end2_lose (s : State) (r : LossReason) (l : LaneId) : (s.lose r l).end2 = s.end2 := by
  cases l <;> rfl
@[simp] theorem State.rotation_setLane (s : State) (l : LaneId) (p : LanePort) : (s.setLane l p).rotation = s.rotation := by
  cases l <;> rfl
@[simp] theorem State.rotation_modLane (s : State) (l : LaneId) (f : LanePort → LanePort) :
    (s.modLane l f).rotation = s.rotation := by cases l <;> rfl
@[simp] theorem State.rotation_raise (s : State) (n : Notice) (l : LaneId) : (s.raise n l).rotation = s.rotation := by
  cases l <;> rfl
@[simp] theorem State.rotation_raiseBoth (s : State) (n : Notice) : (s.raiseBoth n).rotation = s.rotation := rfl
@[simp] theorem State.rotation_lose (s : State) (r : LossReason) (l : LaneId) : (s.lose r l).rotation = s.rotation := by
  cases l <;> rfl
@[simp] theorem State.recentreTimer_setLane (s : State) (l : LaneId) (p : LanePort) : (s.setLane l p).recentreTimer = s.recentreTimer := by
  cases l <;> rfl
@[simp] theorem State.recentreTimer_modLane (s : State) (l : LaneId) (f : LanePort → LanePort) :
    (s.modLane l f).recentreTimer = s.recentreTimer := by cases l <;> rfl
@[simp] theorem State.recentreTimer_raise (s : State) (n : Notice) (l : LaneId) : (s.raise n l).recentreTimer = s.recentreTimer := by
  cases l <;> rfl
@[simp] theorem State.recentreTimer_raiseBoth (s : State) (n : Notice) : (s.raiseBoth n).recentreTimer = s.recentreTimer := rfl
@[simp] theorem State.recentreTimer_lose (s : State) (r : LossReason) (l : LaneId) : (s.lose r l).recentreTimer = s.recentreTimer := by
  cases l <;> rfl
@[simp] theorem State.resolver_setLane (s : State) (l : LaneId) (p : LanePort) : (s.setLane l p).resolver = s.resolver := by
  cases l <;> rfl
@[simp] theorem State.resolver_modLane (s : State) (l : LaneId) (f : LanePort → LanePort) :
    (s.modLane l f).resolver = s.resolver := by cases l <;> rfl
@[simp] theorem State.resolver_raise (s : State) (n : Notice) (l : LaneId) : (s.raise n l).resolver = s.resolver := by
  cases l <;> rfl
@[simp] theorem State.resolver_raiseBoth (s : State) (n : Notice) : (s.raiseBoth n).resolver = s.resolver := rfl
@[simp] theorem State.resolver_lose (s : State) (r : LossReason) (l : LaneId) : (s.lose r l).resolver = s.resolver := by
  cases l <;> rfl
@[simp] theorem State.noListener_setLane (s : State) (l : LaneId) (p : LanePort) : (s.setLane l p).noListener = s.noListener := by
  cases l <;> rfl
@[simp] theorem State.noListener_modLane (s : State) (l : LaneId) (f : LanePort → LanePort) :
    (s.modLane l f).noListener = s.noListener := by cases l <;> rfl
@[simp] theorem State.noListener_raise (s : State) (n : Notice) (l : LaneId) : (s.raise n l).noListener = s.noListener := by
  cases l <;> rfl
@[simp] theorem State.noListener_raiseBoth (s : State) (n : Notice) : (s.raiseBoth n).noListener = s.noListener := rfl
@[simp] theorem State.noListener_lose (s : State) (r : LossReason) (l : LaneId) : (s.lose r l).noListener = s.noListener := by
  cases l <;> rfl
@[simp] theorem State.bypass_setLane (s : State) (l : LaneId) (p : LanePort) : (s.setLane l p).bypass = s.bypass := by
  cases l <;> rfl
@[simp] theorem State.bypass_modLane (s : State) (l : LaneId) (f : LanePort → LanePort) :
    (s.modLane l f).bypass = s.bypass := by cases l <;> rfl
@[simp] theorem State.bypass_raise (s : State) (n : Notice) (l : LaneId) : (s.raise n l).bypass = s.bypass := by
  cases l <;> rfl
@[simp] theorem State.bypass_raiseBoth (s : State) (n : Notice) : (s.raiseBoth n).bypass = s.bypass := rfl
@[simp] theorem State.bypass_lose (s : State) (r : LossReason) (l : LaneId) : (s.lose r l).bypass = s.bypass := by
  cases l <;> rfl
@[simp] theorem State.store_setLane (s : State) (l : LaneId) (p : LanePort) : (s.setLane l p).store = s.store := by
  cases l <;> rfl
@[simp] theorem State.store_modLane (s : State) (l : LaneId) (f : LanePort → LanePort) :
    (s.modLane l f).store = s.store := by cases l <;> rfl
@[simp] theorem State.store_raise (s : State) (n : Notice) (l : LaneId) : (s.raise n l).store = s.store := by
  cases l <;> rfl
@[simp] theorem State.store_raiseBoth (s : State) (n : Notice) : (s.raiseBoth n).store = s.store := rfl
@[simp] theorem State.store_lose (s : State) (r : LossReason) (l : LaneId) : (s.lose r l).store = s.store := by
  cases l <;> rfl

/-! ## Notices, losses and counters -/

@[simp] theorem LanePort.lrst_raise (n : Notice) (p : LanePort) : (p.raise n).lrst = p.lrst := by
  unfold LanePort.raise; split <;> rfl
@[simp] theorem LanePort.lrst_lose (r : LossReason) (p : LanePort) : (p.lose r).lrst = p.lrst := by
  simp [LanePort.lose]
@[simp] theorem LanePort.attached_raise (n : Notice) (p : LanePort) : (p.raise n).attached = p.attached := by
  unfold LanePort.raise; split <;> rfl
@[simp] theorem LanePort.attached_lose (r : LossReason) (p : LanePort) : (p.lose r).attached = p.attached := by
  simp [LanePort.lose]
@[simp] theorem LanePort.votes_raise (n : Notice) (p : LanePort) : (p.raise n).votes = p.votes := by
  unfold LanePort.raise; split <;> rfl
@[simp] theorem LanePort.votes_lose (r : LossReason) (p : LanePort) : (p.lose r).votes = p.votes := by
  simp [LanePort.lose]
@[simp] theorem LanePort.sendQueue_raise (n : Notice) (p : LanePort) : (p.raise n).sendQueue = p.sendQueue := by
  unfold LanePort.raise; split <;> rfl
@[simp] theorem LanePort.sendQueue_lose (r : LossReason) (p : LanePort) : (p.lose r).sendQueue = p.sendQueue := by
  simp [LanePort.lose]
@[simp] theorem LanePort.receiveQueue_raise (n : Notice) (p : LanePort) : (p.raise n).receiveQueue = p.receiveQueue := by
  unfold LanePort.raise; split <;> rfl
@[simp] theorem LanePort.receiveQueue_lose (r : LossReason) (p : LanePort) : (p.lose r).receiveQueue = p.receiveQueue := by
  simp [LanePort.lose]
@[simp] theorem LanePort.slot_raise (n : Notice) (p : LanePort) : (p.raise n).slot = p.slot := by
  unfold LanePort.raise; split <;> rfl
@[simp] theorem LanePort.slot_lose (r : LossReason) (p : LanePort) : (p.lose r).slot = p.slot := by
  simp [LanePort.lose]
@[simp] theorem LanePort.mask_raise (n : Notice) (p : LanePort) : (p.raise n).mask = p.mask := by
  unfold LanePort.raise; split <;> rfl
@[simp] theorem LanePort.mask_lose (r : LossReason) (p : LanePort) : (p.lose r).mask = p.mask := by
  simp [LanePort.lose]
@[simp] theorem LanePort.losses_raise (n : Notice) (p : LanePort) : (p.raise n).losses = p.losses := by
  unfold LanePort.raise; split <;> rfl
@[simp] theorem LanePort.receiveDrops_raise (n : Notice) (p : LanePort) : (p.raise n).receiveDrops = p.receiveDrops := by
  unfold LanePort.raise; split <;> rfl
@[simp] theorem LanePort.receiveDrops_lose (r : LossReason) (p : LanePort) : (p.lose r).receiveDrops = p.receiveDrops := by
  simp [LanePort.lose]
@[simp] theorem LanePort.receiveDisplacements_raise (n : Notice) (p : LanePort) : (p.raise n).receiveDisplacements = p.receiveDisplacements := by
  unfold LanePort.raise; split <;> rfl
@[simp] theorem LanePort.receiveDisplacements_lose (r : LossReason) (p : LanePort) : (p.lose r).receiveDisplacements = p.receiveDisplacements := by
  simp [LanePort.lose]
@[simp] theorem LanePort.frameErrors_raise (n : Notice) (p : LanePort) : (p.raise n).frameErrors = p.frameErrors := by
  unfold LanePort.raise; split <;> rfl
@[simp] theorem LanePort.frameErrors_lose (r : LossReason) (p : LanePort) : (p.lose r).frameErrors = p.frameErrors := by
  simp [LanePort.lose]
@[simp] theorem LanePort.dataOut_raise (n : Notice) (p : LanePort) : (p.raise n).dataOut = p.dataOut := by
  unfold LanePort.raise; split <;> rfl
@[simp] theorem LanePort.dataOut_lose (r : LossReason) (p : LanePort) : (p.lose r).dataOut = p.dataOut := by
  simp [LanePort.lose]
@[simp] theorem LanePort.losses_lose (r : LossReason) (p : LanePort) : (p.lose r).losses = p.losses.count r := by
  simp [LanePort.lose]
@[simp] theorem State.endUnit_raise (s : State) (n : Notice) (l : LaneId) (e : EndId) :
    (s.raise n l).endUnit e = s.endUnit e := by cases l <;> rfl
@[simp] theorem State.endUnit_raiseBoth (s : State) (n : Notice) (e : EndId) :
    (s.raiseBoth n).endUnit e = s.endUnit e := rfl
@[simp] theorem State.endUnit_lose (s : State) (r : LossReason) (l : LaneId) (e : EndId) :
    (s.lose r l).endUnit e = s.endUnit e := by cases l <;> rfl
@[simp] theorem State.lane_raise_self (s : State) (n : Notice) (l : LaneId) :
    (s.raise n l).lane l = (s.lane l).raise n := by cases l <;> rfl
@[simp] theorem State.lane_raise_other (s : State) (n : Notice) (l : LaneId) :
    (s.raise n l).lane l.other = s.lane l.other := by cases l <;> rfl
@[simp] theorem State.lane_raiseBoth (s : State) (n : Notice) (l : LaneId) :
    (s.raiseBoth n).lane l = (s.lane l).raise n := by cases l <;> rfl
@[simp] theorem State.lane_lose_self (s : State) (r : LossReason) (l : LaneId) :
    (s.lose r l).lane l = (s.lane l).lose r := by cases l <;> rfl
@[simp] theorem State.lane_lose_other (s : State) (r : LossReason) (l : LaneId) :
    (s.lose r l).lane l.other = s.lane l.other := by cases l <;> rfl

@[simp] theorem State.pending_count (s : State) (e : EndId) (f : EndCounters → EndCounters) :
    (s.count e f).pending = s.pending := by cases e <;> rfl
@[simp] theorem State.pending_modSender (s : State) (e : EndId) (f : Sender → Sender) :
    (s.modSender e f).pending = s.pending := by cases e <;> rfl
@[simp] theorem State.nrst_count (s : State) (e : EndId) (f : EndCounters → EndCounters) :
    (s.count e f).nrst = s.nrst := by cases e <;> rfl
@[simp] theorem State.nrst_modSender (s : State) (e : EndId) (f : Sender → Sender) :
    (s.modSender e f).nrst = s.nrst := by cases e <;> rfl
@[simp] theorem State.directory_count (s : State) (e : EndId) (f : EndCounters → EndCounters) :
    (s.count e f).directory = s.directory := by cases e <;> rfl
@[simp] theorem State.directory_modSender (s : State) (e : EndId) (f : Sender → Sender) :
    (s.modSender e f).directory = s.directory := by cases e <;> rfl
@[simp] theorem State.candidate_count (s : State) (e : EndId) (f : EndCounters → EndCounters) :
    (s.count e f).candidate = s.candidate := by cases e <;> rfl
@[simp] theorem State.candidate_modSender (s : State) (e : EndId) (f : Sender → Sender) :
    (s.modSender e f).candidate = s.candidate := by cases e <;> rfl
@[simp] theorem State.engine_count (s : State) (e : EndId) (f : EndCounters → EndCounters) :
    (s.count e f).engine = s.engine := by cases e <;> rfl
@[simp] theorem State.engine_modSender (s : State) (e : EndId) (f : Sender → Sender) :
    (s.modSender e f).engine = s.engine := by cases e <;> rfl
@[simp] theorem State.rotation_count (s : State) (e : EndId) (f : EndCounters → EndCounters) :
    (s.count e f).rotation = s.rotation := by cases e <;> rfl
@[simp] theorem State.rotation_modSender (s : State) (e : EndId) (f : Sender → Sender) :
    (s.modSender e f).rotation = s.rotation := by cases e <;> rfl
@[simp] theorem State.recentreTimer_count (s : State) (e : EndId) (f : EndCounters → EndCounters) :
    (s.count e f).recentreTimer = s.recentreTimer := by cases e <;> rfl
@[simp] theorem State.recentreTimer_modSender (s : State) (e : EndId) (f : Sender → Sender) :
    (s.modSender e f).recentreTimer = s.recentreTimer := by cases e <;> rfl
@[simp] theorem State.laneA_count (s : State) (e : EndId) (f : EndCounters → EndCounters) :
    (s.count e f).laneA = s.laneA := by cases e <;> rfl
@[simp] theorem State.laneA_modSender (s : State) (e : EndId) (f : Sender → Sender) :
    (s.modSender e f).laneA = s.laneA := by cases e <;> rfl
@[simp] theorem State.laneB_count (s : State) (e : EndId) (f : EndCounters → EndCounters) :
    (s.count e f).laneB = s.laneB := by cases e <;> rfl
@[simp] theorem State.laneB_modSender (s : State) (e : EndId) (f : Sender → Sender) :
    (s.modSender e f).laneB = s.laneB := by cases e <;> rfl
@[simp] theorem State.resolver_count (s : State) (e : EndId) (f : EndCounters → EndCounters) :
    (s.count e f).resolver = s.resolver := by cases e <;> rfl
@[simp] theorem State.resolver_modSender (s : State) (e : EndId) (f : Sender → Sender) :
    (s.modSender e f).resolver = s.resolver := by cases e <;> rfl
@[simp] theorem State.noListener_count (s : State) (e : EndId) (f : EndCounters → EndCounters) :
    (s.count e f).noListener = s.noListener := by cases e <;> rfl
@[simp] theorem State.noListener_modSender (s : State) (e : EndId) (f : Sender → Sender) :
    (s.modSender e f).noListener = s.noListener := by cases e <;> rfl
@[simp] theorem State.bypass_count (s : State) (e : EndId) (f : EndCounters → EndCounters) :
    (s.count e f).bypass = s.bypass := by cases e <;> rfl
@[simp] theorem State.bypass_modSender (s : State) (e : EndId) (f : Sender → Sender) :
    (s.modSender e f).bypass = s.bypass := by cases e <;> rfl
@[simp] theorem State.store_count (s : State) (e : EndId) (f : EndCounters → EndCounters) :
    (s.count e f).store = s.store := by cases e <;> rfl
@[simp] theorem State.store_modSender (s : State) (e : EndId) (f : Sender → Sender) :
    (s.modSender e f).store = s.store := by cases e <;> rfl
@[simp] theorem State.endUnit_count_self (s : State) (e : EndId) (f : EndCounters → EndCounters) :
    (s.count e f).endUnit e = { s.endUnit e with counters := f (s.endUnit e).counters } := by cases e <;> rfl
@[simp] theorem State.endUnit_count_other (s : State) (e : EndId) (f : EndCounters → EndCounters) :
    (s.count e f).endUnit e.other = s.endUnit e.other := by cases e <;> rfl
@[simp] theorem State.endUnit_modSender_self (s : State) (e : EndId) (f : Sender → Sender) :
    (s.modSender e f).endUnit e = { s.endUnit e with sender := f (s.endUnit e).sender } := by cases e <;> rfl
@[simp] theorem State.endUnit_modSender_other (s : State) (e : EndId) (f : Sender → Sender) :
    (s.modSender e f).endUnit e.other = s.endUnit e.other := by cases e <;> rfl

/-! ## Pattern holds -/

@[simp] theorem Transmitter.sending_cut (t : Transmitter) : t.cut.sending = none := rfl
@[simp] theorem Transmitter.holdAfter_cut (t : Transmitter) : t.cut.holdAfter = none := rfl
@[simp] theorem Transmitter.replies_cut (t : Transmitter) : t.cut.replies = t.replies := rfl
@[simp] theorem Transmitter.beaconDue_cut (t : Transmitter) : t.cut.beaconDue = t.beaconDue := rfl
@[simp] theorem Transmitter.frameDue_cut (t : Transmitter) : t.cut.frameDue = t.frameDue := rfl
@[simp] theorem Transmitter.cut_cut (t : Transmitter) : t.cut.cut = t.cut := rfl
@[simp] theorem LineUnit.holdTimer_startHold (n : LineUnit) : n.startHold.holdTimer = some Config.patternHoldTime := rfl
@[simp] theorem LineUnit.tx_startHold (n : LineUnit) : n.startHold.tx = n.tx.cut := rfl
@[simp] theorem LineUnit.state_startHold (n : LineUnit) : n.startHold.state = n.state := rfl
@[simp] theorem LineUnit.recentre_startHold (n : LineUnit) : n.startHold.recentre = n.recentre := rfl
@[simp] theorem LineUnit.record_startHold (n : LineUnit) : n.startHold.record = n.record := rfl
@[simp] theorem LineUnit.unanswered_startHold (n : LineUnit) : n.startHold.unanswered = n.unanswered := rfl
@[simp] theorem State.endUnit_startHold_self (s : State) (e : EndId) (x : LineId) :
    (s.startHold e x).endUnit e = (s.endUnit e).modLine x LineUnit.startHold := by cases e <;> rfl
@[simp] theorem State.endUnit_startHold_other (s : State) (e : EndId) (x : LineId) :
    (s.startHold e x).endUnit e.other = s.endUnit e.other := by cases e <;> rfl
@[simp] theorem State.line_startHold_self (s : State) (e : EndId) (x : LineId) :
    (s.startHold e x).line e x = (s.line e x).startHold := by cases e <;> cases x <;> rfl
@[simp] theorem State.line_startHold_partner (s : State) (e : EndId) (x : LineId) :
    (s.startHold e x).line e x.partner = s.line e x.partner := by cases e <;> cases x <;> rfl
@[simp] theorem State.lane_startHold (s : State) (e : EndId) (x : LineId) (l : LaneId) :
    (s.startHold e x).lane l = s.lane l := by cases e <;> cases l <;> rfl
@[simp] theorem State.engine_startHold (s : State) (e : EndId) (x : LineId) :
    (s.startHold e x).engine = s.engine := by cases e <;> rfl

/-- A counter never falls (R105, R141). -/
theorem le_satInc (c : Word) : c.toNat ≤ (satInc c).toNat := by
  unfold satInc
  split
  · exact le_refl _
  · next h =>
    have h' : c.toNat ≠ 65535 := fun e => h (BitVec.eq_of_toNat_eq (by simpa using e))
    have hc := c.isLt
    rw [BitVec.toNat_add]
    have h1 : (1 : Word).toNat = 1 := rfl
    omega

end Sys2Proof.Machine
end

