-- ==== Sys2Proof/Laws/EngineFrame.lean ====
section
/-! SUPPORT. What every operation of the inauguration engine leaves as it was, said once: the engine writes its own
record, the directory, the candidate, the control queues with their drops, and notices. Each lemma adds one operation
behind a change already framed, so that they chain. -/

namespace Sys2Proof.Machine

open Sys2Proof

/-- All that an operation of the engine may change, with the capacity of the control queues kept, no drop count
falling, and no notice cleared. -/
structure State.EngineFrame (s t : State) : Prop where
  rest : s.SameRest t
  ends : ∀ e, (s.endUnit e).SameButControl (t.endUnit e)
  room : ∀ e, (s.endUnit e).queues.control.length ≤ 4 → (t.endUnit e).queues.control.length ≤ 4
  drops : ∀ e, (s.endUnit e).counters.controlDrops ≤ (t.endUnit e).counters.controlDrops
  lanes : ∀ l, t.lane l = { s.lane l with notices := (t.lane l).notices }
  marks : ∀ l, (s.lane l).notices &&& (t.lane l).notices = (s.lane l).notices

/-- A mark that is set is among marks that have had others added. -/
theorem and_or_absorb {w : Nat} (a b : BitVec w) : a &&& (a ||| b) = a := by
  ext i
  simp
  tauto

theorem EndUnit.SameButControl.refl (u : EndUnit) : u.SameButControl u := rfl

theorem EndUnit.SameButControl.trans {u v w : EndUnit} (h : u.SameButControl v) (k : v.SameButControl w) :
    u.SameButControl w := by
  unfold EndUnit.SameButControl at *
  rw [h] at k
  simpa using k

theorem State.SameRest.refl (s : State) : s.SameRest s := ⟨rfl, rfl, rfl, rfl, rfl, rfl, rfl, rfl⟩

theorem State.SameRest.trans {s t u : State} (h : s.SameRest t) (k : t.SameRest u) : s.SameRest u := by
  obtain ⟨a, b, c, d, f, g, i, j⟩ := h
  obtain ⟨a', b', c', d', f', g', i', j'⟩ := k
  exact ⟨a'.trans a, b'.trans b, c'.trans c, d'.trans d, f'.trans f, g'.trans g, i'.trans i, j'.trans j⟩

variable {s t u : State}

/-- A change of the engine's record, the directory and the candidate alone. -/
theorem State.EngineFrame.of_eq
    (h : t = { s with directory := t.directory, candidate := t.candidate, engine := t.engine }) :
    s.EngineFrame t := by
  rw [h]
  exact ⟨⟨rfl, rfl, rfl, rfl, rfl, rfl, rfl, rfl⟩, fun e => by cases e <;> rfl, fun e => by cases e <;> exact id,
    fun e => by cases e <;> exact BitVec.le_refl _, fun l => by cases l <;> rfl,
    fun l => by cases l <;> exact BitVec.and_self⟩

@[simp] theorem State.EngineFrame.refl (s : State) : s.EngineFrame s := .of_eq rfl

theorem State.EngineFrame.trans (h : s.EngineFrame t) (k : t.EngineFrame u) : s.EngineFrame u where
  rest := h.rest.trans k.rest
  ends e := (h.ends e).trans (k.ends e)
  room e := k.room e ∘ h.room e
  drops e := BitVec.le_trans (h.drops e) (k.drops e)
  lanes l := by
    have := k.lanes l
    rw [h.lanes l] at this
    simpa using this
  marks l := by
    have a := h.marks l
    have b := k.marks l
    rw [← a, BitVec.and_assoc, b]

/-! ## Post-composition, one lemma for each operation -/

@[simp] theorem State.EngineFrame.record (h : s.EngineFrame t) {d : Directory} {c : Option Candidate} {g : Engine} :
    s.EngineFrame { t with directory := d, candidate := c, engine := g } := h.trans (.of_eq rfl)
@[simp] theorem State.EngineFrame.setEngine (h : s.EngineFrame t) {g : Engine} :
    s.EngineFrame { t with engine := g } := h.trans (.of_eq rfl)
@[simp] theorem State.EngineFrame.setCandidate (h : s.EngineFrame t) {c : Option Candidate} :
    s.EngineFrame { t with candidate := c } := h.trans (.of_eq rfl)
@[simp] theorem State.EngineFrame.setBoth (h : s.EngineFrame t) {c : Option Candidate} {g : Engine} :
    s.EngineFrame { t with candidate := c, engine := g } := h.trans (.of_eq rfl)

/-- A raised notice leaves all but the marks of its lane, and clears none. -/
theorem State.raise_engineFrame (s : State) (n : Notice) (l : LaneId) : s.EngineFrame (s.raise n l) where
  rest := by cases l <;> exact ⟨rfl, rfl, rfl, rfl, rfl, rfl, rfl, rfl⟩
  ends e := by cases l <;> cases e <;> rfl
  room e := by cases l <;> cases e <;> exact id
  drops e := by cases l <;> cases e <;> exact BitVec.le_refl _
  lanes m := by
    cases l <;> cases m <;>
      simp only [State.raise, State.modLane, State.setLane, State.lane, LanePort.raise] <;> split <;> rfl
  marks m := by
    cases l <;> cases m <;> simp only [State.raise, State.modLane, State.setLane, State.lane, LanePort.raise] <;>
      (try split) <;> simp [and_or_absorb]

@[simp] theorem State.EngineFrame.raise (h : s.EngineFrame t) {n : Notice} {l : LaneId} :
    s.EngineFrame (t.raise n l) := h.trans (t.raise_engineFrame n l)

@[simp] theorem State.EngineFrame.raiseBoth (h : s.EngineFrame t) {n : Notice} : s.EngineFrame (t.raiseBoth n) :=
  h.raise.raise

/-- A control frame placed, or dropped and counted at a full queue. -/
theorem State.sendControl_engineFrame (s : State) (e : EndId) (f : ControlFrame) :
    s.EngineFrame (s.sendControl e f) := by
  unfold State.sendControl
  split
  · rename_i hroom
    refine ⟨?_, fun d => ?_, fun d => ?_, fun d => ?_, fun l => ?_, fun l => ?_⟩
    · cases e <;> exact ⟨rfl, rfl, rfl, rfl, rfl, rfl, rfl, rfl⟩
    · cases e <;> cases d <;> rfl
    · simp only [Config.controlCapacity] at hroom
      cases e <;> cases d <;>
        simp only [State.modEnd, State.setEnd, State.endUnit, List.length_append, List.length_cons,
          List.length_nil] at hroom ⊢ <;> omega
    · cases e <;> cases d <;> exact BitVec.le_refl _
    · cases e <;> cases l <;> rfl
    · cases e <;> cases l <;> exact BitVec.and_self
  · refine ⟨?_, fun d => ?_, fun d => ?_, fun d => ?_, fun l => ?_, fun l => ?_⟩
    · cases e <;> exact ⟨rfl, rfl, rfl, rfl, rfl, rfl, rfl, rfl⟩
    · cases e <;> cases d <;> rfl
    · cases e <;> cases d <;> exact id
    · cases e <;> cases d <;> first | exact BitVec.le_refl _ | exact le_satInc _
    · cases e <;> cases l <;> rfl
    · cases e <;> cases l <;> exact BitVec.and_self

@[simp] theorem State.EngineFrame.sendControl (h : s.EngineFrame t) {e : EndId} {f : ControlFrame} :
    s.EngineFrame (t.sendControl e f) := h.trans (t.sendControl_engineFrame e f)

@[simp] theorem State.EngineFrame.sendEach (h : s.EngineFrame t) {f : ControlFrame} :
    s.EngineFrame (t.sendEach f) := by
  unfold State.sendEach
  split <;> dsimp only <;> split <;> simp [h]

@[simp] theorem State.EngineFrame.alertAll (h : s.EngineFrame t) {restart : Bool} {sender : EngineState} :
    s.EngineFrame (t.alertAll restart sender) := h.sendEach

@[simp] theorem State.EngineFrame.forwardAlert (h : s.EngineFrame t) {e : EndId} {a : AlertBody}
    {sender : EngineState} : s.EngineFrame (t.forwardAlert e a sender) := by
  unfold State.forwardAlert
  split <;> simp [h]

@[simp] theorem State.EngineFrame.abandon (h : s.EngineFrame t) : s.EngineFrame t.abandon := h.setBoth
@[simp] theorem State.EngineFrame.setCount (h : s.EngineFrame t) {n : Nat} : s.EngineFrame (t.setCount n) :=
  h.setEngine
@[simp] theorem State.EngineFrame.enterQuiet (h : s.EngineFrame t) : s.EngineFrame t.enterQuiet := h.setEngine
@[simp] theorem State.EngineFrame.enterFailed (h : s.EngineFrame t) : s.EngineFrame t.enterFailed :=
  h.abandon.setEngine.raiseBoth
@[simp] theorem State.EngineFrame.enterMismatch (h : s.EngineFrame t) {c : MismatchCause} :
    s.EngineFrame (t.enterMismatch c) := h.abandon.setEngine.raiseBoth

@[simp] theorem State.EngineFrame.commitList (h : s.EngineFrame t) {ns : List ListedEntry} {c g : Word} :
    s.EngineFrame (t.commitList ns c g) := by
  unfold State.commitList
  dsimp only
  split
  · exact h.record.raiseBoth.raiseBoth
  · exact h.record.raiseBoth

@[simp] theorem State.EngineFrame.selfCommit (h : s.EngineFrame t) : s.EngineFrame t.selfCommit := by
  unfold State.selfCommit
  dsimp only
  split <;> simp [h]

@[simp] theorem State.EngineFrame.startTally (h : s.EngineFrame t) {e : EndId} :
    s.EngineFrame (t.startTally e) := h.sendControl.setEngine

@[simp] theorem State.EngineFrame.actAlerted (h : s.EngineFrame t) : s.EngineFrame t.actAlerted := by
  unfold State.actAlerted
  split
  · exact h
  · split <;> simp [h]

@[simp] theorem State.EngineFrame.enterAlerted (h : s.EngineFrame t) : s.EngineFrame t.enterAlerted :=
  h.setEngine.actAlerted

@[simp] theorem State.EngineFrame.restart (h : s.EngineFrame t) : s.EngineFrame t.restart := by
  unfold State.restart
  dsimp only
  split
  · exact h.abandon.setCount.selfCommit
  · exact h.abandon.setCount.alertAll.enterAlerted

@[simp] theorem State.EngineFrame.holdChange (h : s.EngineFrame t) : s.EngineFrame t.holdChange := by
  unfold State.holdChange
  split <;> simp [h]

/-- A topology change. -/
@[simp] theorem State.EngineFrame.topologyChange (h : s.EngineFrame t) : s.EngineFrame t.topologyChange := by
  unfold State.topologyChange
  split
  · exact h
  · split <;> simp [h]

@[simp] theorem State.EngineFrame.retry (h : s.EngineFrame t) : s.EngineFrame t.retry := by
  unfold State.retry
  dsimp only
  split
  · exact h.setCount.enterFailed
  · split
    · exact h.setCount.enterMismatch
    · split
      · exact h.setCount.selfCommit
      · exact h.setCount.alertAll.enterAlerted

@[simp] theorem State.EngineFrame.deadlineExpired (h : s.EngineFrame t) : s.EngineFrame t.deadlineExpired :=
  h.abandon.retry

@[simp] theorem State.EngineFrame.inhibitOn (h : s.EngineFrame t) : s.EngineFrame t.inhibitOn := by
  unfold State.inhibitOn
  split <;> try simp [h]
  split
  · split <;> simp [h]
  · simp [h]

@[simp] theorem State.EngineFrame.inhibitOff (h : s.EngineFrame t) : s.EngineFrame t.inhibitOff := by
  unfold State.inhibitOff
  split <;> simp [h]

/-! ## Control frames arriving -/

@[simp] theorem State.EngineFrame.takeAlert (h : s.EngineFrame t) {e : EndId} {a : AlertBody} :
    s.EngineFrame (t.takeAlert e a) := h.abandon.setCount.forwardAlert.enterAlerted
@[simp] theorem State.EngineFrame.holdAlert (h : s.EngineFrame t) {e : EndId} {a : AlertBody} :
    s.EngineFrame (t.holdAlert e a) := h.enterMismatch.setCount.forwardAlert

/-- An ALERT at the engine. -/
@[simp] theorem State.EngineFrame.onAlert (h : s.EngineFrame t) {e : EndId} {a : AlertBody} :
    s.EngineFrame (t.onAlert e a) := by
  unfold State.onAlert
  split
  · exact h
  · split <;> (try split) <;> (try split) <;> simp [h]

@[simp] theorem State.EngineFrame.relayTally (h : s.EngineFrame t) {e : EndId} {a : AttemptId}
    {ns : List ListedEntry} : s.EngineFrame (t.relayTally e a ns) := h.sendControl.setEngine

/-- A list offered to the directory changes the candidate alone. -/
theorem State.storeCandidate_engineFrame (s : State) (a : AttemptId) (ns : List ListedEntry) :
    s.EngineFrame (s.storeCandidate a ns).2 := by
  unfold State.storeCandidate
  split <;> simp

@[simp] theorem State.EngineFrame.storeCandidate (h : s.EngineFrame t) {a : AttemptId} {ns : List ListedEntry} :
    s.EngineFrame (t.storeCandidate a ns).2 := h.trans (t.storeCandidate_engineFrame a ns)

/-- The same, from the pair that a match names. -/
theorem State.EngineFrame.of_storeCandidate (h : s.EngineFrame t) {a : AttemptId} {ns : List ListedEntry}
    {r : StoreResult} (k : t.storeCandidate a ns = (r, u)) : s.EngineFrame u := by
  have := h.storeCandidate (a := a) (ns := ns)
  rwa [k] at this

@[simp] theorem State.EngineFrame.closeTally (h : s.EngineFrame t) {e : EndId} {a : AttemptId}
    {ns : List ListedEntry} : s.EngineFrame (t.closeTally e a ns) := by
  unfold State.closeTally
  dsimp only
  split
  · exact h.sendControl.enterFailed
  · split <;> rename_i k
    · exact (h.of_storeCandidate k).sendControl.setEngine
    · exact (h.of_storeCandidate k).sendControl.enterFailed
    · exact (h.of_storeCandidate k).sendControl.abandon.enterAlerted

@[simp] theorem State.EngineFrame.takeTally (h : s.EngineFrame t) {e : EndId} {a : AttemptId}
    {ns : List ListedEntry} : s.EngineFrame (t.takeTally e a ns) := by
  unfold State.takeTally
  dsimp only
  split
  · exact h.abandon.sendControl.enterFailed
  · split
    · exact h.abandon.relayTally
    · exact h.abandon.closeTally

@[simp] theorem State.EngineFrame.turnBack (h : s.EngineFrame t) {e : EndId} {a : AttemptId} :
    s.EngineFrame (t.turnBack e a) := h.sendControl

/-- A TALLY at the engine. -/
@[simp] theorem State.EngineFrame.onTally (h : s.EngineFrame t) {e : EndId} {a : AttemptId}
    {ns : List ListedEntry} : s.EngineFrame (t.onTally e a ns) := by
  unfold State.onTally
  split
  · exact h
  · split <;> (try split) <;> (try split) <;> simp [h]

@[simp] theorem State.EngineFrame.relayClosure (h : s.EngineFrame t) {e : EndId} {k : Nat} {a : AttemptId}
    {ns : List ListedEntry} {c : Word} : s.EngineFrame (t.relayClosure e k a ns c) := by
  unfold State.relayClosure
  split
  · simp [h]
  · split <;> rename_i q
    · simp [h.of_storeCandidate q]
    · simp [h.of_storeCandidate q]
    · dsimp only
      split <;> simp [h.of_storeCandidate q]

@[simp] theorem State.EngineFrame.starterClosure (h : s.EngineFrame t) {e : EndId} {a : AttemptId}
    {ns : List ListedEntry} {c : Word} : s.EngineFrame (t.starterClosure e a ns c) := by
  unfold State.starterClosure
  split
  · simp [h]
  · split <;> rename_i q
    · simp [h.of_storeCandidate q]
    · simp [h.of_storeCandidate q]
    · dsimp only
      split
      · exact (h.of_storeCandidate q).setCandidate.retry
      · exact (h.of_storeCandidate q).commitList.sendControl.setEngine

/-- A CLOSURE at the engine. -/
@[simp] theorem State.EngineFrame.onClosure (h : s.EngineFrame t) {e : EndId} {a : AttemptId}
    {ns : List ListedEntry} {c : Word} : s.EngineFrame (t.onClosure e a ns c) := by
  unfold State.onClosure
  split
  · exact h
  · split
    · exact h
    · split
      · exact h
      · split
        · split <;> simp [h]
        · split <;> simp [h]

/-- A COMMIT at the engine. -/
@[simp] theorem State.EngineFrame.onCommit (h : s.EngineFrame t) {e : EndId} {a : AttemptId} {g c : Word} :
    s.EngineFrame (t.onCommit e a g c) := by
  unfold State.onCommit
  split
  · exact h
  · split
    · exact h
    · split
      · exact h
      · split
        · simp [h]
        · dsimp only
          split
          · exact h.commitList.sendControl.enterQuiet
          · exact h.commitList.enterQuiet

@[simp] theorem State.EngineFrame.passOn (h : s.EngineFrame t) {e : EndId} {f : ControlFrame} :
    s.EngineFrame (t.passOn e f) := by
  unfold State.passOn
  split <;> simp [h]

/-- A DISSENT at the engine. -/
@[simp] theorem State.EngineFrame.onDissent (h : s.EngineFrame t) {e : EndId} {a : AttemptId}
    {r : DissentReason} : s.EngineFrame (t.onDissent e a r) := by
  unfold State.onDissent
  split
  · exact h
  · split
    · split
      · split <;> simp [h]
      · exact h
    · dsimp only
      split <;> simp [h]

/-- A DEFER at the engine. -/
@[simp] theorem State.EngineFrame.onDefer (h : s.EngineFrame t) {e : EndId} {a : AttemptId} {by_ : Tag} :
    s.EngineFrame (t.onDefer e a by_) := by
  unfold State.onDefer
  split
  · exact h
  · split
    · split <;> simp [h]
    · dsimp only
      split <;> simp [h]

end Sys2Proof.Machine
end

