-- ==== Sys2Proof/Laws/EndFrame.lean ====
section
/-! SUPPORT. What every operation of one end unit leaves as it was, said once: first at the end unit alone, then at the
node. The lemmas at the node add one operation behind a change already framed, so that they chain. -/

namespace Sys2Proof.Machine

open Sys2Proof

/-! ## One line and one end unit -/

/-- A counter never falls, in the order of the words. -/
theorem satInc_le (c : Word) : c ≤ satInc c := le_satInc c


/-- The inputs stand and no counter falls. -/
structure LineUnit.Keeps (n m : LineUnit) : Prop where
  carrier : m.carrier = n.carrier
  checkErrors : n.checkErrors ≤ m.checkErrors

/-- The inputs and the end state stand, no counter falls, and the control queue does not grow. -/
structure EndUnit.Keeps (u v : EndUnit) : Prop where
  sense : v.sense = u.sense
  state : v.state = u.state
  lines : ∀ x, (u.line x).Keeps (v.line x)
  counters : u.counters.NoneFell v.counters
  control : v.queues.control.length ≤ u.queues.control.length

theorem LineUnit.Keeps.refl (n : LineUnit) : n.Keeps n := ⟨rfl, BitVec.le_refl _⟩

theorem LineUnit.Keeps.trans {n m k : LineUnit} (h : n.Keeps m) (i : m.Keeps k) : n.Keeps k :=
  ⟨i.carrier.trans h.carrier, BitVec.le_trans h.checkErrors i.checkErrors⟩

theorem EndCounters.NoneFell.refl (c : EndCounters) : c.NoneFell c := by simp [EndCounters.NoneFell]

theorem EndCounters.NoneFell.trans {c d f : EndCounters} (h : c.NoneFell d) (k : d.NoneFell f) : c.NoneFell f := by
  obtain ⟨a₁, a₂, a₃, a₄, a₅, a₆, a₇, a₈⟩ := h
  obtain ⟨b₁, b₂, b₃, b₄, b₅, b₆, b₇, b₈⟩ := k
  exact ⟨BitVec.le_trans a₁ b₁, BitVec.le_trans a₂ b₂, BitVec.le_trans a₃ b₃, BitVec.le_trans a₄ b₄,
    BitVec.le_trans a₅ b₅, BitVec.le_trans a₆ b₆, BitVec.le_trans a₇ b₇, BitVec.le_trans a₈ b₈⟩

/-- Every count of an outcome adds to one counter or to none. -/
theorem FrameOutcome.count_noneFell (o : FrameOutcome) (c : EndCounters) : c.NoneFell (o.count c) := by
  cases o <;> simp [FrameOutcome.count, EndCounters.NoneFell, EndCounters.addFrameSent, EndCounters.addRefusal,
    EndCounters.addNoAnswer, EndCounters.addCongested, satInc_le]

variable {u v w : EndUnit}

theorem EndUnit.Keeps.refl (u : EndUnit) : u.Keeps u :=
  ⟨rfl, rfl, fun _ => .refl _, .refl _, Nat.le_refl _⟩

theorem EndUnit.Keeps.trans (h : u.Keeps v) (k : v.Keeps w) : u.Keeps w where
  sense := k.sense.trans h.sense
  state := k.state.trans h.state
  lines x := (h.lines x).trans (k.lines x)
  counters := h.counters.trans k.counters
  control := Nat.le_trans k.control h.control

/-- A change of one line that keeps its input and its count. -/
theorem EndUnit.Keeps.modLine (h : u.Keeps v) {x : LineId} {f : LineUnit → LineUnit}
    (k : (v.line x).Keeps (f (v.line x))) : u.Keeps (v.modLine x f) :=
  h.trans
    { sense := by simp
      state := by simp
      lines := fun y => by
        rcases LineId.eq_or_partner x y with rfl | rfl
        · simpa using k
        · simpa using LineUnit.Keeps.refl _
      counters := by simpa using EndCounters.NoneFell.refl _
      control := by simp }

/-- A change of the peer, the trainer, the sender, the receiver record and the class queues. -/
theorem EndUnit.Keeps.inner (h : u.Keeps v) {p : Option PeerId} {t : Trainer} {n : Sender}
    {r : Option ReceiverRecord} {q : EndQueues} (k : q.control.length ≤ v.queues.control.length) :
    u.Keeps { v with peer := p, trainer := t, sender := n, receiver := r, queues := q } :=
  h.trans ⟨rfl, rfl, fun x => by cases x <;> exact .refl _, .refl _, k⟩

theorem EndUnit.Keeps.withdraw (h : u.Keeps v) : u.Keeps v.withdraw :=
  by
  have drop : ∀ (w : EndUnit) (x : LineId),
      w.Keeps (w.modLine x (fun n => { n with tx := { n.tx with frameDue := false } })) :=
    fun w x => (EndUnit.Keeps.refl w).modLine ⟨rfl, BitVec.le_refl _⟩
  exact h.trans ((drop v .lineA).trans (drop _ .lineB))

theorem EndUnit.Keeps.senderIdle (h : u.Keeps v) {o : FrameOutcome} : u.Keeps (v.senderIdle o) :=
  h.withdraw.inner (Nat.le_refl _)

theorem EndUnit.Keeps.abandonRecentre (h : u.Keeps v) {x : LineId} : u.Keeps (v.abandonRecentre x) := by
  unfold EndUnit.abandonRecentre
  split
  · exact h
  · exact (h.modLine ⟨rfl, BitVec.le_refl _⟩).inner (by simp)

theorem EndUnit.Keeps.freeTrainer (h : u.Keeps v) {x : LineId} : u.Keeps (v.freeTrainer x) := by
  unfold EndUnit.freeTrainer
  split
  · exact h.inner (Nat.le_refl _)
  · exact h

theorem EndUnit.Keeps.lineTo (h : u.Keeps v) {x : LineId} {st : LineState} : u.Keeps (v.lineTo x st) :=
  h.abandonRecentre.freeTrainer.modLine ⟨rfl, BitVec.le_refl _⟩

theorem EndUnit.Keeps.enterDark (h : u.Keeps v) {x : LineId} : u.Keeps (v.enterDark x) := h.lineTo

theorem EndUnit.Keeps.enterTraining (h : u.Keeps v) {x : LineId} {c : TrainingCause} :
    u.Keeps (v.enterTraining x c) := h.lineTo.modLine ⟨rfl, BitVec.le_refl _⟩

theorem EndUnit.Keeps.startRecentreSweep (h : u.Keeps v) {x : LineId} : u.Keeps (v.startRecentreSweep x) := by
  unfold EndUnit.startRecentreSweep
  split
  · exact (h.modLine ⟨rfl, BitVec.le_refl _⟩).inner (Nat.le_refl _)
  · exact h

theorem EndUnit.Keeps.reportRecentre (h : u.Keeps v) {o : FrameOutcome} {f : HeldFrame} :
    u.Keeps (v.reportRecentre o f) := by
  unfold EndUnit.reportRecentre
  split
  · split
    · exact h.startRecentreSweep
    · exact h.abandonRecentre
  · exact h

theorem EndUnit.Keeps.forgetPeer (h : u.Keeps v) : u.Keeps v.forgetPeer := by
  unfold EndUnit.forgetPeer
  split
  · exact h
  · exact h.inner (Nat.le_refl _)

theorem EndUnit.Keeps.abandonWithoutPartner (h : u.Keeps v) {x : LineId} :
    u.Keeps (v.abandonWithoutPartner x) := by
  unfold EndUnit.abandonWithoutPartner
  split
  · exact h.abandonRecentre
  · exact h

theorem LineUnit.wake_keeps (settle : Nat) (sense : Bool) (n : LineUnit) : n.Keeps (n.wake settle sense) := by
  unfold LineUnit.wake
  split <;> exact ⟨rfl, BitVec.le_refl _⟩

theorem EndUnit.Keeps.inputChanged (h : u.Keeps v) {settle : Nat} {present : Bool} {x : LineId} :
    u.Keeps (v.inputChanged settle present x) := by
  unfold EndUnit.inputChanged
  split
  · exact h.modLine (LineUnit.wake_keeps _ _ _)
  · exact h.modLine ⟨rfl, BitVec.le_refl _⟩
  all_goals
    split
    · exact h
    · exact h.enterDark

theorem EndUnit.Keeps.senseChanged (h : u.Keeps v) {settle : Nat} {coupled : Bool} :
    u.Keeps (v.senseChanged settle coupled) := h.inputChanged.inputChanged

theorem EndUnit.Keeps.settleExpired (h : u.Keeps v) {x : LineId} : u.Keeps (v.settleExpired x) := by
  unfold EndUnit.settleExpired
  dsimp only
  split
  · exact h.modLine ⟨rfl, BitVec.le_refl _⟩
  · exact h.enterDark

theorem EndUnit.Keeps.startFullSweep (h : u.Keeps v) {x : LineId} : u.Keeps (v.startFullSweep x) :=
  (h.modLine ⟨rfl, BitVec.le_refl _⟩).inner (Nat.le_refl _)

theorem EndUnit.Keeps.trainerTakes (h : u.Keeps v) : u.Keeps v.trainerTakes := by
  unfold EndUnit.trainerTakes
  split
  · exact h
  · split
    · exact h.startFullSweep
    · split
      · exact h.startFullSweep
      · exact h

theorem EndUnit.Keeps.trainerDone (h : u.Keeps v) {map : List Bool} : u.Keeps (v.trainerDone map) :=
  h.inner (Nat.le_refl _)

/-! ## The node -/

/-- All that an operation of one end unit may change: the unit itself, and losses with their notices. -/
structure State.EndFrame (e : EndId) (s t : State) : Prop where
  rest : s.SameRest t
  directory : t.directory = s.directory
  candidate : t.candidate = s.candidate
  engine : t.engine = s.engine
  other : t.endUnit e.other = s.endUnit e.other
  unit : (s.endUnit e).Keeps (t.endUnit e)
  lanes : ∀ l, (s.lane l).SameButReports (t.lane l)
  marks : ∀ l, (s.lane l).notices &&& (t.lane l).notices = (s.lane l).notices
  fell : ∀ l, (s.lane l).NoneFell (t.lane l)

theorem LanePort.SameButReports.refl (p : LanePort) : p.SameButReports p := rfl

theorem LanePort.SameButReports.trans {p q r : LanePort} (h : p.SameButReports q) (k : q.SameButReports r) :
    p.SameButReports r := by
  unfold LanePort.SameButReports at *
  rw [h] at k
  simpa using k

theorem LanePort.NoneFell.refl (p : LanePort) : p.NoneFell p := by simp [LanePort.NoneFell]

theorem LanePort.NoneFell.trans {p q r : LanePort} (h : p.NoneFell q) (k : q.NoneFell r) : p.NoneFell r := by
  obtain ⟨a₁, a₂, a₃, a₄, a₅, a₆, a₇, a₈, a₉⟩ := h
  obtain ⟨b₁, b₂, b₃, b₄, b₅, b₆, b₇, b₈, b₉⟩ := k
  exact ⟨BitVec.le_trans a₁ b₁, BitVec.le_trans a₂ b₂, BitVec.le_trans a₃ b₃, BitVec.le_trans a₄ b₄,
    BitVec.le_trans a₅ b₅, BitVec.le_trans a₆ b₆, BitVec.le_trans a₇ b₇, BitVec.le_trans a₈ b₈,
    BitVec.le_trans a₉ b₉⟩

/-- A loss changes the reports of its port alone, clears no notice and lowers no counter. -/
theorem LanePort.lose_reports (r : LossReason) (p : LanePort) :
    p.SameButReports (p.lose r) ∧ p.notices &&& (p.lose r).notices = p.notices ∧ p.NoneFell (p.lose r) := by
  refine ⟨?_, ?_, ?_⟩
  · cases r <;> rfl
  · simp [LanePort.lose, LanePort.raise, and_or_absorb]
  · cases r <;> simp [LanePort.lose, LanePort.raise, LossCounters.count, LanePort.NoneFell, satInc_le]

variable {e : EndId} {s t r : State}

theorem State.EndFrame.refl (e : EndId) (s : State) : s.EndFrame e s :=
  ⟨.refl s, rfl, rfl, rfl, rfl, .refl _, fun _ => .refl _, fun _ => BitVec.and_self, fun _ => .refl _⟩

theorem State.EndFrame.trans (h : State.EndFrame e s t) (k : State.EndFrame e t r) : State.EndFrame e s r where
  rest := h.rest.trans k.rest
  directory := k.directory.trans h.directory
  candidate := k.candidate.trans h.candidate
  engine := k.engine.trans h.engine
  other := k.other.trans h.other
  unit := h.unit.trans k.unit
  lanes l := (h.lanes l).trans (k.lanes l)
  marks l := by rw [← h.marks l, BitVec.and_assoc, k.marks l]
  fell l := (h.fell l).trans (k.fell l)

/-- A change of the end unit that keeps what an end unit keeps. -/
theorem State.EndFrame.modEnd (h : State.EndFrame e s t) {f : EndUnit → EndUnit}
    (k : (t.endUnit e).Keeps (f (t.endUnit e))) : State.EndFrame e s (t.modEnd e f) :=
  h.trans
    { rest := by cases e <;> exact ⟨rfl, rfl, rfl, rfl, rfl, rfl, rfl, rfl⟩
      directory := by cases e <;> rfl
      candidate := by cases e <;> rfl
      engine := by cases e <;> rfl
      other := by cases e <;> rfl
      unit := by cases e <;> exact k
      lanes := fun l => by cases e <;> cases l <;> rfl
      marks := fun l => by cases e <;> cases l <;> exact BitVec.and_self
      fell := fun l => by cases e <;> cases l <;> exact .refl _ }

theorem State.EndFrame.modLine (h : State.EndFrame e s t) {x : LineId} {f : LineUnit → LineUnit}
    (k : (t.line e x).Keeps (f (t.line e x))) : State.EndFrame e s (t.modLine e x f) :=
  h.modEnd ((EndUnit.Keeps.refl _).modLine k)

theorem State.EndFrame.modSender (h : State.EndFrame e s t) {f : Sender → Sender} :
    State.EndFrame e s (t.modSender e f) := h.modEnd ((EndUnit.Keeps.refl _).inner (Nat.le_refl _))

/-- A count at the end. -/
theorem State.EndFrame.count (h : State.EndFrame e s t) {f : EndCounters → EndCounters}
    (k : ∀ c : EndCounters, c.NoneFell (f c)) : State.EndFrame e s (t.count e f) :=
  h.modEnd ⟨rfl, rfl, fun x => by cases x <;> exact .refl _, k _, Nat.le_refl _⟩

theorem State.EndFrame.lose (h : State.EndFrame e s t) {c : LossReason} {m : LaneId} :
    State.EndFrame e s (t.lose c m) :=
  h.trans
    { rest := by cases m <;> exact ⟨rfl, rfl, rfl, rfl, rfl, rfl, rfl, rfl⟩
      directory := by cases m <;> rfl
      candidate := by cases m <;> rfl
      engine := by cases m <;> rfl
      other := by cases m <;> cases e <;> rfl
      unit := by cases m <;> cases e <;> exact .refl _
      lanes := fun l => by
        cases m <;> cases l <;> first | exact (LanePort.lose_reports c _).1 | rfl
      marks := fun l => by
        cases m <;> cases l <;> first | exact BitVec.and_self | exact (LanePort.lose_reports c _).2.1
      fell := fun l => by
        cases m <;> cases l <;> first | exact .refl _ | exact (LanePort.lose_reports c _).2.2 }

theorem State.EndFrame.loseRecord (h : State.EndFrame e s t) {c : LossReason} {d : DataRecord} :
    State.EndFrame e s (t.loseRecord c d) := by
  unfold State.loseRecord
  split
  · exact h
  · exact h.lose

theorem State.EndFrame.loseHeld (h : State.EndFrame e s t) {c : LossReason} {f : HeldFrame} :
    State.EndFrame e s (t.loseHeld c f) := by
  unfold State.loseHeld
  split
  · exact h
  · exact h.loseRecord

theorem State.EndFrame.serve (h : State.EndFrame e s t) {x : LineId} : State.EndFrame e s (t.serve e x) := by
  unfold State.serve
  dsimp only
  split
  · exact h.modLine ⟨rfl, BitVec.le_refl _⟩
  · exact h

theorem State.EndFrame.queueBeacon (h : State.EndFrame e s t) {x : LineId} :
    State.EndFrame e s (t.queueBeacon e x) := (h.modLine ⟨rfl, BitVec.le_refl _⟩).serve

theorem State.EndFrame.enterActive (h : State.EndFrame e s t) {x : LineId} :
    State.EndFrame e s (t.enterActive e x) := (h.modLine ⟨rfl, BitVec.le_refl _⟩).queueBeacon

/-- The outcome of the sender's frame. -/
theorem State.EndFrame.endFrame (h : State.EndFrame e s t) {o : FrameOutcome} :
    State.EndFrame e s (t.endFrame o e) := by
  unfold State.endFrame
  split
  · exact h
  · rename_i f _
    have := (h.modEnd (f := fun u => (u.senderIdle o).reportRecentre o f)
      (EndUnit.Keeps.refl _).senderIdle.reportRecentre).count o.count_noneFell
    dsimp only
    split
    · exact this.loseHeld
    · exact this

/-- A send of the held frame, or its wait for a hold. -/
theorem State.EndFrame.sendHeld (h : State.EndFrame e s t) : State.EndFrame e s (t.sendHeld e) := by
  unfold State.sendHeld
  dsimp only
  split
  · exact h.modSender
  · exact (h.modSender.modLine ⟨rfl, BitVec.le_refl _⟩).serve

theorem State.EndFrame.firstSend (h : State.EndFrame e s t) : State.EndFrame e s (t.firstSend e) := by
  unfold State.firstSend
  split
  · exact h.modSender.sendHeld
  · exact h.modSender

theorem State.EndFrame.takeFrame (h : State.EndFrame e s t) {f : HeldFrame} :
    State.EndFrame e s (t.takeFrame e f) := h.modSender.firstSend

theorem State.EndFrame.moveFrame (h : State.EndFrame e s t) : State.EndFrame e s (t.moveFrame e) :=
  (h.modEnd ((EndUnit.Keeps.refl _).withdraw.inner (Nat.le_refl _))).sendHeld

/-- What a change of the lines does to the sender. -/
theorem State.EndFrame.senderAfterLines (h : State.EndFrame e s t) :
    State.EndFrame e s (t.senderAfterLines e) := by
  unfold State.senderAfterLines
  dsimp only
  split
  · exact h.endFrame
  · split
    · split
      · exact h.endFrame
      · exact h.moveFrame
    · exact h

theorem State.EndFrame.startHold (h : State.EndFrame e s t) {x : LineId} :
    State.EndFrame e s (t.startHold e x) := h.modLine ⟨rfl, BitVec.le_refl _⟩

theorem State.EndFrame.holdFollows (h : State.EndFrame e s t) {hold : Option LineId} :
    State.EndFrame e s (t.holdFollows e hold) := by
  unfold State.holdFollows
  split
  · exact h.startHold
  · exact h

theorem State.EndFrame.queueReply (h : State.EndFrame e s t) {x : LineId} {r : WaitingReply} :
    State.EndFrame e s (t.queueReply e x r) := (h.modLine ⟨rfl, BitVec.le_refl _⟩).serve

theorem State.EndFrame.answer (h : State.EndFrame e s t) {x : LineId} {r : WaitingReply} :
    State.EndFrame e s (t.answer e x r) := by
  unfold State.answer
  split
  · exact h.queueReply
  · split
    · exact h.queueReply
    · exact h.holdFollows

/-- An answer earned by a new frame. -/
theorem State.EndFrame.earn (h : State.EndFrame e s t) {x : LineId} {r : WaitingReply} :
    State.EndFrame e s (t.earn e x r) := by
  unfold State.earn
  split
  · exact (h.modEnd ((EndUnit.Keeps.refl _).inner (Nat.le_refl _))).answer
  · exact h.answer

theorem State.EndFrame.restartSilence (h : State.EndFrame e s t) {x : LineId} :
    State.EndFrame e s (t.restartSilence e x) := h.modLine ⟨rfl, BitVec.le_refl _⟩

theorem State.EndFrame.countCheckError (h : State.EndFrame e s t) {x : LineId} :
    State.EndFrame e s (t.countCheckError e x) := h.modLine ⟨rfl, le_satInc _⟩

theorem State.EndFrame.endRun (h : State.EndFrame e s t) : State.EndFrame e s (t.endRun e) :=
  h.modLine ⟨rfl, BitVec.le_refl _⟩

/-- A matching HOLD. -/
theorem State.EndFrame.onHold (h : State.EndFrame e s t) : State.EndFrame e s (t.onHold e) := by
  have k := ((h.count (f := EndCounters.addHold)
    (fun c => by simp [EndCounters.addHold, EndCounters.NoneFell, satInc_le])).modEnd
    (f := fun u => { u.withdraw with sender := { u.withdraw.sender with
      holds := ((t.count e EndCounters.addHold).endUnit e).sender.holds + 1, sends := 0, waitsHold := false } })
    ((EndUnit.Keeps.refl _).withdraw.inner (Nat.le_refl _)))
  unfold State.onHold
  dsimp only
  split
  · exact k.endFrame
  · exact k.modSender

theorem State.EndFrame.endTransmission (h : State.EndFrame e s t) {x : LineId} :
    State.EndFrame e s (t.endTransmission e x) := by
  unfold State.endTransmission
  dsimp only
  split
  · exact h
  · exact (h.modLine ⟨rfl, BitVec.le_refl _⟩).holdFollows.serve

theorem State.EndFrame.sendOver (h : State.EndFrame e s t) : State.EndFrame e s (t.sendOver e) := by
  unfold State.sendOver
  dsimp only
  split
  · exact h.endTransmission
  · exact h

theorem State.EndFrame.holdEnded (h : State.EndFrame e s t) {x : LineId} :
    State.EndFrame e s (t.holdEnded e x) := by
  unfold State.holdEnded
  dsimp only
  split
  · exact (h.modLine ⟨rfl, BitVec.le_refl _⟩).sendHeld
  · exact (h.modLine ⟨rfl, BitVec.le_refl _⟩).serve

/-- The records of an end that departs, each lost or counted. -/
theorem State.EndFrame.departOne (h : State.EndFrame e s t) {d : DataRecord} :
    State.EndFrame e s (State.departOne e t d) := by
  unfold State.departOne
  split
  · exact h.count (fun c => by simp [EndCounters.addNoAnswer, EndCounters.NoneFell, satInc_le])
  · exact h.lose

theorem State.EndFrame.departAll (h : State.EndFrame e s t) (rs : List DataRecord) :
    State.EndFrame e s (rs.foldl (State.departOne e) t) := by
  induction rs generalizing t with
  | nil => exact h
  | cons d rs ih => exact ih h.departOne

theorem State.EndFrame.departurePurge (h : State.EndFrame e s t) : State.EndFrame e s (t.departurePurge e) := by
  unfold State.departurePurge
  exact (h.departAll _).modEnd (f := fun u => { u with queues := u.queues.clearClasses })
    ((EndUnit.Keeps.refl _).inner (Nat.le_refl _))

end Sys2Proof.Machine
end

