-- ==== Sys2Proof/Laws/EventFrame.lean ====
section
/-! SUPPORT. What an event at one end leaves as it was, where the end state is decided again and the engine may act:
operations of the end unit and of the engine, joined. -/

namespace Sys2Proof.Machine

open Sys2Proof

/-- All that an event at one end may change; the inputs stand, no counter falls, no notice is cleared, and no control
queue outgrows its capacity. -/
structure State.EventFrame (e : EndId) (s t : State) : Prop where
  frame : s.EndEventFrame e t
  inputs : ∀ d, (t.endUnit d).sense = (s.endUnit d).sense ∧ ∀ x, (t.line d x).carrier = (s.line d x).carrier
  counters : ∀ d, (s.endUnit d).counters.NoneFell (t.endUnit d).counters
  checkErrors : ∀ d x, (s.line d x).checkErrors ≤ (t.line d x).checkErrors
  room : ∀ d, (s.endUnit d).queues.control.length ≤ 4 → (t.endUnit d).queues.control.length ≤ 4
  marks : ∀ l, (s.lane l).notices &&& (t.lane l).notices = (s.lane l).notices
  fell : ∀ l, (s.lane l).NoneFell (t.lane l)

variable {e : EndId} {s t r : State}

theorem State.EventFrame.refl (e : EndId) (s : State) : s.EventFrame e s :=
  ⟨⟨.refl s, .refl _, fun _ => .refl _⟩, fun _ => ⟨rfl, fun _ => rfl⟩, fun _ => .refl _,
    fun _ _ => BitVec.le_refl _, fun _ => id, fun _ => BitVec.and_self, fun _ => .refl _⟩

theorem State.EventFrame.trans (h : State.EventFrame e s t) (k : State.EventFrame e t r) :
    State.EventFrame e s r where
  frame := ⟨h.frame.1.trans k.frame.1, h.frame.2.1.trans k.frame.2.1,
    fun l => (h.frame.2.2 l).trans (k.frame.2.2 l)⟩
  inputs d := ⟨(k.inputs d).1.trans (h.inputs d).1, fun x => ((k.inputs d).2 x).trans ((h.inputs d).2 x)⟩
  counters d := (h.counters d).trans (k.counters d)
  checkErrors d x := BitVec.le_trans (h.checkErrors d x) (k.checkErrors d x)
  room d := k.room d ∘ h.room d
  marks l := by rw [← h.marks l, BitVec.and_assoc, k.marks l]
  fell l := (h.fell l).trans (k.fell l)

/-- An operation of the end unit alone. -/
theorem State.EndFrame.event (h : State.EndFrame e s t) : State.EventFrame e s t where
  frame := ⟨h.rest, by rw [h.other]; exact .refl _, h.lanes⟩
  inputs d := by
    rcases EndId.eq_or_other e d with rfl | rfl
    · exact ⟨h.unit.sense, fun x => (h.unit.lines x).carrier⟩
    · simp [State.line, h.other]
  counters d := by
    rcases EndId.eq_or_other e d with rfl | rfl
    · exact h.unit.counters
    · rw [h.other]; exact .refl _
  checkErrors d x := by
    rcases EndId.eq_or_other e d with rfl | rfl
    · exact (h.unit.lines x).checkErrors
    · simp [State.line, h.other]
  room d := by
    rcases EndId.eq_or_other e d with rfl | rfl
    · exact fun k => Nat.le_trans h.unit.control k
    · rw [h.other]; exact id
  marks := h.marks
  fell := h.fell

/-- An operation of the engine alone. -/
theorem State.EngineFrame.event (h : s.EngineFrame t) (e : EndId) : State.EventFrame e s t where
  frame := ⟨h.rest, h.ends _, fun l => by
    unfold LanePort.SameButReports
    rw [h.lanes l]⟩
  inputs d := by
    have := h.ends d
    unfold EndUnit.SameButControl at this
    unfold State.line
    rw [this]
    exact ⟨rfl, fun x => by cases x <;> rfl⟩
  counters d := by
    have k := h.drops d
    have := h.ends d
    unfold EndUnit.SameButControl at this
    rw [this]
    simpa [EndCounters.NoneFell] using k
  checkErrors d x := by
    have := h.ends d
    unfold EndUnit.SameButControl at this
    unfold State.line
    rw [this]
    cases x <;> exact BitVec.le_refl _
  room := h.room
  marks := h.marks
  fell l := by
    rw [h.lanes l]
    simp [LanePort.NoneFell]

theorem State.EventFrame.then_end (h : State.EventFrame e s t) (k : State.EndFrame e t r) :
    State.EventFrame e s r := h.trans k.event

theorem State.EventFrame.then_engine (h : State.EventFrame e s t) (k : t.EngineFrame r) :
    State.EventFrame e s r := h.trans (k.event e)

/-! ## The end state and what follows it -/

/-- The end state alone. -/
theorem State.EventFrame.setState (h : State.EventFrame e s t) {st : EndState} :
    State.EventFrame e s (t.modEnd e (fun u => { u with state := st })) :=
  h.trans
    { frame := ⟨by cases e <;> exact ⟨rfl, rfl, rfl, rfl, rfl, rfl, rfl, rfl⟩, by cases e <;> rfl,
        fun l => by cases e <;> cases l <;> rfl⟩
      inputs := fun d => by cases e <;> cases d <;> exact ⟨rfl, fun x => by cases x <;> rfl⟩
      counters := fun d => by cases e <;> cases d <;> exact .refl _
      checkErrors := fun d x => by cases e <;> cases d <;> cases x <;> exact BitVec.le_refl _
      room := fun d => by cases e <;> cases d <;> exact id
      marks := fun l => by cases e <;> cases l <;> exact BitVec.and_self
      fell := fun l => by cases e <;> cases l <;> exact .refl _ }

theorem State.EventFrame.engineEndChange (h : State.EventFrame e s t) {old new : EndState} {tag : Bool} :
    State.EventFrame e s (t.engineEndChange old new tag) := by
  unfold State.engineEndChange
  split
  · exact h.then_engine (State.EngineFrame.refl t).topologyChange
  · split
    · exact h.then_engine (State.EngineFrame.refl t).actAlerted
    · exact h

/-- The end state decided again. -/
theorem State.EventFrame.decideEnd (h : State.EventFrame e s t) {tag : Bool} :
    State.EventFrame e s (t.decideEnd e tag) := by
  unfold State.decideEnd
  have raised : ∀ {r : State}, State.EventFrame e s r → State.EventFrame e s (r.raiseBoth .endChange) :=
    fun k => k.then_engine (State.EngineFrame.refl _).raiseBoth
  have purged : ∀ {r : State}, State.EventFrame e s r → State.EventFrame e s (r.departurePurge e) :=
    fun k => k.then_end (State.EndFrame.refl e _).departurePurge
  dsimp only
  split <;> split
  · exact (purged (raised h.setState)).engineEndChange
  · exact (purged h.setState).engineEndChange
  · exact (raised h.setState).engineEndChange
  · exact h.setState.engineEndChange

/-- What follows a change of an end's line states. -/
theorem State.EventFrame.afterLines (h : State.EventFrame e s t) : State.EventFrame e s (t.afterLines e) :=
  (h.then_end
    ((State.EndFrame.refl e t).modEnd
      (EndUnit.Keeps.refl _).abandonWithoutPartner.abandonWithoutPartner.forgetPeer).senderAfterLines).decideEnd

theorem State.EventFrame.lineSilent (h : State.EventFrame e s t) {x : LineId} :
    State.EventFrame e s (t.lineSilent e x) := by
  refine State.EventFrame.afterLines (h.then_end ((State.EndFrame.refl e t).modEnd ?_))
  split
  · exact (EndUnit.Keeps.refl _).enterTraining
  · exact (EndUnit.Keeps.refl _).enterDark

theorem State.EventFrame.takeBeacon (h : State.EventFrame e s t) {p : PeerId} :
    State.EventFrame e s (t.takeBeacon e p) :=
  (h.then_end ((State.EndFrame.refl e t).modEnd ((EndUnit.Keeps.refl _).inner (Nat.le_refl _)))).decideEnd

/-- The sends of the held frame exhausted on its line. -/
theorem State.EventFrame.sendsExhausted (h : State.EventFrame e s t) :
    State.EventFrame e s (t.sendsExhausted e) := by
  unfold State.sendsExhausted
  have counted : ∀ x k, State.EndFrame e t (t.modLine e x (fun n => { n with unanswered := k })) :=
    fun x k => (State.EndFrame.refl e t).modLine ⟨rfl, BitVec.le_refl _⟩
  dsimp only
  split <;> split
  · exact (h.then_end (counted _ _).moveFrame).lineSilent
  · exact (h.then_end (counted _ _).endFrame).lineSilent
  · exact h.then_end (counted _ _).moveFrame
  · exact h.then_end (counted _ _).endFrame

/-- The reply timeout. -/
theorem State.EventFrame.replyTimedOut (h : State.EventFrame e s t) :
    State.EventFrame e s (t.replyTimedOut e) := by
  have ended : State.EndFrame e t ((t.sendOver e).modSender e (fun n => { n with holds := 0 })) :=
    (State.EndFrame.refl e t).sendOver.modSender
  unfold State.replyTimedOut
  dsimp only
  split
  · exact h.then_end ended.sendHeld
  · exact (h.then_end ended).sendsExhausted

/-! ## Sweeps and recentres -/

theorem State.EventFrame.fullSweepEnded (h : State.EventFrame e s t) {x : LineId} {runs : List Nat} :
    State.EventFrame e s (t.fullSweepEnded e x runs) := by
  unfold State.fullSweepEnded
  dsimp only
  refine State.EventFrame.afterLines ?_
  have swept : ∀ map o w, State.EndFrame e t ((t.modEnd e (EndUnit.trainerDone map)).modLine e x
      (fun n => { n with record := n.record.swept o w })) := fun map o w =>
    ((State.EndFrame.refl e t).modEnd (EndUnit.Keeps.refl _).trainerDone).modLine ⟨rfl, BitVec.le_refl _⟩
  split
  · exact h.then_end (swept _ _ _).enterActive
  · unfold State.sweepFailed
    split
    · exact (h.then_end ((swept _ _ _).modLine ⟨rfl, BitVec.le_refl _⟩)).then_engine (State.EngineFrame.refl _).raiseBoth
    · exact h.then_end ((swept _ _ _).modLine ⟨rfl, BitVec.le_refl _⟩)

theorem State.EventFrame.recentreEnded (h : State.EventFrame e s t) {x : LineId} {runs : List Nat} :
    State.EventFrame e s (t.recentreEnded e x runs) := by
  unfold State.recentreEnded
  dsimp only
  have swept : ∀ map, State.EndFrame e t (t.modEnd e (EndUnit.trainerDone map)) := fun map =>
    (State.EndFrame.refl e t).modEnd (EndUnit.Keeps.refl _).trainerDone
  split
  · exact h.then_end ((swept _).modLine ⟨rfl, BitVec.le_refl _⟩)
  · exact (h.then_end (((swept _).modLine ⟨rfl, BitVec.le_refl _⟩).modEnd
      (EndUnit.Keeps.refl _).enterTraining)).afterLines

/-- A recentre of a line starts, or is abandoned at a full control queue. -/
theorem State.EventFrame.startRecentre (h : State.EventFrame e s t) {x : LineId} :
    State.EventFrame e s (t.startRecentre e x) := by
  have marked : State.EventFrame e s
      ((t.modLine e x (fun n => { n with recentre := .requested })).sendControl e (.patternRequest x true)) :=
    (h.then_end ((State.EndFrame.refl e t).modLine ⟨rfl, BitVec.le_refl _⟩)).then_engine
      (State.EngineFrame.refl _).sendControl
  unfold State.startRecentre
  dsimp only
  split
  · exact marked
  · exact marked.then_end ((State.EndFrame.refl e _).modEnd (EndUnit.Keeps.refl _).abandonRecentre)

end Sys2Proof.Machine
end

