-- ==== Sys2Proof/Laws/AfterLines.lean ====
section
/-! SUPPORT. What deciding an end state again, and what follows a change of an end's lines, do to the end itself, said
once: which parts they leave, and what they make of the rest. -/

namespace Sys2Proof.Machine

open Sys2Proof

variable {s t : State} {e : EndId} {x : LineId}

/-! ## The engine leaves an end but for its control queue -/

/-- Two states whose end `e` differs at most in the queues and the counters. -/
def State.SameUnit (e : EndId) (s t : State) : Prop :=
  (t.endUnit e).sense = (s.endUnit e).sense ∧ (∀ x, t.line e x = s.line e x) ∧
  (t.endUnit e).peer = (s.endUnit e).peer ∧ (t.endUnit e).trainer = (s.endUnit e).trainer ∧
  (t.endUnit e).sender = (s.endUnit e).sender ∧ (t.endUnit e).receiver = (s.endUnit e).receiver

theorem State.SameUnit.trans {r : State} (h : State.SameUnit e s t) (k : State.SameUnit e t r) :
    State.SameUnit e s r := by
  obtain ⟨a, b, c, d, f, g⟩ := h
  obtain ⟨a', b', c', d', f', g'⟩ := k
  exact ⟨a'.trans a, fun x => (b' x).trans (b x), c'.trans c, d'.trans d, f'.trans f, g'.trans g⟩

/-- The engine leaves an end's unit. -/
theorem State.EngineFrame.sameUnit (h : s.EngineFrame t) (e : EndId) : State.SameUnit e s t := by
  have := h.ends e
  unfold EndUnit.SameButControl at this
  unfold State.SameUnit State.line
  rw [this]
  exact ⟨rfl, fun x => by cases x <;> rfl, rfl, rfl, rfl, rfl⟩

/-- The engine leaves an end's state. -/
theorem State.EngineFrame.sameState (h : s.EngineFrame t) (e : EndId) :
    (t.endUnit e).state = (s.endUnit e).state := by
  have := h.ends e
  unfold EndUnit.SameButControl at this
  rw [this]

/-- What a departing end loses leaves its unit and its state. -/
theorem State.departurePurge_sameUnit (s : State) (e : EndId) :
    State.SameUnit e s (s.departurePurge e) ∧ ((s.departurePurge e).endUnit e).state = (s.endUnit e).state := by
  have step : ∀ (rs : List DataRecord) (t : State), State.SameUnit e t (rs.foldl (State.departOne e) t) ∧
      ((rs.foldl (State.departOne e) t).endUnit e).state = (t.endUnit e).state := by
    intro rs
    induction rs with
    | nil => exact fun t => ⟨⟨rfl, fun _ => rfl, rfl, rfl, rfl, rfl⟩, rfl⟩
    | cons d rs ih =>
      intro t
      have h := ih (State.departOne e t d)
      have k : State.SameUnit e t (State.departOne e t d) ∧
          ((State.departOne e t d).endUnit e).state = (t.endUnit e).state := by
        unfold State.departOne
        split
        · cases e <;> exact ⟨⟨rfl, fun x => by cases x <;> rfl, rfl, rfl, rfl, rfl⟩, rfl⟩
        · simp [State.SameUnit, State.line]
      exact ⟨k.1.trans h.1, h.2.trans k.2⟩
  have h := step (s.endUnit e).queues.classRecords s
  refine ⟨h.1.trans ?_, ?_⟩
  · unfold State.departurePurge
    cases e <;> exact ⟨rfl, fun x => by cases x <;> rfl, rfl, rfl, rfl, rfl⟩
  · rw [← h.2]
    unfold State.departurePurge
    cases e <;> rfl

/-- Deciding an end state again leaves all of the unit but its state, its queues and its counters, and gives it the
state of R83. -/
theorem State.decideEnd_unit (s : State) (e : EndId) (tag : Bool) :
    State.SameUnit e s (s.decideEnd e tag) ∧ ((s.decideEnd e tag).endUnit e).state = s.endStateOf e := by
  have h₁ : ∀ st, State.SameUnit e s (s.modEnd e (fun u => { u with state := st })) := fun st => by
    cases e <;> exact ⟨rfl, fun x => by cases x <;> rfl, rfl, rfl, rfl, rfl⟩
  have h₂ : ∀ (t : State) old new, State.SameUnit e t (t.engineEndChange old new tag) ∧
      ((t.engineEndChange old new tag).endUnit e).state = (t.endUnit e).state := by
    intro t old new
    have k : t.EngineFrame (t.engineEndChange old new tag) := by
      unfold State.engineEndChange
      split
      · exact (State.EngineFrame.refl t).topologyChange
      · split
        · exact (State.EngineFrame.refl t).actAlerted
        · exact .refl t
    exact ⟨k.sameUnit e, k.sameState e⟩
  have h₃ : ∀ t : State, State.SameUnit e t (t.raiseBoth .endChange) ∧
      ((t.raiseBoth .endChange).endUnit e).state = (t.endUnit e).state := fun t =>
    ⟨((State.EngineFrame.refl t).raiseBoth).sameUnit e, ((State.EngineFrame.refl t).raiseBoth).sameState e⟩
  unfold State.decideEnd
  dsimp only
  split <;> split
  · exact ⟨(h₁ _).trans ((h₃ _).1.trans ((State.departurePurge_sameUnit _ e).1.trans (h₂ _ _ _).1)), by
      rw [(h₂ _ _ _).2, (State.departurePurge_sameUnit _ e).2, (h₃ _).2]; simp⟩
  · exact ⟨(h₁ _).trans ((State.departurePurge_sameUnit _ e).1.trans (h₂ _ _ _).1), by
      rw [(h₂ _ _ _).2, (State.departurePurge_sameUnit _ e).2]; simp⟩
  · exact ⟨(h₁ _).trans ((h₃ _).1.trans (h₂ _ _ _).1), by rw [(h₂ _ _ _).2, (h₃ _).2]; simp⟩
  · exact ⟨(h₁ _).trans (h₂ _ _ _).1, by rw [(h₂ _ _ _).2]; simp⟩

/-! ## What follows a change of the lines -/

/-- A line that is neither ACTIVE nor recentring and has nothing in hand to send. -/
def LineUnit.Quiet (n : LineUnit) : Prop := n.state ≠ .active ∧ n.recentre = .none ∧ n.tx = Transmitter.idle

/-- A recentre given up leaves a quiet line. -/
theorem EndUnit.abandonRecentre_line (u : EndUnit) (x y : LineId) (h : (u.line y).recentre = .none) :
    (u.abandonRecentre x).line y = u.line y := by
  unfold EndUnit.abandonRecentre
  split
  · rfl
  · rename_i k
    rcases LineId.eq_or_partner x y with rfl | rfl
    · exact absurd h k
    · cases x <;> rfl

/-- What follows a change of the lines leaves a quiet line as it is. -/
theorem State.afterLines_quiet (s : State) (e : EndId) (y : LineId) (h : (s.line e y).Quiet) :
    (s.afterLines e).line e y = s.line e y := by
  obtain ⟨ha, hr, ht⟩ := h
  unfold State.afterLines
  rw [((State.decideEnd_unit _ e false).1).2.1 y]
  have h₁ : (((((s.endUnit e).abandonWithoutPartner .lineA).abandonWithoutPartner .lineB).forgetPeer).line y) =
      s.line e y := by
    have k : ∀ (u : EndUnit) x, (u.line y).recentre = .none → (u.abandonWithoutPartner x).line y = u.line y := by
      intro u x hu
      unfold EndUnit.abandonWithoutPartner
      split
      · exact u.abandonRecentre_line x y hu
      · rfl
    have kf : ∀ u : EndUnit, u.forgetPeer.line y = u.line y := by
      intro u
      unfold EndUnit.forgetPeer
      split
      · rfl
      · cases y <;> rfl
    rw [kf, k _ _ (by rw [k _ _ hr]; exact hr), k _ _ hr]
    rfl
  generalize hv : (((s.endUnit e).abandonWithoutPartner .lineA).abandonWithoutPartner .lineB).forgetPeer = v at h₁
  have hs : s.modEnd e (fun u => ((u.abandonWithoutPartner .lineA).abandonWithoutPartner .lineB).forgetPeer) =
      s.setEnd e v := by rw [← hv]; rfl
  rw [hs, ← h₁]
  have hw : v.withdraw.line y = v.line y := by
    have hi : ∀ n : LineUnit, n.tx = Transmitter.idle → { n with tx := { n.tx with frameDue := false } } = n := by
      rintro ⟨⟩ rfl
      rfl
    have k := hi (v.line y) (by rw [h₁]; exact ht)
    cases y <;> exact k
  have hend : ∀ o, o ≠ FrameOutcome.accept → ((s.setEnd e v).endFrame o e).line e y = v.line y := by
    intro o ho
    unfold State.endFrame
    split
    · simp [State.line]
    · rename_i f _
      have hm : ((((s.setEnd e v).modEnd e (fun u => (u.senderIdle o).reportRecentre o f)).count e
          o.count).line e y) = v.line y := by
        have hsi : (v.senderIdle o).line y = v.line y := by
          rw [← hw]
          cases y <;> rfl
        have : ((v.senderIdle o).reportRecentre o f).line y = v.line y := by
          unfold EndUnit.reportRecentre
          split
          · rw [if_neg ho, EndUnit.abandonRecentre_line _ _ _ (by rw [hsi, h₁]; exact hr), hsi]
          · exact hsi
        rw [← this]
        cases e <;> cases y <;> rfl
      dsimp only
      split
      · unfold State.loseHeld
        split
        · exact hm
        · unfold State.loseRecord
          split
          · exact hm
          · rw [← hm]
            simp [State.line]
      · exact hm
  unfold State.senderAfterLines
  dsimp only
  split
  · exact hend _ (by decide)
  · rename_i hany
    split
    · rename_i hsent
      split
      · exact hend _ (by decide)
      · simp only [State.endUnit_setEnd_self, Bool.and_eq_true, Bool.not_eq_true'] at hsent hany
        have hcur : v.sender.currentLine.partner ≠ y := by
          intro hy
          have hya : (v.line y).isActive = false := by
            rw [h₁]
            simp [LineUnit.isActive, ha]
          have hca := hsent.2
          rcases LineId.eq_or_partner y v.sender.currentLine with hc | hc
          · rw [hc] at hy
            exact absurd hy (LineId.partner_ne y)
          · rw [hc] at hca
            apply hany
            cases y <;> simp_all [EndUnit.anyActive, EndUnit.line, LineId.partner]
        have hcy : y = v.sender.currentLine := by
          rcases LineId.eq_or_partner v.sender.currentLine y with hc | hc
          · exact hc
          · exact absurd hc.symm hcur
        have keep : ∀ t : State, (t.endUnit e).sender.currentLine = y.partner →
            (t.sendHeld e).line e y = t.line e y := by
          intro t hc
          unfold State.sendHeld
          dsimp only
          split
          · cases e <;> cases y <;> rfl
          · unfold State.serve
            dsimp only
            rw [hc]
            split <;> cases e <;> cases y <;> rfl
        unfold State.moveFrame
        rw [keep]
        · rw [← hw]
          cases e <;> cases y <;> rfl
        · rw [hcy]
          simp [EndUnit.withdraw]
    · simp [State.line]

end Sys2Proof.Machine
end

