-- ==== Sys2Proof/Laws/Arrivals.lean ====
section
/-! SUPPORT. What an arriving frame meets before its own effect, said once: an inactive line, a failing frame check, a
repeat, a malformed body, and the answer a new frame earns; what a transmitter begins and what follows the end of a
transmission; and what a delivery does. -/

namespace Sys2Proof.Machine

open Sys2Proof

variable {s : State} {e : EndId} {x : LineId} {kind : Byte} {f : RawFrame}

/-! ## Transmitters -/

/-- A line that is not ACTIVE, in hold or transmitting begins nothing. -/
theorem State.serve_waits (h : (s.line e x).state ≠ .active ∨ (s.line e x).holdTimer.isSome = true ∨
    (s.line e x).tx.sending.isSome = true) : s.serve e x = s := by
  unfold State.serve
  rcases h with h | h | h
  · simp [LineUnit.isActive, h]
  · simp [LineUnit.inHold, Timer.running, h]
  · simp [Option.isSome_iff_ne_none] at h
    simp [h]

/-- A free ACTIVE line begins what waits for it. -/
theorem State.serve_begins (ha : (s.line e x).state = .active) (hh : (s.line e x).holdTimer = none)
    (ht : (s.line e x).tx.sending = none) : s.serve e x =
      s.modLine e x (fun n => { n with tx := n.tx.begin_ (s.beaconFrame e) (s.endUnit e).sender }) := by
  simp [State.serve, LineUnit.isActive, LineUnit.inHold, Timer.running, ha, hh, ht]

/-- A change of a line that makes nothing of it is none. -/
theorem State.modLine_same {g : LineUnit → LineUnit} (h : g (s.line e x) = s.line e x) : s.modLine e x g = s := by
  unfold State.modLine State.modEnd EndUnit.modLine
  simp [State.line] at h
  simp [h]

/-- Two changes of one line are one. -/
theorem State.modLine_modLine (g k : LineUnit → LineUnit) :
    (s.modLine e x g).modLine e x k = s.modLine e x (fun n => k (g n)) := by
  cases e <;> cases x <;> rfl

/-! ## Arrival -/

theorem State.arrive_inactive (valid : State → State) (h : (s.line e x).state ≠ .active) :
    s.arrive e x kind f valid = s := by
  simp [State.arrive, LineUnit.isActive, h]

theorem State.arrive_bad (valid : State → State) (h : (s.line e x).state = .active)
    (k : framePasses kind f = false) :
    s.arrive e x kind f valid = s.modLine e x (fun n => { n with checkErrors := satInc n.checkErrors }) := by
  simp [State.arrive, LineUnit.isActive, h, k, State.countCheckError]

theorem State.arrive_heard (valid : State → State) (h : s.Hears e x kind f) :
    s.arrive e x kind f valid = valid (s.restartSilence e x) := by
  simp [State.arrive, LineUnit.isActive, h.1, h.2]

/-- A reply queued on a free line leaves on it at once, and behind the frame that a line is sending it waits. -/
theorem State.queueReply_leaves (r : WaitingReply) (h : (s.line e x).state = .active)
    (k : (s.line e x).holdTimer = none) :
    ((s.line e x).tx = Transmitter.idle → s.queueReply e x r = s.modLine e x (fun n => { n with
      tx := { Transmitter.idle with sending := some (.reply r.bit r.answer), holdAfter := r.holdAfter } })) ∧
    ((s.line e x).tx.sending.isSome → s.queueReply e x r = s.modLine e x (fun n => { n with
      tx := { n.tx with replies := n.tx.replies ++ [r] } })) := by
  refine ⟨fun t => ?_, fun t => State.serve_waits (.inr (.inr (by simpa using t)))⟩
  unfold State.queueReply
  rw [State.serve_begins (by simpa using h) (by simpa using k) (by simp [t, Transmitter.idle]), State.modLine_modLine]
  cases e <;> cases x <;>
    simp_all [State.modLine, State.modEnd, State.setEnd, EndUnit.modLine, EndUnit.setLine, State.line,
      Transmitter.idle, Transmitter.begin_]

theorem State.canReply_iff : (s.line e x).canReply = true ↔
    (s.line e x).state = .active ∧ (s.line e x).holdTimer = none := by
  simp [LineUnit.canReply, LineUnit.isActive, LineUnit.inHold, Timer.running]

/-- All that an answer can do: it leaves as R104 has it. -/
theorem State.answer_replies {r : WaitingReply} {v : EndUnit} (h : (s.endUnit e).Replies x r v) :
    s.answer e x r = s.setEnd e v := by
  unfold State.answer
  have modLine_eq : ∀ {y : LineId} {g : LineUnit → LineUnit}, v = (s.endUnit e).modLine y g →
      s.modLine e y g = s.setEnd e v := fun hv => by rw [hv]; rfl
  rcases h with ⟨hx, hl⟩ | ⟨hx, hy, hl⟩ | ⟨hx, hy, hn, hv⟩
  · rw [if_pos (State.canReply_iff.2 hx)]
    have q := State.queueReply_leaves (s := s) (e := e) (x := x) r hx.1 hx.2
    rcases hl with ⟨ht, hv⟩ | ⟨ht, hv⟩
    · rw [q.1 ht, modLine_eq hv]
    · rw [q.2 ht, modLine_eq hv]
  · rw [if_neg (fun c => hx (State.canReply_iff.1 c)), if_pos (State.canReply_iff.2 hy)]
    have q := State.queueReply_leaves (s := s) (e := e) (x := x.partner) r hy.1 hy.2
    rcases hl with ⟨ht, hv⟩ | ⟨ht, hv⟩
    · rw [q.1 ht, modLine_eq hv]
    · rw [q.2 ht, modLine_eq hv]
  · rw [if_neg (fun c => hx (State.canReply_iff.1 c)), if_neg (fun c => hy (State.canReply_iff.1 c)), hn, hv]
    simp [State.holdFollows]

/-- An answer given on a free line leaves on it at once. -/
theorem State.answer_free (r : WaitingReply) (h : (s.line e x).state = .active) (k : (s.line e x).FreeToSend) :
    s.answer e x r = s.modLine e x (fun n => { n with
      tx := { Transmitter.idle with sending := some (.reply r.bit r.answer), holdAfter := r.holdAfter } }) := by
  rw [State.answer, if_pos (State.canReply_iff.2 ⟨h, k.1⟩), (State.queueReply_leaves r h k.1).1 k.2]

/-- A valid frame on a free line that earns ACCEPT. -/
theorem State.earn_accept_free (bit : Bool) (h : (s.line e x).state = .active) (k : (s.line e x).FreeToSend) :
    (s.restartSilence e x).earn e x (.plain bit .accept) = s.accepted e x bit := by
  have hl : ((s.restartSilence e x).line e x).FreeToSend := by
    simpa [State.restartSilence, LineUnit.FreeToSend] using k
  have ha : ((s.restartSilence e x).line e x).state = .active := by simpa [State.restartSilence] using h
  unfold State.earn
  simp only [Answer.final, WaitingReply.plain]
  rw [State.answer_free _ (by cases e <;> cases x <;> exact ha) (by cases e <;> cases x <;> exact hl)]
  cases e <;> cases x <;>
    simp [State.restartSilence, State.accepted, State.modLine, State.modEnd, State.setEnd, State.endUnit,
      EndUnit.modLine, EndUnit.setLine, EndUnit.line, LineUnit.replying, State.silenceTime, State.beaconPeriod,
      Transmitter.idle] <;>
    omega

/-- The receiver finds the frame new. -/
theorem State.takeAwaiting_new {β : Type} {decode : List Byte → Option β} {handle : β → State → State} {b : β}
    (h : (s.endUnit e).FindsNew f) (k : decode f.body = some b) : s.takeAwaiting e x f decode handle = handle b s := by
  unfold State.takeAwaiting
  dsimp only
  rw [k]
  cases hr : (s.endUnit e).receiver with
  | none => rfl
  | some r => simp [h r hr]

/-- A control frame of the engine that is whole, new and well formed, on a free line: answered ACCEPT, then the
engine's. -/
theorem State.controlArrives_new {β : Type} {decode : List Byte → Option β} {engine : β → State → State} {b : β}
    (h : s.Hears e x kind f) (free : (s.line e x).FreeToSend) (new : (s.endUnit e).FindsNew f)
    (k : decode f.body = some b) :
    s.controlArrives e x kind f decode engine = engine b (s.accepted e x (frameBit f)) := by
  unfold State.controlArrives
  rw [State.arrive_heard _ h, State.takeAwaiting_new (b := b) (by
    intro r hr
    exact new r (by simpa [State.restartSilence] using hr)) k, State.earn_accept_free _ h.1 free]

/-! ## Pattern holds and deliveries -/

/-- A line in pattern hold sends training pattern and no frame (R66). -/
theorem State.lineOutput_held (h : (s.line e x).holdTimer.isSome) :
    s.lineOutput e x = if s.bypass.state = .off then .pattern else .silent := by
  by_cases hb : s.bypass.state = .off <;>
    simp [State.lineOutput, LineUnit.output, LineUnit.inHold, Timer.running, h, hb]

/-- All that the end of a transmission can do: a hold that follows it begins, and what waits for the line begins. -/
theorem State.endTransmission_sent (h : (s.line e x).tx.sending.isSome) :
    (∀ y, (s.line e x).tx.holdAfter = some y → s.endTransmission e x =
      State.serve ((s.modLine e x (fun n => { n with tx := n.tx.cut })).startHold e y) e x) ∧
    ((s.line e x).tx.holdAfter = none → s.endTransmission e x =
      State.serve (s.modLine e x (fun n => { n with tx := n.tx.cut })) e x) := by
  have hn : (s.line e x).tx.sending.isNone = false := by
    cases hs : (s.line e x).tx.sending <;> simp_all
  unfold State.endTransmission
  dsimp only
  constructor <;> intros <;> rw [if_neg (by simp [hn])] <;> simp_all [State.holdFollows]

/-- The oldest entry of another class is the one displaced. -/
theorem dropOldestOther_append {before after : List ReceiveEntry} {old : ReceiveEntry}
    (h : ∀ n ∈ before, n.cls = .command) (k : old.cls ≠ .command) :
    dropOldestOther (before ++ old :: after) = before ++ after := by
  induction before with
  | nil => simp [dropOldestOther, ReceiveEntry.isCommand, k]
  | cons b bs ih =>
    have hb : b.cls = .command := h b (by simp)
    simp [dropOldestOther, ReceiveEntry.isCommand, hb, ih (fun n hn => h n (by simp [hn]))]

/-- An entry arrives at a lane in the one way its queue allows. -/
theorem LanePort.takes_deliver {p q : LanePort} {r : ReceiveEntry} (h : p.Takes r q) : p.deliver r = q := by
  rcases h with ⟨ha, rfl⟩ | ⟨ha, hf, rfl⟩ | ⟨ha, hf, hc, b, o, c, hq, hb, ho, rfl⟩ | ⟨ha, hf, hc, rfl⟩
  · simp [LanePort.deliver, ha]
  · simp [LanePort.deliver, ha, LanePort.receive, Config.receiveCapacity, Nat.lt_of_not_le hf]
  · have hall : p.receiveQueue.all ReceiveEntry.isCommand = false := by
      simp [hq, ReceiveEntry.isCommand, ho]
    simp only [LanePort.deliver, ha, if_true, LanePort.receive, Config.receiveCapacity, Nat.not_lt.2 hf, if_false]
    rw [if_pos (by simp [hall, ReceiveEntry.isCommand, hc]), hq, dropOldestOther_append hb ho]
  · simp only [LanePort.deliver, ha, if_true, LanePort.receive, Config.receiveCapacity, Nat.not_lt.2 hf, if_false]
    rw [if_neg]
    simp only [Bool.and_eq_true, Bool.not_eq_true', not_and]
    intro hr hall
    rcases hc with hc | hc
    · exact hc (by simpa [ReceiveEntry.isCommand] using hr)
    · refine hc ?_
      simpa [List.all_eq_false, ReceiveEntry.isCommand] using hall

/-- The oldest entry of another class splits the queue it stands in. -/
theorem exists_oldest_other {queue : List ReceiveEntry} (h : ∃ n ∈ queue, n.cls ≠ .command) :
    ∃ before old after,
      queue = before ++ old :: after ∧ (∀ n ∈ before, n.cls = .command) ∧ old.cls ≠ .command := by
  induction queue with
  | nil => simp at h
  | cons r rest ih =>
    by_cases hr : r.cls = .command
    · obtain ⟨b, o, a, rfl, hb, ho⟩ := ih (by simpa [hr] using h)
      exact ⟨r :: b, o, a, rfl, by simpa [hr] using hb, ho⟩
    · exact ⟨[], r, rest, rfl, by simp, hr⟩

/-- Some way of arriving is open to every entry. -/
theorem LanePort.exists_takes (r : ReceiveEntry) (p : LanePort) : ∃ q, p.Takes r q := by
  by_cases ha : p.attached = true
  · by_cases hf : 16 ≤ p.receiveQueue.length
    · by_cases hc : r.cls = .command ∧ ∃ n ∈ p.receiveQueue, n.cls ≠ .command
      · obtain ⟨b, o, a, hq, hb, ho⟩ := exists_oldest_other hc.2
        exact ⟨_, .inr (.inr (.inl ⟨ha, hf, hc.1, b, o, a, hq, hb, ho, rfl⟩))⟩
      · exact ⟨_, .inr (.inr (.inr ⟨ha, hf, not_and_or.1 hc, rfl⟩))⟩
    · exact ⟨_, .inr (.inl ⟨ha, hf, rfl⟩)⟩
  · exact ⟨_, .inl ⟨by simpa using ha, rfl⟩⟩

/-- Every entry is delivered in some way. -/
theorem State.exists_delivers (r : ReceiveEntry) (s : State) : ∃ t, s.Delivers r t := by
  obtain ⟨p, hp⟩ := s.laneA.exists_takes r
  obtain ⟨q, hq⟩ := s.laneB.exists_takes r
  exact ⟨_, p, q, hp, hq, rfl⟩

/-- All that a delivery can do. -/
theorem State.delivers_deliver {r : ReceiveEntry} {t : State} (h : s.Delivers r t) : s.deliver r = t := by
  obtain ⟨p, q, hp, hq, rfl⟩ := h
  have hp := LanePort.takes_deliver hp
  have hq := LanePort.takes_deliver hq
  cases ha : s.laneA.attached <;> cases hb : s.laneB.attached
  all_goals
    first
    | (simp only [LanePort.deliver, ha, hb] at hp hq
       simp_all [State.deliver, State.anyAttached, State.modLane, State.setLane, State.lane, LanePort.deliver])

/-! ## What the node shows after an ACCEPT -/

@[simp] theorem State.accepted_engine (bit : Bool) : (s.accepted e x bit).engine = s.engine := by cases e <;> rfl
@[simp] theorem State.accepted_directory (bit : Bool) : (s.accepted e x bit).directory = s.directory := by
  cases e <;> rfl
@[simp] theorem State.accepted_candidate (bit : Bool) : (s.accepted e x bit).candidate = s.candidate := by
  cases e <;> rfl
@[simp] theorem State.accepted_store (bit : Bool) : (s.accepted e x bit).store = s.store := by cases e <;> rfl
@[simp] theorem State.accepted_bypass (bit : Bool) : (s.accepted e x bit).bypass = s.bypass := by cases e <;> rfl
@[simp] theorem State.accepted_lane (bit : Bool) (l : LaneId) : (s.accepted e x bit).lane l = s.lane l := by
  cases e <;> cases l <;> rfl
@[simp] theorem State.accepted_ownTag (bit : Bool) : (s.accepted e x bit).ownTag = s.ownTag := by cases e <;> rfl
@[simp] theorem State.accepted_identified (bit : Bool) (d : EndId) :
    (s.accepted e x bit).identified d = s.identified d := by cases e <;> cases d <;> cases x <;> rfl
@[simp] theorem State.accepted_inhibited (bit : Bool) : (s.accepted e x bit).inhibited = s.inhibited := by
  cases e <;> rfl
@[simp] theorem State.accepted_other (bit : Bool) : (s.accepted e x bit).endUnit e.other = s.endUnit e.other := by
  cases e <;> rfl
@[simp] theorem State.accepted_queues (bit : Bool) (d : EndId) :
    ((s.accepted e x bit).endUnit d).queues = (s.endUnit d).queues := by cases e <;> cases d <;> cases x <;> rfl

/-! ## Control frames placed -/

/-- A control frame placed where there is room. -/
theorem State.sendControl_room {g : ControlFrame} (h : (s.endUnit e).ControlRoom) :
    s.sendControl e g = s.modEnd e (EndUnit.withControl g) := by
  unfold State.sendControl
  rw [if_pos (by simpa [EndUnit.ControlRoom, Config.controlCapacity] using h)]
  rfl

/-- A control frame dropped and counted at a full control queue. -/
theorem State.sendControl_full {g : ControlFrame} (h : ¬ (s.endUnit e).ControlRoom) :
    s.sendControl e g = s.count e EndCounters.addControlDrop := by
  unfold State.sendControl
  rw [if_neg (by simpa [EndUnit.ControlRoom, Config.controlCapacity] using h)]

end Sys2Proof.Machine
end

