-- ==== Sys2Proof/Laws/Lists.lean ====
section
/-! SUPPORT. Lists of entries and the records formed from them: what the store check decides, and that a stored
candidate and a committed record are sound. -/

namespace Sys2Proof.Machine

open Sys2Proof

variable {own : Tag} {ns : List ListedEntry}

/-- A list is stored exactly when it is sound (R9). -/
theorem storeCheck_stored : storeCheck own ns = .stored ↔ ListSound own (ns.map ListedEntry.entry) := by
  have hd : duplicateTags ns = false ↔ ((ns.map ListedEntry.entry).map Entry.tag).Nodup := by
    simp only [duplicateTags, Bool.not_eq_false', decide_eq_true_eq, List.map_map]
    rfl
  have hf : formHolds own ns = true ↔ 1 ≤ ns.length ∧ ns.length ≤ 24 ∧
      (ns.map ListedEntry.entry).map Entry.position = (List.range ns.length).map (· + 1) ∧
      (∀ n ∈ ns.map ListedEntry.entry, n.tag ≠ 0) ∧
      (∀ n ∈ ns.map ListedEntry.entry, n.kind = .intermediate → n.claim = false) ∧
      (∃ n ∈ ns.map ListedEntry.entry, n.tag = own) := by
    simp only [formHolds, Bool.and_eq_true, decide_eq_true_eq, List.all_eq_true, List.any_eq_true, List.map_map,
      List.mem_map, Function.comp_def]
    simp only [Config.maxConsist]
    constructor
    · rintro ⟨⟨⟨⟨⟨a, b⟩, c⟩, d⟩, e⟩, ⟨n, hn, ho⟩⟩
      refine ⟨a, b, c, ?_, ?_, ⟨n.entry, ⟨n, hn, rfl⟩, by simpa using ho⟩⟩
      · rintro _ ⟨m, hm, rfl⟩
        simpa using d m hm
      · rintro _ ⟨m, hm, rfl⟩ hk
        simpa [hk] using e m hm
    · rintro ⟨a, b, c, d, e, ⟨_, ⟨n, hn, rfl⟩, ho⟩⟩
      refine ⟨⟨⟨⟨⟨a, b⟩, c⟩, fun m hm => ?_⟩, fun m hm => ?_⟩, ⟨n, hn, by simpa using ho⟩⟩
      · simpa using d m.entry ⟨m, hm, rfl⟩
      · have := e m.entry ⟨m, hm, rfl⟩
        cases hk : m.entry.kind <;> simp [hk] at this ⊢
        exact this
  unfold storeCheck ListSound
  rw [List.length_map, ← hd]
  cases h : formHolds own ns <;> cases k : duplicateTags ns <;> simp [h] at hf ⊢ <;> tauto

/-- The positions of a sound list are 1..N, one each. -/
theorem ListSound.position_inj {es : List Entry} (h : ListSound own es) {a b : Entry} (ha : a ∈ es) (hb : b ∈ es)
    (hp : a.position = b.position) : a = b := by
  have hn : (es.map Entry.position).Nodup := by
    rw [h.2.2.1]
    exact List.Nodup.map (fun a b k => by simpa using k) List.nodup_range
  exact List.inj_on_of_nodup_map hn ha hb hp

/-- The tags of a sound list are its entries' own. -/
theorem ListSound.tag_inj {es : List Entry} (h : ListSound own es) {a b : Entry} (ha : a ∈ es) (hb : b ∈ es)
    (ht : a.tag = b.tag) : a = b := List.inj_on_of_nodup_map h.2.2.2.1 ha hb ht

/-- A position of a sound list lies in 1..N. -/
theorem ListSound.position_range {es : List Entry} (h : ListSound own es) {a : Entry} (ha : a ∈ es) :
    1 ≤ a.position ∧ a.position ≤ es.length := by
  have : a.position ∈ (List.range es.length).map (· + 1) := by
    rw [← h.2.2.1]
    exact List.mem_map_of_mem ha
  obtain ⟨i, hi, he⟩ := List.mem_map.1 this
  have := List.mem_range.1 hi
  omega

/-- Every position 1..N of a sound list has its entry. -/
theorem ListSound.exists_position {es : List Entry} (h : ListSound own es) {k : Nat} (h1 : 1 ≤ k)
    (h2 : k ≤ es.length) : ∃ n ∈ es, n.position = k := by
  have : k ∈ es.map Entry.position := by
    rw [h.2.2.1]
    exact List.mem_map.2 ⟨k - 1, List.mem_range.2 (by omega), by omega⟩
  obtain ⟨n, hn, rfl⟩ := List.mem_map.1 this
  exact ⟨n, hn, rfl⟩

/-- The own entry found in a sound list is the one that carries the own tag. -/
theorem positionOf_eq (h : ListSound own (ns.map ListedEntry.entry)) {n : ListedEntry} (hn : n ∈ ns)
    (ht : n.entry.tag = own) : positionOf own ns = n.entry.position := by
  unfold positionOf
  cases hf : ns.find? (fun n => n.entry.tag == own) with
  | none => simpa [ht] using List.find?_eq_none.1 hf n hn
  | some m =>
    have hm : m.entry.tag = own := by simpa using List.find?_some hf
    have := h.tag_inj (List.mem_map_of_mem (List.mem_of_find?_eq_some hf)) (List.mem_map_of_mem hn)
      (hm.trans ht.symm)
    simp [this]

/-- A stored candidate is sound (R8, R9). -/
theorem candidateOf_sound (h : ListSound own (ns.map ListedEntry.entry)) (a : AttemptId) :
    (candidateOf own a ns).Sound own := by
  obtain ⟨n, hn, ht⟩ := h.2.2.2.2.2.2
  obtain ⟨m, hm, rfl⟩ := List.mem_map.1 hn
  exact ⟨h, rfl, m, hm, ht, positionOf_eq h hm ht⟩

/-- The record of a committed sound list is sound under a nonzero generation (R4, R5, R11). -/
theorem recordOf_sound (h : ListSound own (ns.map ListedEntry.entry)) {g : Word} (hg : g ≠ 0) :
    (recordOf own ns (crc16 ((ns.map ListedEntry.entry).flatMap Entry.bytes)) g).Sound own := by
  have own_entry := h.2.2.2.2.2.2
  refine ⟨hg, h, ?_, ?_, rfl, ?_⟩
  · obtain ⟨n, hn, ht⟩ := own_entry
    refine ⟨n, hn, ht, ?_⟩
    unfold recordOf
    dsimp only
    cases hf : (ns.map ListedEntry.entry).find? (fun n => n.tag == own) with
    | none => simpa [ht] using List.find?_eq_none.1 hf n hn
    | some m =>
      have hm : m.tag = own := by simpa using List.find?_some hf
      have := h.tag_inj (List.mem_of_find?_eq_some hf) hn (hm.trans ht.symm)
      simp [this]
  · intro n hn hp
    unfold recordOf
    dsimp only at hn ⊢
    have hpos := h.2.2.1
    cases hl : ns.map ListedEntry.entry with
    | nil => rw [recordOf] at hn; simp [hl] at hn
    | cons m rest =>
      have hm : m.position = 1 := by
        rw [hl] at hpos
        simp [List.range_succ_eq_map] at hpos
        exact hpos.1
      have := h.position_inj (a := m) (b := n) (by simp [hl]) hn (hm.trans hp.symm)
      simp [this]
  · simp [recordOf, claimConflictOf]

end Sys2Proof.Machine
end

