-- ==== Sys2Proof/Laws/Losses.lean ====
section
/-! SUPPORT. What the lanes lose, said once: a loss of one reason, many of them, and all that a departing end loses. -/

namespace Sys2Proof.Machine

open Sys2Proof

/-- What a departing end loses: a loss LINK-DOWN of its lane, as `State.departed` counts it. -/
abbrev LossCounters.addLinkDown (c : LossCounters) : LossCounters := { c with linkDown := satInc c.linkDown }

@[simp] theorem LanePort.charged_zero (f : LossCounters → LossCounters) (p : LanePort) : p.charged 0 f = p := rfl

/-- A loss counts once for its reason and raises SEND-LOSS (R140). -/
theorem LanePort.lose_eq_charged (r : LossReason) (p : LanePort) :
    p.lose r = p.charged 1 (fun c => c.count r) := by
  simp [LanePort.lose, LanePort.charged, LanePort.raise]

/-- Losses of one reason add up. -/
theorem LanePort.charged_charged (f : LossCounters → LossCounters) (j k : Nat) (p : LanePort) :
    (p.charged j f).charged k f = p.charged (k + j) f := by
  by_cases hj : j = 0 <;> by_cases hk : k = 0 <;>
    simp [LanePort.charged, hj, hk, Function.iterate_add_apply, BitVec.or_assoc]

/-- The losses of some records of a departing end. -/
def State.departs (e : EndId) (rs : List DataRecord) (s : State) : State :=
  State.modEnd { s with
    laneA := s.laneA.charged (rs.countP (DataRecord.isOf .laneA)) LossCounters.addLinkDown
    laneB := s.laneB.charged (rs.countP (DataRecord.isOf .laneB)) LossCounters.addLinkDown } e (fun u =>
    { u with counters := { u.counters with
        noAnswer := Nat.iterate satInc (rs.countP DataRecord.isThrough) u.counters.noAnswer } })

theorem State.departOne_departs (e : EndId) (rs : List DataRecord) (r : DataRecord) (s : State) :
    State.departs e rs (State.departOne e s r) = State.departs e (r :: rs) s := by
  unfold State.departOne
  split
  · rename_i h
    cases e <;> simp [State.departs, State.count, DataRecord.isOf, DataRecord.isThrough, h, State.modEnd,
      State.setEnd, EndCounters.addNoAnswer]
  · rename_i l _ _ h
    cases e <;> cases l <;> simp [State.departs, State.lose, DataRecord.isOf, DataRecord.isThrough, h, State.modEnd,
      State.setEnd, State.modLane, State.setLane, State.lane, LanePort.lose_eq_charged, LossCounters.count,
      LanePort.charged_charged]

/-- All that a departing end loses, record by record. -/
theorem State.foldl_departOne (e : EndId) (rs : List DataRecord) (s : State) :
    rs.foldl (State.departOne e) s = State.departs e rs s := by
  induction rs generalizing s with
  | nil => cases e <;> rfl
  | cons r rs ih => rw [List.foldl_cons, ih, State.departOne_departs]

/-- All that the departure purge does (R138). -/
theorem State.departurePurge_eq (s : State) (e : EndId) : s.departurePurge e = s.departed e := by
  unfold State.departurePurge
  rw [State.foldl_departOne]
  cases e <;> rfl

end Sys2Proof.Machine
end

