-- ==== Sys2Proof/Laws/Requests.lean ====
section
/-! SUPPORT. The handling of a request, said once: what a command does with the request of its kind that stands PENDING,
at an attached lane and a detached one, and with a slot that holds no such request. -/

namespace Sys2Proof.Machine

open Sys2Proof

variable {s : State} {l : LaneId} {code : Byte} {body : List Byte} {f : List Byte → Reply × State}

/-- The request of the command's kind is handled, and its reply stands READY. -/
theorem State.handle_pending (h : (s.lane l).slot = .pending code body) :
    s.handle l code f = (f body).2.reply l (f body).1 := by
  simp [State.handle, State.handleKind, h]

/-- A slot that holds no request of the command's kind is left. -/
theorem State.handle_other (h : ∀ b, (s.lane l).slot ≠ .pending code b) : s.handle l code f = s := by
  unfold State.handle State.handleKind
  split
  · rename_i kind b hs
    by_cases hk : kind = code
    · exact absurd (hk ▸ hs) (h b)
    · simp [hk]
  · rfl
  · rfl

/-- A request of an attached lane is handled as any. -/
theorem State.handleAttached_attached (h : (s.lane l).slot = .pending code body)
    (ha : (s.lane l).attached = true) : s.handleAttached l code f = (f body).2.reply l (f body).1 := by
  simp [State.handleAttached, State.handle_pending h, ha]

/-- A request that a detached lane may not make is answered DETACHED, whatever its body. -/
theorem State.handleAttached_detached (h : (s.lane l).slot = .pending code body)
    (ha : (s.lane l).attached = false) : s.handleAttached l code f = s.reply l (Reply.bare .detached) := by
  simp [State.handleAttached, State.handle_pending h, ha]

/-- A body that fails its form is answered BAD-REQUEST. -/
theorem withBody_none {β : Type} {decode : List Byte → Option β} {g : β → Reply × State}
    (h : decode body = none) : withBody s decode g body = (Reply.bare .badRequest, s) := by
  simp [withBody, h]

/-- A body in form is handled with what it names. -/
theorem withBody_some {β : Type} {decode : List Byte → Option β} {g : β → Reply × State} {b : β}
    (h : decode body = some b) : withBody s decode g body = g b := by
  simp [withBody, h]

end Sys2Proof.Machine
end

