-- ==== Sys2Proof/Tests/Slice0.lean ====
section
/-! SUPPORT. Tests. The first half checks the model against values that spec/ writes out: each test names its source.
The second half shows, for each statement with hypotheses, concrete states and operands that meet them, clause by
clause. -/

namespace Sys2Proof.Tests

open Sys2Proof Sys2Proof.Machine

set_option Elab.async false

/-! ## Which commands are well-formed (each check refuses an ill-formed term) -/

/-- A raw frame with a two-byte body. -/
def twoBytes (length : Byte) (check : Option Word) : RawFrame :=
  { flags := 0, length := length, body := [1, 2], check := check }

theorem test_short_sweep_refused :
    (Instr.fullSweepEnd .end1 (List.replicate 63 40)).wellFormed = false ∧
    (Instr.fullSweepEnd .end1 (List.replicate 64 40)).wellFormed = true := by decide

theorem test_long_recentre_sweep_refused :
    (Instr.recentreSweepEnd .end2 (List.replicate 65 40)).wellFormed = false ∧
    (Instr.recentreSweepEnd .end2 (List.replicate 64 40)).wellFormed = true := by decide

theorem test_known_kind_refused_as_unknown :
    (Instr.unknownFrameKind .end1 .lineA 0x20 (twoBytes 2 (some 7))).wellFormed = false ∧
    (Instr.unknownFrameKind .end1 .lineA 0x21 (twoBytes 2 (some 7))).wellFormed = true := by decide

theorem test_body_beyond_length_refused :
    (Instr.data .end1 .lineA (twoBytes 1 none)).wellFormed = false ∧
    (Instr.data .end1 .lineA (twoBytes 2 none)).wellFormed = true := by decide

theorem test_check_behind_short_body_refused :
    (Instr.beacon .end1 .lineA (twoBytes 3 (some 7))).wellFormed = false ∧
    (Instr.beacon .end1 .lineA (twoBytes 3 none)).wellFormed = true := by decide

/-! ## Check values, entries, generations (chapters 1, 2 and 11) -/

/-- R5 names the check value of the bytes of "123456789": 29B1H. -/
theorem test_crc_check_value : crc16 [0x31, 0x32, 0x33, 0x34, 0x35, 0x36, 0x37, 0x38, 0x39] = 0x29B1 := by
  decide +kernel

/-- A car of the train of 6.2. -/
def car (position : Nat) (tag : Tag) (orientation : Orientation) (unit : Nat) (kind : CarKind) (claim : Bool) :
    Entry :=
  { position := position, tag := tag, orientation := orientation, unit := unit, kind := kind, claim := claim }

/-- The eight cars of the joined train of 6.2. -/
def train : List Entry :=
  [car 1 4101 .direct 11 .cab true, car 2 4102 .direct 11 .intermediate false,
   car 3 4103 .direct 11 .intermediate false, car 4 4104 .direct 11 .cab false,
   car 5 5204 .reversed 12 .cab false, car 6 5203 .reversed 12 .intermediate false,
   car 7 5202 .reversed 12 .intermediate false, car 8 5201 .reversed 12 .cab false]

/-- The example entries of 11.2, written out byte by byte. -/
theorem test_entry_bytes :
    (car 1 4101 .direct 11 .cab true).bytes = [0x01, 0x00, 0x00, 0x10, 0x05, 0x00, 0x0B, 0x03] ∧
    (car 6 5203 .reversed 12 .intermediate false).bytes =
      [0x06, 0x00, 0x00, 0x14, 0x53, 0x01, 0x0C, 0x00] := by decide +kernel

/-- The table of new generations under R38. -/
theorem test_new_generations :
    newGeneration [37, 37, 37, 37, 52, 52, 52, 52] = 53 ∧ newGeneration [53, 53, 53, 53] = 54 ∧
    newGeneration [0, 0, 0] = 1 ∧ newGeneration [41, 0, 17] = 42 ∧ newGeneration [65535, 20, 20] = 1 ∧
    newGeneration [65535, 1, 2, 5] = 3 ∧ newGeneration [65535, 65535, 1] = 2 := by decide +kernel

/-! ## Training and recentre (4.3, 4.4) -/

/-- What a sweep saw when exactly the steps of some ranges passed: a run of 32 there and of 31 elsewhere (R75). -/
def passing (ranges : List (Nat × Nat)) : List Nat :=
  (List.range 64).map (fun k => if ranges.any (fun r => r.1 ≤ k && k ≤ r.2) then 32 else 31)

/-- The full sweep of some steps with an offset and the window width 12. -/
def sweep (ranges : List (Nat × Nat)) (subtract : Bool) (magnitude : Nat) : SweepOutcome × Option Window :=
  fullSweepResult 12 { subtract := subtract, magnitude := magnitude } (sweepMap (passing ranges) 0 63)

/-- A window written out. -/
def window (low high width phase margin : Nat) : Window :=
  { low := low, high := high, width := width, phase := phase, margin := margin }

/-- The six cases of the table of 4.3. -/
theorem test_training_cases :
    sweep [(17, 44)] false 3 = (.pass, some (window 17 44 28 33 11)) ∧
    sweep [(0, 9), (50, 63)] true 3 = (.pass, some (window 50 63 14 53 3)) ∧
    sweep [(58, 63)] false 15 = (.narrow, none) ∧
    sweep [(20, 33)] false 15 = (.pass, some (window 20 33 14 33 0)) ∧
    sweep [(5, 16), (40, 51)] false 0 = (.pass, some (window 5 16 12 10 5)) ∧
    sweep [(17, 44)] true 15 = (.pass, some (window 17 44 28 17 0)) ∧
    sweep [] false 0 = (.noPass, none) := by decide +kernel

/-- The worked recentre of 4.4: phase 33, ADD 3, the steps 29..41 of 25..41 passing. -/
theorem test_recentre_case :
    recentreResult 12 { subtract := false, magnitude := 3 } (sweepMap (passing [(29, 50)]) 25 41) 33 =
      some (window 29 41 13 35 6) := by decide +kernel

/-! ## Resolution (6.2, 6.3) -/

/-- The active record of car 5203 in the train of 6.2, generation 53. -/
def record : Directory :=
  { generation := 53, entries := train, referenceTag := 4101, ownPosition := some 6,
    ownOrientation := some .reversed, check := crc16 (train.flatMap Entry.bytes), claimConflict := false }

/-- The table of 6.2, seen from car 5203 at position 6, REVERSED. -/
theorem test_resolution_table :
    record.resolve (.offset 2) = .resolved 4 .end2 2 ∧ record.resolve (.offset (-2)) = .resolved 8 .end1 2 ∧
    record.resolve (.offset 6) = .outOfConsist ∧ record.resolve (.offset (-23)) = .outOfConsist ∧
    record.resolve (.offset 0) = .loopback ∧ record.resolve (.position 1) = .resolved 1 .end2 5 ∧
    record.resolve (.position 9) = .outOfConsist ∧ record.resolve (.tag 4101) = .resolved 1 .end2 5 ∧
    record.resolve (.tag 5203) = .loopback ∧ record.resolve (.tag 7777) = .unknownTag := by decide +kernel

/-- The copies of a broadcast from car 5203 (6.3). -/
theorem test_broadcast_copies : record.upCopy = some (.end1, 2) ∧ record.downCopy = some (.end2, 5) := by
  decide +kernel

/-! ## A node in service -/

/-- A carrier, an ACTIVE line trained as case 1 of 4.3. -/
def activeLine : LineUnit :=
  { LineUnit.reset true with
    state := .active, silenceTimer := some 40000, beaconTimer := some 10000
    record := { TrainingRecord.reset with
      cause := .settle, sweeps := 1, lastSweep := .pass, window := some (window 17 44 28 33 11) } }

/-- An ADMITTED end with both lines ACTIVE. -/
def admittedEnd (tag : Tag) (peerEnd : EndId) : EndUnit :=
  { EndUnit.reset true true true with
    lineA := activeLine, lineB := activeLine, state := .admitted
    peer := some { tag := tag, peerEnd := peerEnd, generation := 53, quiet := true } }

/-- Car 5203 in the train of 6.2: bypass OFF, default settings, both ends ADMITTED, lane A attached. -/
def node : State :=
  { State.reset with
    directory := record
    end1 := admittedEnd 5202 .end2, end2 := admittedEnd 5204 .end1
    laneA := { LanePort.reset false with attached := true }
    bypass := { state := .off, transition := none, startUpComplete := true, latched := .none,
                scrubTimer := some 100000 }
    store := (Store.reset .unsound { tag := 5203, checkPasses := true } false .powerOn).afterLoad }

/-- What a command leaves, read by a test; false where it does not answer a next state. -/
def after (c : Instr) (s : State) (read : State → Bool) : Bool :=
  match exec c s with
  | .next t => read t
  | .fault _ => false
  | .refused _ => false

/-- The node with a request PENDING in lane A's slot. -/
def asking (kind : Byte) (body : List Byte) (s : State) : State :=
  s.modLane .laneA (fun p => { p with slot := .pending kind body })

/-- The reply that stands READY in lane A's slot. -/
def repliedA (s : State) (result : ResultCode) (body : List Byte) : Bool :=
  s.laneA.slot == .ready { result := result, body := body }

/-- The node with another state of its engine, nothing held. -/
def engineIn (st : EngineState) (c : Option AttemptContext) (s : State) : State :=
  { s with engine := { s.engine with
      state := st, context := c, deadline := if st.inProgress then some 600000 else none
      cause := if st = .mismatch then some .localCause else none } }

/-- The node with an end's state and peer replaced: nothing coupled there. -/
def uncoupled (e : EndId) (s : State) : State := s.setEnd e (EndUnit.reset false false false)

/-- A data record. -/
def dataOf (target hops : Nat) (cls : TrafficClass) (origin : Origin) : DataRecord :=
  { frame := { target := target, hops := hops, origin := 1, generation := 53, cls := cls, payload := [7] },
    origin := origin }

/-! ## The line state machine (4.9) -/

/-- 4.9, time 0: sense on makes an OPEN end COUPLING. -/
theorem test_sense_couples :
    after (.couplerSenseChange .end2 true) (uncoupled .end2 node) (fun t => t.end2.state == .coupling) = true := by
  decide +kernel

/-- 4.9, time 1: carrier takes line A to SETTLING for the default 300 ms (R67, R172). -/
theorem test_carrier_settles :
    after (.carrierChange .end2 .lineA true) (node.setEnd .end2 (EndUnit.reset true false false))
      (fun t => t.end2.lineA.state == .settling && t.end2.lineA.settleTimer == some 300000) = true := by
  decide +kernel

/-- Line A of End 2 in TRAINING, swept by its trainer; line B DARK. -/
def sweeping : State :=
  node.setEnd .end2 { EndUnit.reset true true false with
    lineA := { LineUnit.reset true with state := .training }
    state := .coupling, trainer := { Trainer.reset with job := .fullSweep .lineA } }

/-- 4.9, time 414: the sweep of 17..44 makes line A ACTIVE, and its beacon leaves. -/
theorem test_sweep_activates :
    after (.fullSweepEnd .end2 (passing [(17, 44)])) sweeping (fun t =>
      t.end2.lineA.state == .active && t.end2.state == .coupling &&
      t.end2.lineA.tx.sending == some (.beacon 5203 .end2 53 true)) = true := by decide +kernel

/-- 4.9, time 444: a longest run of 10 steps is NARROW, and the line pauses in TRAINING (R74). -/
theorem test_narrow_sweep_pauses :
    after (.fullSweepEnd .end2 (passing [(20, 29)])) sweeping (fun t =>
      t.end2.lineA.state == .training && t.end2.lineA.record.lastSweep == .narrow &&
      t.end2.lineA.pauseTimer == some 20000) = true := by decide +kernel

/-! ## Frames and the sender (5.6) -/

/-- The eight bytes of a beacon's body (11.3): tag 5204, End 1, generation 52, QUIET. -/
def strangeBeacon : RawFrame :=
  rawFrameOf kindBeacon false [0x00, 0x00, 0x14, 0x54, 0x01, 0x00, 0x34, 0x01]

/-- 4.9, time 419: a QUIET peer of another generation is not admitted, a topology change (R85, R86). -/
theorem test_beacon_unadmits :
    after (.beacon .end2 .lineA strangeBeacon) node (fun t =>
      t.end2.state == .unadmitted && t.engine.state == .alerted && t.engine.count == 1) = true := by decide +kernel

/-- A DATA frame for position 6 with one hop left, COMMAND, from position 4 under 53 (11.3). -/
def dataHere : RawFrame :=
  rawFrameOf kindData true [0x06, 0x01, 0x04, 0x00, 0x35, 0x01, 0x02, 0xAA, 0xBB]

/-- The receiver record of 5.6: last bit 0, last answer ACCEPT. -/
def heardZero (s : State) : State :=
  s.modEnd .end2 (fun u => { u with receiver := some { bit := false, answer := .accept } })

/-- 5.6, time 2: a new frame for this car is delivered with its origin tag and answered ACCEPT on its line. -/
theorem test_data_delivered :
    after (.data .end2 .lineA dataHere) (heardZero node) (fun t =>
      t.laneA.receiveQueue == [{ cls := .command, broadcast := false, originPosition := 4, originTag := 4104,
                                 generation := 53, payload := [0xAA, 0xBB] }] &&
      t.laneB.receiveQueue.isEmpty && t.end2.lineA.tx.sending == some (.reply true .accept) &&
      t.end2.receiver == some { bit := true, answer := .accept }) = true := by decide +kernel

/-- 5.6, time 202: the repeat is answered from the record and nothing is delivered. -/
theorem test_data_repeat_answered :
    after (.data .end2 .lineA dataHere)
      (node.modEnd .end2 (fun u => { u with receiver := some { bit := true, answer := .accept } }))
      (fun t => t.laneA.receiveQueue.isEmpty && t.end2.lineA.tx.sending == some (.reply true .accept)) = true := by
  decide +kernel

/-- The node whose End 2 sender awaits the answer to a frame, sent on line A with bit 1. -/
def awaiting (h : HeldFrame) (s : State) : State :=
  s.modEnd .end2 (fun u => { u with sender := { Sender.reset with
    state := .awaiting, frame := some h, nextBit := true, currentBit := true, currentLine := .lineA, sends := 1
    timer := .reply } })

/-- 5.6, time 200: an unanswered send is repeated on its line. -/
theorem test_reply_timeout_repeats :
    after (.replyTimeout .end2) (awaiting (.data (dataOf 5 1 .command .through)) node) (fun t =>
      t.end2.sender.state == .awaiting && t.end2.sender.sends == 2 &&
      t.end2.lineA.tx.sending == some (.held true (.data (dataOf 5 1 .command .through)))) = true := by
  decide +kernel

/-- R97: the timeout is counted from the end of the send, so it does not run out while the send waits for its line. -/
theorem test_reply_timeout_waits_for_send :
    let s := (awaiting (.data (dataOf 5 1 .command .through)) node).modLine .end2 .lineA (fun n => { n with
      tx := { n.tx with sending := some (.beacon 5203 .end2 53 true), frameDue := true } })
    after (.replyTimeout .end2) s (fun t => t == s) = true := by decide +kernel

/-- 5.6, time 203: the ACCEPT ends the frame; frames sent is one higher and the next bit 0. -/
theorem test_accept_ends_frame :
    after (.accept .end2 .lineA (rawFrameOf kindAccept true []))
      (awaiting (.data (dataOf 5 1 .command .through)) node) (fun t =>
      t.end2.sender.state == .idle && !t.end2.sender.nextBit && t.end2.counters.framesSent == 1) = true := by
  decide +kernel

/-- 5.6, time 303: HOLD puts the sender into BACKING with sends 0 and consecutive holds 1. -/
theorem test_hold_backs :
    after (.hold .end2 .lineA (rawFrameOf kindHold true []))
      (awaiting (.data (dataOf 1 4 .bulk .through)) node) (fun t =>
      t.end2.sender.state == .backing && t.end2.sender.sends == 0 && t.end2.sender.holds == 1 &&
      t.end2.counters.holds == 1) = true := by decide +kernel

/-- 5.6, end: line A loses carrier at time 150; the frame moves to line B with sends 1 (R101). -/
theorem test_carrier_loss_moves_frame :
    after (.carrierChange .end2 .lineA false) (awaiting (.data (dataOf 5 1 .command .through)) node) (fun t =>
      t.end2.lineA.state == .dark && t.end2.sender.currentLine == .lineB && t.end2.sender.sends == 1 &&
      t.end2.sender.moved && t.end2.state == .admitted) = true := by decide +kernel

/-- A PATTERN-REQUEST for line B of End 2, and the node after it has come in on line A. -/
def patternFrame : RawFrame := rawFrameOf kindPatternRequest true [0x01]

def requested : State :=
  match exec (.patternRequest .end2 .lineA patternFrame) node with
  | .next t => t
  | .fault _ => node
  | .refused _ => node

/-- R79, R103: the named line is held when the ACCEPT has been sent, not before, and sends pattern from then on (R66). -/
theorem test_hold_follows_accept :
    requested.line .end2 .lineB = activeLine ∧ requested.lineOutput .end2 .lineA = .frame (.reply true .accept) ∧
    after (.transmissionEnd .end2 .lineA) requested (fun t =>
      (t.line .end2 .lineB).holdTimer == some 1000 && t.lineOutput .end2 .lineB == .pattern &&
      t.lineOutput .end2 .lineA == .pattern) = true := by decide +kernel

/-- R101, R98: a frame that moved to a partner in pattern hold was last sent on its old line, whose run its answer ends. -/
theorem test_answer_ends_run_of_last_line :
    let s := (awaiting (.data (dataOf 5 1 .command .through)) node).modEnd .end2 (fun u => { u with
      lineA := { activeLine with unanswered := 2 }
      lineB := { activeLine with unanswered := 1, holdTimer := some 1000 }
      sender := { u.sender with moved := true, currentLine := .lineB, sends := 0, waitsHold := true, timer := .stopped } })
    after (.accept .end2 .lineA (rawFrameOf kindAccept true [])) s (fun t =>
      (t.line .end2 .lineA).unanswered == 0 && (t.line .end2 .lineB).unanswered == 1) = true := by decide +kernel

/-! ## Forwarding, local delivery and the arbiter (6.4, 7.5, 7.6, 7.9) -/

/-- 6.4: at 5203 (position 6, REVERSED) a frame from End 2 for position 8 with 2 hops goes on by End 1 with 1. -/
theorem test_data_forwarded :
    after (.data .end2 .lineA (rawFrameOf kindData true [0x08, 0x02, 0x05, 0x00, 0x35, 0x02, 0x01, 0x07]))
      node (fun t => t.end1.queues.process.map (fun r => (r.frame.target, r.frame.hops, r.origin)) ==
        [(8, 1, .through)]) = true := by decide +kernel

/-- The receive queue of 7.6: 14 COMMAND entries and two PROCESS entries. -/
def crowded : LanePort :=
  let entry := fun (cls : TrafficClass) (tag : Byte) =>
    ({ cls := cls, broadcast := false, originPosition := 4, originTag := 4104, generation := 53,
       payload := [tag] } : ReceiveEntry)
  { LanePort.reset false with
    attached := true
    receiveQueue := entry .process 1 :: entry .process 2 :: List.replicate 14 (entry .command 9) }

/-- 7.6: a COMMAND frame displaces the older PROCESS entry of a full receive queue. -/
theorem test_command_displaces :
    after (.data .end2 .lineA dataHere) { node with laneB := crowded } (fun t =>
      t.laneB.receiveQueue.length == 16 && t.laneB.receiveDisplacements == 1 &&
      t.laneB.receiveQueue.head?.map ReceiveEntry.payload == some [2]) = true := by decide +kernel

/-- 7.6: a PROCESS frame that finds the queue full is dropped there and still answered ACCEPT. -/
theorem test_process_dropped_when_full :
    after (.data .end2 .lineA (rawFrameOf kindData true [0x06, 0x01, 0x04, 0x00, 0x35, 0x02, 0x01, 0x07]))
      { node with laneB := crowded } (fun t =>
      t.laneB.receiveDrops == 1 && t.laneA.receiveQueue.length == 1 &&
      t.end2.lineA.tx.sending == some (.reply true .accept)) = true := by decide +kernel

/-- The frames an arbiter picks with the limits PROCESS 2 and BULK 3, by their payloads. -/
def picks : Nat → EndQueues → List (List Byte)
  | 0, _ => []
  | k + 1, q =>
    match q.offer true 2 3 with
    | some (.data r, q') => r.frame.payload :: picks k q'
    | _ => []

/-- A data record marked by its payload. -/
def marked (cls : TrafficClass) (b : Byte) : DataRecord :=
  { frame := { target := 1, hops := 5, origin := 6, generation := 53, cls := cls, payload := [b] },
    origin := .through }

/-- The worked relief of 7.5: c1, c2, p1, b1, c3, c4, p2, c5, c6. -/
theorem test_relief_order :
    picks 10 { EndQueues.empty with
      command := [marked .command 0xC1, marked .command 0xC2, marked .command 0xC3, marked .command 0xC4,
                  marked .command 0xC5, marked .command 0xC6]
      process := [marked .process 0xA1, marked .process 0xA2], bulk := [marked .bulk 0xB1] } =
    [[0xC1], [0xC2], [0xA1], [0xB1], [0xC3], [0xC4], [0xA2], [0xC5], [0xC6]] := by decide

/-- The node of 7.9 with what its losing end holds, the lines and orientation those of `node`. -/
def leaving : State :=
  let address := Address.position 1
  let own := fun l => Origin.local_ l address 53
  ((awaiting (.data (dataOf 1 5 .command (own .laneA))) node).modEnd .end2 (fun u => { u with
      lineB := LineUnit.reset true
      queues := { EndQueues.empty with
        command := [dataOf 1 5 .command (own .laneA), dataOf 2 4 .command .through]
        process := [dataOf 0 5 .process (.local_ .laneB .broadcast 53)]
        bulk := [dataOf 1 5 .bulk (own .laneA)] } }))

/-- 7.9: the end leaves ADMITTED; 3 losses of lane A here (the queued message is the resolver's), 1 of lane B, the
no-answer counter 2 higher, the class queues empty, the ALERT on the other end only. -/
theorem test_end_leaves_admitted :
    after (.carrierChange .end2 .lineA false) leaving (fun t =>
      t.end2.state == .coupling && t.end2.queues == EndQueues.empty && t.laneA.losses.linkDown == 3 &&
      t.laneB.losses.linkDown == 1 && t.end2.counters.noAnswer == 2 &&
      t.end1.queues.control == [.alert 5203 1 true .alerted,
        .tally { tag := 5203, claim := false, number := 1 } [t.ownEntry 1 .reversed]]) = true := by decide +kernel

/-! ## The engine (2.11, 3.9) -/

/-- 2.11: the list that 6000, here 5203, finds in the tally of 8800 on End 2. -/
def listed (position : Nat) (tag : Tag) (prior : Word) : ListedEntry :=
  { entry := car position tag .direct 0 .intermediate false, prior := prior }

/-- 2.11: a node RELAYING a worse attempt takes the better one: it appends itself REVERSED at position 3, passes it
out of End 1, and its tally end is End 2. -/
theorem test_better_tally_taken :
    let better : AttemptId := { tag := 8800, claim := true, number := 4 }
    let worse : AttemptId := { tag := 2100, claim := false, number := 10 }
    let entries := [listed 1 8800 41, listed 2 5000 41]
    after (.tally .end2 .lineA (rawFrameOf kindTally true
        (better.bytes ++ 0x02 :: entries.flatMap ListedEntry.bytes)))
      (engineIn .relaying
        (some { attempt := worse, role := .relay, tallyEnd := some .end1, ownPosition := 2 }) node)
      (fun t => t.engine.context ==
          some { attempt := better, role := .relay, tallyEnd := some .end2, ownPosition := 3 } &&
        t.end1.queues.control == [.tally better (entries ++ [t.ownEntry 3 .reversed])]) = true := by
  decide +kernel

/-- 3.9: a topology change with inhibit on is held in MISMATCH with cause LOCAL, and restart ALERTs leave. -/
theorem test_change_held :
    after (.beacon .end2 .lineA strangeBeacon)
      { node with engine := { node.engine with
          effective := { inhibit := true, claim := false, bypass := false } } } (fun t =>
      t.engine.state == .mismatch && t.engine.cause == some .localCause &&
      t.end1.queues.control == [.alert 5203 1 true .mismatch]) = true := by decide +kernel

/-- R22, R60: an ALERT that inhibit holds sets the attempt count to 1; its body is that of 11.3, originator 8800. -/
theorem test_alert_held_sets_count :
    after (.alert .end2 .lineA (rawFrameOf kindAlert true [0x00, 0x00, 0x22, 0x60, 0x01, 0x01, 0x00]))
      { node with engine := { node.engine with
          state := .failed, count := 4, effective := { inhibit := true, claim := false, bypass := false } } } (fun t =>
      t.engine.state == .mismatch && t.engine.cause == some .localCause && t.engine.count == 1) = true := by
  decide +kernel

/-! ## Bypass and start-up (8.7, 10.7) -/

/-- 8.7, time 0: the second lane's bypass vote engages: directory cleared, lines DARK, 15 ms to run. -/
theorem test_bypass_vote_engages :
    after (.setVotes .laneA) (asking codeSetVotes [0, 0, 1] node) (fun t =>
      t.bypass.state == .engaging && t.bypass.transition == some 15000 && t.directory == Directory.empty &&
      t.end1.lineA.state == .dark && t.end2.state == .opened) = true := by decide +kernel

/-- 10.7: a new part defaults its settings, raises SETTINGS-DEFAULTED and starts its release. -/
theorem test_start_up_defaults :
    after .startUpComplete State.reset (fun t =>
      t.store.loadOutcome == .defaulted && t.bypass.state == .releasing &&
      t.laneA.notices == Notice.settingsDefaulted.mark) = true := by decide +kernel

/-- The defaults in the layout of 11.6. -/
theorem test_default_layout :
    (Settings.defaults 5203).areaBytes =
      [0x00, 0x00, 0x00, 0x00, 0x00, 0x00, 0x0C, 0x01, 0x2C, 0x0A, 0x00, 0x20, 0x00, 0x10] := by decide +kernel

/-! ## The lane port (9.6) -/

/-- 9.6, transaction 2: begun while the slot is PENDING it is answered BUSY and not taken. -/
theorem test_busy :
    after (.laneTransaction .laneA .fromPending (requestFrame codeNull [])) (asking codeAttach [] node) (fun t =>
      t.laneA.dataOut.head? == some 0x03 && t.laneA.slot == .pending codeAttach []) = true := by decide +kernel

/-- 9.6, transaction 4: a FETCH with a spoilt check is answered BAD-FRAME and raises LANE-FRAME-ERROR here alone. -/
theorem test_spoilt_check :
    after (.laneTransaction .laneA .fromReady [0x05, 0x00, 0x00, 0x00, 0x00, 0x00, 0x00, 0x00]) node (fun t =>
      repliedA t .badFrame [] && t.laneA.frameErrors == 1 && t.laneA.notices == Notice.laneFrameError.mark &&
      t.laneB.notices == 0) = true := by decide +kernel

/-- The entry of 9.6: PROCESS, broadcast, from position 6, tag 5203, generation 53, twenty bytes. -/
def broadcastEntry : ReceiveEntry :=
  { cls := .process, broadcast := true, originPosition := 6, originTag := 5203, generation := 53,
    payload := List.replicate 20 0x55 }

/-- 9.6, transaction 3: a broadcast SEND delivers at once and joins the send queue. -/
theorem test_broadcast_send :
    after (.send .laneA)
      (asking codeSend ([0x04, 0x00, 0x00, 0x00, 0x00, 0x02, 0x14] ++ List.replicate 20 0x55) node) (fun t =>
      repliedA t .done [] && t.laneA.sendQueue.length == 1 && t.laneA.receiveQueue == [broadcastEntry] &&
      t.laneA.attn) = true := by decide +kernel

/-- 9.6, transaction 5: the FETCH answers the entry in 31 bytes of body, 35 of frame, and releases ATTN. -/
theorem test_fetch_reply :
    after (.fetch .laneA) (asking codeFetch [] { node with
        laneA := { node.laneA with receiveQueue := [broadcastEntry] } }) (fun t =>
      repliedA t .done ([0x02, 0x01, 0x06, 0x00, 0x00, 0x14, 0x53, 0x00, 0x35, 0x14] ++
        List.replicate 20 0x55 ++ [0x00]) && t.laneA.slot.reply.frame.length == 35 &&
      t.laneA.receiveQueue.isEmpty && !t.laneA.attn) = true := by decide +kernel

/-- 9.6, transaction 6: 8 bytes cannot collect the 35-byte reply, and the NULL is not taken. -/
theorem test_short_transaction_collects_nothing :
    let slot := ReplySlot.ready { result := .done, body := broadcastEntry.bytes 0 }
    after (.laneTransaction .laneA .fromReady (requestFrame codeNull [] ++ List.replicate 4 0))
      { node with laneA := { node.laneA with slot := slot } }
      (fun t => t.laneA.slot == slot && t.laneA.dataOut.length == 8) = true := by decide +kernel

/-- R169: a transaction that LRST came within is abandoned, though LRST is released when select is. -/
theorem test_transaction_across_reset :
    after (.laneTransaction .laneA .acrossReset (requestFrame codeNull [])) node (fun t => t == node) = true := by
  decide +kernel

/-- R177: SETTLE 999 is stored as 990, and the write takes 5 ms. -/
theorem test_settle_rounded :
    after (.writeSetting .laneA) (asking codeWriteSetting [0x08, 0x03, 0xE7] node) (fun t =>
      repliedA t .done [0x08, 0x03, 0xDE] && t.store.image.settle == 990 && t.store.working.settle == 300 &&
      t.store.operation == some 5000) = true := by decide +kernel

/-! ## Witnesses: states and operands that meet the hypotheses of the statements

Each theorem is named after its statement and shows a case for every clause that has hypotheses of its own. -/

theorem forall_end {P : EndId → Prop} : (∀ e, P e) ↔ P .end1 ∧ P .end2 :=
  ⟨fun h => ⟨h _, h _⟩, fun h e => by cases e; exacts [h.1, h.2]⟩

theorem forall_line {P : LineId → Prop} : (∀ x, P x) ↔ P .lineA ∧ P .lineB :=
  ⟨fun h => ⟨h _, h _⟩, fun h x => by cases x; exacts [h.1, h.2]⟩

theorem exists_line {P : LineId → Prop} : (∃ x, P x) ↔ P .lineA ∨ P .lineB :=
  ⟨fun ⟨x, h⟩ => by cases x; exacts [.inl h, .inr h], fun h => h.elim (⟨_, ·⟩) (⟨_, ·⟩)⟩

/-- What holds of what an option holds. -/
theorem all_of {α : Type} {P : α → Prop} [DecidablePred P] {o : Option α}
    (h : o.all (fun a => decide (P a)) = true) : ∀ a, o = some a → P a := by
  intro a ha
  simpa [ha] using h

/-- What an option holds has a property. -/
theorem some_of {α : Type} {P : α → Prop} [DecidablePred P] {o : Option α}
    (h : o.any (fun a => decide (P a)) = true) : ∃ a, o = some a ∧ P a := by
  cases o with
  | none => simp at h
  | some a => exact ⟨a, rfl, by simpa using h⟩

/-- A frame of a kind arrives whole and new on an ACTIVE line that is free to answer it. -/
def Arrives (s : State) (e : EndId) (x : LineId) (kind : Byte) (f : RawFrame) : Prop :=
  s.Hears e x kind f ∧ (s.line e x).FreeToSend ∧ (s.endUnit e).FindsNew f

theorem arrives_of {s : State} {e : EndId} {x : LineId} {kind : Byte} {f : RawFrame}
    (h : ((s.line e x).state == .active && framePasses kind f && (s.line e x).holdTimer == none &&
      (s.line e x).tx == Transmitter.idle &&
      (s.endUnit e).receiver.all (fun r => decide (r.bit ≠ frameBit f))) = true) : Arrives s e x kind f := by
  simp only [Bool.and_eq_true, beq_iff_eq] at h
  exact ⟨⟨h.1.1.1.1, h.1.1.1.2⟩, ⟨h.1.1.2, h.1.2⟩, all_of h.2⟩

theorem window_sound : (window 17 44 28 33 11).Sound := by
  simp only [Window.Sound]
  decide

/-- The node with one command waiting. -/
def busy : State := { node with pending := [.beacon .end2 .lineA strangeBeacon] }

theorem witness_StepRunsFrontCommand :
    busy.pending = .beacon .end2 .lineA strangeBeacon :: [] ∧ node.pending = [] := ⟨rfl, rfl⟩

/-- The statement that a step keeps an invariant starts from a node in service which meets every invariant. -/
theorem witness_invariants :
    busy.QueuesKept ∧ busy.SendersKept ∧ busy.LinesKept ∧ busy.WindowsKept ∧ busy.HeldOut ∧ busy.StartUpHeld ∧
    busy.EngineKept ∧ busy.InhibitKept ∧ busy.DirectoryKept ∧ busy.VotesKept ∧ busy.StoreKept ∧
    ∃ t, step busy = .next t := by
  repeat' with_reducible apply And.intro
  · simp only [State.QueuesKept, State.EveryEnd, State.EveryLane, EndUnit.QueuesKept, LanePort.QueuesKept]
    decide +kernel
  · simp only [State.SendersKept, State.EveryEnd, Sender.Kept]
    decide +kernel
  · simp only [State.LinesKept, State.EveryEnd, EndUnit.LinesKept, EndUnit.EveryLine, LineUnit.Kept,
      EndUnit.TrainerKept, forall_line]
    repeat' with_reducible apply And.intro
    all_goals decide +kernel
  · refine ⟨by decide +kernel, ⟨⟨?_, ?_⟩, ?_, ?_⟩⟩ <;>
      exact ⟨fun _ => rfl, fun w h => Option.some.inj h ▸ window_sound⟩
  · refine ⟨⟨fun _ => ⟨rfl, rfl⟩, fun _ => ⟨rfl, rfl⟩⟩, fun h => absurd rfl h⟩
  · simp only [State.StartUpHeld]
    decide +kernel
  · refine ⟨by decide, by decide, by decide, by decide, fun c h => (nomatch (show none = some c from h)),
      fun h => ?_, fun h => ?_, fun h => ?_⟩
    all_goals exact absurd h (by decide)
  · exact fun h => absurd h (by decide)
  · refine ⟨.inr ⟨by decide +kernel, ?_, ?_, ?_, ?_, ?_⟩, fun c h => (nomatch (show none = some c from h)),
      fun h => absurd h (by decide)⟩
    · simp only [ListSound]
      decide +kernel
    all_goals decide +kernel
  · simp only [State.VotesKept, State.EveryLane, LanePort.DetachedIdle, State.AllAttachedVote]
    decide +kernel
  · simp only [State.StoreKept, Settings.InRange, forall_end, forall_line]
    decide +kernel
  · exact ⟨_, rfl⟩

theorem witness_EventsKeepToTheirSide :
    (endOf (.beacon .end2 .lineA strangeBeacon) = some .end2 ∧
      ∃ t, exec (.beacon .end2 .lineA strangeBeacon) node = .next t) ∧
    laneOf (.detach .laneA) = some .laneA ∧ ∃ t, exec (.detach .laneA) (asking codeDetach [] node) = .next t :=
  ⟨⟨rfl, _, rfl⟩, rfl, _, rfl⟩

/-- The store changes at the end of a write (and the counters' statement has the same hypotheses). -/
theorem witness_StoreChangesOnlyByItsCommands :
    ∃ t, exec .writeComplete { node with store := { node.store with
      activity := .writing, writingLane := some .laneA, operation := some 5000 } } = .next t ∧
      t.store ≠ node.store := ⟨_, rfl, by decide +kernel⟩

/-- A node whose directory no longer meets its check value. -/
def spoilt : State := { node with directory := { record with check := 0 } }

theorem witness_DirectoryChangesOnlyAtCommitOrClearing :
    ∃ t, exec .scrub spoilt = .next t ∧ t.directory ≠ spoilt.directory := ⟨_, rfl, by decide +kernel⟩

theorem witness_CountersFallOnlyAtResets :
    (∃ t, exec (.data .end2 .lineA dataHere) { node with laneB := crowded } = .next t) ∧
    Instr.data .end2 .lineA dataHere ≠ .powerOn ∧ Instr.data .end2 .lineA dataHere ≠ .nodeReset ∧
    ∀ l, Instr.data .end2 .lineA dataHere ≠ .laneReset l :=
  ⟨⟨_, rfl⟩, nofun, nofun, nofun⟩

/-- A list of 24 cars with every field at an end of its range. -/
def fullList : List ListedEntry :=
  (List.range 24).map (fun i =>
    { entry := car (i + 1) (BitVec.ofNat 32 (4294967295 - i)) .reversed 99 .cab true, prior := 65535 })

/-- The attempt of car 8800 in 2.11. -/
def attempt8800 : AttemptId := { tag := 8800, claim := true, number := 255 }

/-- Every kind of control frame, lists of 24 entries and of one, hop counts 1 and 24. -/
theorem witness_ControlFramesReadBack :
    (ControlFrame.patternRequest .lineB true).Sendable ∧ (ControlFrame.alert 1 1 true .quiet).Sendable ∧
    (ControlFrame.alert 4294967295 24 false .failed).Sendable ∧ (ControlFrame.tally attempt8800 fullList).Sendable ∧
    (ControlFrame.tally attempt8800 [listed 1 8800 41]).Sendable ∧
    (ControlFrame.closure attempt8800 fullList 0).Sendable ∧ (ControlFrame.commit attempt8800 1 65535).Sendable ∧
    (ControlFrame.dissent attempt8800 .overlength).Sendable ∧ (ControlFrame.defer attempt8800 1).Sendable ∧
    (1 : Tag) ≠ 0 ∧ (4294967295 : Tag) ≠ 0 := by
  simp only [ControlFrame.Sendable, ControlFrame.Sendable.ListSendable]
  decide +kernel

theorem witness_DataRequestsAndSettingsReadBack :
    ((∀ d ∈ [({ target := 24, hops := 23, origin := 24, generation := 65535, cls := .bulk,
                payload := List.replicate 64 255 } : DataFrame),
             { target := 0, hops := 1, origin := 1, generation := 1, cls := .command, payload := [0] }],
        d.target ≤ 24 ∧ 1 ≤ d.hops ∧ d.hops ≤ 23 ∧ 1 ≤ d.origin ∧ d.origin ≤ 24 ∧ d.generation ≠ 0 ∧
          1 ≤ d.payload.length ∧ d.payload.length ≤ 64) ∧
      (List.replicate 72 (0 : Byte)).length ≤ 72) ∧
    (Settings.defaults 1).InRange ∧
    Settings.InRange { Settings.defaults 1 with
      unit := 99, kind := .cab, offset1A := { subtract := true, magnitude := 15 }, wmin := 40, settle := 2000,
      beacon := 100, reliefProcess := 1023, reliefBulk := 1023 } ∧
    Settings.InRange { Settings.defaults 1 with
      unit := 0, wmin := 4, settle := 50, beacon := 5, reliefProcess := 1, reliefBulk := 1 } := by
  simp only [Settings.InRange, forall_end, forall_line]
  decide +kernel

theorem record_sound : record.Sound 5203 := witness_invariants.2.2.2.2.2.2.2.2.1.1.resolve_left (by decide +kernel)

theorem witness_LookupsFindTheEntries :
    record.Sound 5203 ∧ record.ownPosition = some 6 ∧ record.ownOrientation = some .reversed ∧
    record.byPosition 8 = some (car 8 5201 .reversed 12 .cab false) ∧ record.entries.length < 9 ∧
    Directory.empty.generation = 0 := ⟨record_sound, by decide +kernel⟩

theorem witness_NewGenerationIsFresh :
    ([65535] : List Word) ≠ [] ∧ [(65535 : Word)].length ≤ 24 ∧
    (List.range 24).map (fun i => BitVec.ofNat 16 (65535 - i)) ≠ [] ∧
    ((List.range 24).map (fun i => BitVec.ofNat 16 (65535 - i))).length ≤ 24 := by decide +kernel

/-- The positions 0, 1, 6, 7, 8 and 9 of the train of 6.2, named in every mode; and an OFFSET that resolves. -/
theorem witness_ResolutionFollowsTheStages :
    (record.generation ≠ 0 ∧ record.ownPosition = some 6 ∧ record.ownOrientation = some .reversed) ∧
    (Address.offset 6).Names record 6 .reversed 0 ∧ (Address.offset 5).Names record 6 .reversed 1 ∧
    (Address.offset 0).Names record 6 .reversed 6 ∧ (Address.offset (-1)).Names record 6 .reversed 7 ∧
    (Address.position 8).Names record 6 .reversed 8 ∧ (Address.position 9).Names record 6 .reversed 9 ∧
    (Address.tag 4101).Names record 6 .reversed 1 ∧
    record.resolve (.offset 5) = .resolved 1 .end2 5 ∧ record.entries.length ≤ 24 := by
  refine ⟨by decide +kernel, ?_, ?_, ?_, ?_, ?_, ?_, ⟨1, ?_⟩, ?_⟩
  all_goals first | decide +kernel | (simp only [Address.Names]; decide +kernel)

/-- A clause for each row of the table under R83. -/
theorem witness_EndStateFollowsAdmission :
    State.reset.bypass.state ≠ .off ∧ node.bypass.state = .off ∧
    (let s := uncoupled .end2 node
     (∀ x, (s.line .end2 x).state = .dark) ∧ (s.endUnit .end2).sense = false) ∧
    (let s := node.setEnd .end2 (EndUnit.reset true false false)
     (∀ x, (s.line .end2 x).state ≠ .active) ∧ (s.endUnit .end2).sense = true) ∧
    ((∀ x, (sweeping.line .end2 x).state ≠ .active) ∧ ∃ x, (sweeping.line .end2 x).state ≠ .dark) ∧
    (let s := node.modEnd .end2 (fun u => { u with peer := none })
     (∃ x, (s.line .end2 x).state = .active) ∧ (s.endUnit .end2).peer = none) ∧
    (∃ x, (node.line .end2 x).state = .active) ∧
    (node.endUnit .end2).peer = some { tag := 5204, peerEnd := .end1, generation := 53, quiet := true } ∧
    node.endStateOf .end2 = .admitted := by
  simp only [forall_line, exists_line]
  decide +kernel

/-- A node waiting for its load, over an area written from some settings in range. -/
def loading : State :=
  { State.reset with store := { State.reset.store with
      area := .written (Settings.defaults 4103).areaBytes (crc16 (Settings.defaults 4103).areaBytes) } }

theorem witness_ResetsRestoreEveryBlock :
    (Instr.powerOn = .powerOn ∧ ResetCause.powerOn = .powerOn) ∧
    (Instr.nodeReset = .nodeReset ∧ ResetCause.nodeReset = .nodeReset) := by decide

/-- The settings of a CAB at the ends of their ranges, and an area whose WMIN is one past its range under a good
check. -/
def boundSettings : Settings :=
  { Settings.defaults 4103 with unit := 99, kind := .cab, wmin := 40, settle := 2000, beacon := 100 }

def outOfRangeArea : List Byte := ({ boundSettings with wmin := 41 } : Settings).areaBytes

/-- A sound area; one never written, one whose check fails, and one out of range; each with a valid tag, a factory area
that fails its check, and tag 0; with and without a bypass request. -/
theorem witness_StartUpLoadsOrDefaults :
    (∀ area ∈ [SettingsArea.written boundSettings.areaBytes (crc16 boundSettings.areaBytes), .unsound,
        .written boundSettings.areaBytes (crc16 boundSettings.areaBytes + 1),
        .written outOfRangeArea (crc16 outOfRangeArea)],
      ∀ factory ∈ [({ tag := 4103, checkPasses := true } : FactoryArea), { tag := 4103, checkPasses := false },
        { tag := 0, checkPasses := true }],
      ∀ b ∈ [false, true],
      let s := { State.reset with
        store := Store.reset area factory false .powerOn
        engine := { Engine.reset with effective := { Votes.none with bypass := b } } }
      s.nrst = false ∧ s.store.activity = .loading ∧ s.bypass.state = .engaged ∧ s.bypass.latched = .none) ∧
    boundSettings.InRange ∧ SettingsArea.unsound.Spoilt ∧
    SettingsArea.Spoilt (.written boundSettings.areaBytes (crc16 boundSettings.areaBytes + 1)) ∧
    SettingsArea.Spoilt (.written outOfRangeArea (crc16 outOfRangeArea)) := by
  refine ⟨by decide +kernel, ?_, .inl rfl, .inr ⟨_, _, rfl, .inl (by decide +kernel)⟩,
    .inr ⟨_, _, rfl, .inr ?_⟩⟩
  · simp only [Settings.InRange, forall_end, forall_line]
    decide +kernel
  · simp only [AreaOutOfRange]
    decide +kernel

theorem witness_LaneResetEmptiesThePort :
    node.engine.effective =
      (if (node.lane LaneId.laneA.other).attached then (node.lane LaneId.laneA.other).votes else Votes.none) := by
  decide +kernel

/-! ### Lines -/

/-- The node with inhibit on. -/
def inhibited (s : State) : State :=
  { s with engine := { s.engine with effective := { inhibit := true, claim := false, bypass := false } } }

/-- The node with an end UNADMITTED. -/
def unadmitted (e : EndId) (s : State) : State := s.modEnd e (fun u => { u with state := .unadmitted })

/-- The node with End 2 replaced. -/
def at2 (u : EndUnit) : State := node.setEnd .end2 u

theorem node_lines : node.LinesKept := witness_invariants.2.2.1

theorem at2_lines {u : EndUnit} (h : u.LinesKept) : (at2 u).LinesKept := ⟨node_lines.1, h⟩

theorem node_windows : node.WindowsKept := witness_invariants.2.2.2.1

theorem at2_windows {u : EndUnit} (h : u.EveryLine LineUnit.WindowKept) : (at2 u).WindowsKept :=
  ⟨node_windows.1, node_windows.2.1, h⟩

/-- End 2 with line A SETTLING, after RETRAIN-LINE or not, and line B DARK. -/
def settling (byRetrain carrier : Bool) : EndUnit :=
  { EndUnit.reset true carrier false with
    lineA := { LineUnit.reset carrier with
      state := .settling, settleTimer := some 300000, byRetrain := byRetrain }, state := .coupling }

theorem settling_lines (b c : Bool) : (settling b c).LinesKept := by
  simp only [EndUnit.LinesKept, EndUnit.EveryLine, LineUnit.Kept, EndUnit.TrainerKept, forall_line]
  cases b <;> cases c
  all_goals repeat' with_reducible apply And.intro
  all_goals decide +kernel

/-- End 2 with both lines DARK, sense and line A's carrier as given. -/
def darkEnd (sense carrier : Bool) : EndUnit :=
  { EndUnit.reset sense carrier false with state := if sense then .coupling else .opened }

theorem darkEnd_lines (b c : Bool) : (darkEnd b c).LinesKept := by
  simp only [EndUnit.LinesKept, EndUnit.EveryLine, LineUnit.Kept, EndUnit.TrainerKept, forall_line]
  cases b <;> cases c
  all_goals repeat' with_reducible apply And.intro
  all_goals decide +kernel

/-- End 2 with line A in TRAINING after some sweeps, being swept. -/
def training (sweeps : Nat) : EndUnit :=
  { sweeping.end2 with lineA := { sweeping.end2.lineA with
      record := { TrainingRecord.reset with cause := .settle, sweeps := sweeps } } }

theorem training_lines (n : Nat) (h : n ≤ 2) : (training n).LinesKept := by
  simp only [EndUnit.LinesKept, EndUnit.EveryLine, LineUnit.Kept, EndUnit.TrainerKept, forall_line]
  obtain rfl | rfl | rfl : n = 0 ∨ n = 1 ∨ n = 2 := by omega
  all_goals repeat' with_reducible apply And.intro
  all_goals decide +kernel

/-- End 2 with line A FAILED. -/
def failedLine : EndUnit :=
  { EndUnit.reset true true false with
    lineA := { LineUnit.reset true with state := .failed, record := { TrainingRecord.reset with sweeps := 3 } }
    state := .coupling }

theorem failedLine_lines : failedLine.LinesKept := by
  simp only [EndUnit.LinesKept, EndUnit.EveryLine, LineUnit.Kept, EndUnit.TrainerKept, forall_line]
  repeat' with_reducible apply And.intro
  all_goals decide +kernel

/-- End 2 with line A recentring: its sweep runs. -/
def recentring : EndUnit :=
  { admittedEnd 5204 .end1 with
    lineA := { activeLine with recentre := .sweeping }
    trainer := { Trainer.reset with job := .recentreSweep .lineA } }

theorem recentring_lines : recentring.LinesKept := by
  simp only [EndUnit.LinesKept, EndUnit.EveryLine, LineUnit.Kept, EndUnit.TrainerKept, forall_line]
  repeat' with_reducible apply And.intro
  all_goals decide +kernel

theorem recentring_windows : recentring.EveryLine LineUnit.WindowKept :=
  ⟨⟨fun _ => rfl, fun _ h => Option.some.inj h ▸ window_sound⟩, fun _ => rfl,
    fun _ h => Option.some.inj h ▸ window_sound⟩

/-- Two inputs that are no change; lines ACTIVE and one SETTLING at the loss of sense; a DARK line without carrier; DARK
lines with sense and carrier off and on; SETTLING lines of both carriers; a line in TRAINING, ACTIVE, FAILED and recentring
that loses its carrier. -/
theorem witness_InputChangesMoveTheLines :
    (State.reset.bypass.state ≠ .off ∧ (node.endUnit .end2).sense = true ∧
      (node.line .end2 .lineA).carrier = true) ∧
    (node.LinesKept ∧ node.bypass.state = .off ∧ ∀ x, (node.line .end2 x).state ≠ .settling) ∧
    ((at2 (settling false true)).LinesKept ∧ ((at2 (settling false true)).endUnit .end2).sense = true ∧
      ((at2 (settling false true)).line .end2 .lineA).state = .settling ∧
      ((at2 (settling false true)).line .end2 .lineB).state = .dark ∧
      ((at2 (settling false true)).line .end2 .lineB).carrier = false) ∧
    ((∀ b c, (at2 (darkEnd b c)).LinesKept) ∧ ∀ b ∈ [false, true], ∀ c ∈ [false, true],
      (at2 (darkEnd b c)).bypass.state = .off ∧ ((at2 (darkEnd b c)).endUnit .end2).sense = b ∧
        ((at2 (darkEnd b c)).line .end2 .lineA).carrier = c ∧ ((at2 (darkEnd b c)).line .end2 .lineA).state = .dark) ∧
    ((∀ c, (at2 (settling false c)).LinesKept) ∧ ∀ c ∈ [false, true],
      ((at2 (settling false c)).line .end2 .lineA).carrier = c) ∧
    ((at2 (training 0)).LinesKept ∧ ((at2 (training 0)).line .end2 .lineA).carrier = true ∧
      ((at2 (training 0)).line .end2 .lineA).state = .training) ∧
    ((at2 failedLine).LinesKept ∧ ((at2 failedLine).line .end2 .lineA).carrier = true ∧
      ((at2 failedLine).line .end2 .lineA).state = .failed) ∧
    (at2 recentring).LinesKept ∧ ((at2 recentring).line .end2 .lineA).recentre = .sweeping := by
  refine ⟨by decide +kernel, ⟨node_lines, by simp only [forall_line]; decide +kernel⟩,
    ⟨at2_lines (settling_lines _ _), by decide +kernel⟩,
    ⟨fun b c => at2_lines (darkEnd_lines b c), by decide +kernel⟩,
    ⟨fun c => at2_lines (settling_lines _ c), by decide +kernel⟩,
    ⟨at2_lines (training_lines 0 (by decide)), by decide +kernel⟩, ⟨at2_lines failedLine_lines, by decide +kernel⟩,
    at2_lines recentring_lines, by decide +kernel⟩

theorem witness_SettleTimerDecidesTheLine :
    (∀ b c, (at2 (settling b c)).LinesKept) ∧
    (let s := at2 (settling true true)
     (s.line .end2 .lineA).state = .settling ∧ (s.line .end2 .lineA).carrier = true ∧
       (s.endUnit .end2).sense = true ∧ (s.line .end2 .lineA).byRetrain = true) ∧
    (let s := at2 (settling false false)
     (s.line .end2 .lineA).state = .settling ∧ (s.line .end2 .lineA).carrier = false) :=
  ⟨fun b c => at2_lines (settling_lines b c), by decide +kernel, by decide +kernel⟩

/-- Lines of End 2 that wait for the trainer. -/
def waiting (a b : Bool) : State :=
  at2 { EndUnit.reset true true true with
    lineA := { LineUnit.reset true with state := .training, wantsSweep := a }
    lineB := { LineUnit.reset true with
      state := .training, wantsSweep := b, pauseTimer := if b then none else some 20000 }
    state := .coupling }

theorem witness_TrainerTakesOneWaitingLine :
    (((waiting true true).endUnit .end2).trainer.job = .free ∧
      ((waiting true true).line .end2 .lineA).state = .training ∧
      ((waiting true true).line .end2 .lineA).wantsSweep = true) ∧
    (¬ (((waiting false true).line .end2 .lineA).state = .training ∧
        ((waiting false true).line .end2 .lineA).wantsSweep = true) ∧
      ((waiting false true).line .end2 .lineB).state = .training ∧
      ((waiting false true).line .end2 .lineB).wantsSweep = true) ∧
    ((sweeping.endUnit .end2).trainer.job ≠ .free) ∧
    (¬ ((waiting false false).line .end2 .lineA).wantsSweep = true ∧
      ¬ ((waiting false false).line .end2 .lineB).wantsSweep = true) ∧
    ((waiting false false).line .end2 .lineB).state = .training ∧
    ((waiting false false).line .end2 .lineB).pauseTimer.isSome := by decide +kernel

/-- A sweep in which exactly one run of steps passed has that run as its longest. -/
theorem longest_of {runs : List Nat} {low high : Nat} (ho : low ≤ high) (hb : high ≤ 63)
    (h : ∀ k, k ≤ 63 → (32 ≤ runs.getD k 0 ↔ low ≤ k ∧ k ≤ high)) : LongestPassing runs low high := by
  refine ⟨ho, hb, fun k h1 h2 => (h k (by omega)).2 ⟨h1, h2⟩, fun l u h1 h2 h3 => ?_⟩
  have hl := (h l (by omega)).1 (h3 l (by omega) h1)
  have hu := (h u (by omega)).1 (h3 u h1 (by omega))
  omega

/-- Runs of exactly WMIN = 12 steps and of 11, at both ends of the range; no passing step; sweep counts 1 and 2. -/
theorem witness_FullSweepDecidesTheLine :
    ((at2 (training 1)).LinesKept ∧ ((at2 (training 1)).endUnit .end2).trainer.job = .fullSweep .lineA ∧
      ((at2 (training 1)).line .end2 .lineA).record.sweeps = 1) ∧
    ((at2 (training 2)).LinesKept ∧ ((at2 (training 2)).endUnit .end2).trainer.job = .fullSweep .lineA ∧
      ((at2 (training 2)).line .end2 .lineA).record.sweeps = 2) ∧
    (node.store.working.wmin = 12 ∧ ((at2 (training 1)).line .end2 .lineA).holdTimer = none) ∧
    (∀ r ∈ [(52, 63), (0, 11), (0, 10)], LongestPassing (passing [r]) r.1 r.2) ∧
    ∀ k, k ≤ 63 → ¬ StepPassed (passing []) k := by
  refine ⟨⟨at2_lines (training_lines 1 (by decide)), by decide +kernel⟩,
    ⟨at2_lines (training_lines 2 (by decide)), by decide +kernel⟩, by decide +kernel, ?_, ?_⟩
  · simp only [List.forall_mem_cons, List.not_mem_nil, false_implies, implies_true, and_true]
    repeat' with_reducible apply And.intro
    all_goals exact longest_of (by decide) (by decide) (by decide +kernel)
  · simp only [StepPassed]
    decide +kernel

theorem leaving_lines : leaving.LinesKept := by
  refine ⟨node_lines.1, ?_⟩
  simp only [EndUnit.LinesKept, EndUnit.EveryLine, LineUnit.Kept, EndUnit.TrainerKept, forall_line]
  repeat' with_reducible apply And.intro
  all_goals decide +kernel

/-- A LOCAL frame sent on line A, moved or not. -/
def sent (moved : Bool) : State :=
  (awaiting (.data (dataOf 1 5 .command (.local_ .laneA .broadcast 53))) node).modEnd .end2
    (fun u => { u with sender := { u.sender with moved := moved } })

theorem sent_lines (moved : Bool) : (sent moved).LinesKept := by
  refine ⟨node_lines.1, ?_⟩
  simp only [EndUnit.LinesKept, EndUnit.EveryLine, LineUnit.Kept, EndUnit.TrainerKept, forall_line]
  cases moved
  all_goals repeat' with_reducible apply And.intro
  all_goals decide +kernel

/-- A line whose partner is ACTIVE, recentring, and with a frame on it that has not moved and one that has. And the last
ACTIVE line: of an ADMITTED end that holds and queues LOCAL and THROUGH frames, inhibit off and on, the other end identified
and not; and of an UNADMITTED end. -/
theorem witness_SilenceTakesTheLineBack :
    ((at2 recentring).LinesKept ∧ ((at2 recentring).line .end2 .lineA).state = .active) ∧
    (∀ moved, let s := sent moved
      s.LinesKept ∧ (s.line .end2 .lineA).state = .active ∧ (s.line .end2 LineId.lineA.partner).state = .active ∧
        (s.endUnit .end2).sender.state = .awaiting ∧ (s.endUnit .end2).sender.currentLine = .lineA ∧
        (s.endUnit .end2).sender.moved = moved ∧ (s.line .end2 LineId.lineA.partner).holdTimer = none) ∧
    (∀ s ∈ [leaving, inhibited leaving, unadmitted .end2 leaving, uncoupled .end1 leaving],
      s.LinesKept ∧ (s.line .end2 .lineA).state = .active ∧ (s.line .end2 LineId.lineA.partner).state ≠ .active ∧
        s.bypass.state = .off) ∧
    ((leaving.endUnit .end2).state = .admitted ∧ leaving.engine.effective.inhibit = false ∧
      leaving.identified EndId.end2.other = true ∧ (inhibited leaving).engine.effective.inhibit = true ∧
      ((unadmitted .end2 leaving).endUnit .end2).state = .unadmitted ∧
      (unadmitted .end2 leaving).engine.state ≠ .alerted ∧
      (uncoupled .end1 leaving).identified EndId.end2.other = false ∧ (uncoupled .end1 leaving).ownTag ≠ 0) := by
  refine ⟨⟨at2_lines recentring_lines, rfl⟩, fun m => ⟨sent_lines m, rfl, rfl, rfl, rfl, rfl, rfl⟩, ?_,
    by decide +kernel⟩
  have reset : (uncoupled .end1 leaving).LinesKept := ⟨(darkEnd_lines false false), leaving_lines.2⟩
  simp only [List.forall_mem_cons, List.not_mem_nil, false_implies, implies_true, and_true]
  exact ⟨⟨leaving_lines, by decide +kernel⟩, ⟨leaving_lines, by decide +kernel⟩, ⟨leaving_lines, by decide +kernel⟩,
    reset, by decide +kernel⟩

/-- Control queues of three and of four frames; a line that is not ACTIVE. The next line is End 1 line A. -/
theorem witness_RecentreTurnMarksOneLine :
    (node.nrst = false ∧ node.recentreTimer.isSome ∧ node.rotation = (.end2, .lineB)) ∧
    ((∀ x, (node.line .end1 x).state = .active ∧ (node.line .end1 x).recentre = .none) ∧
      (node.endUnit .end1).state = .admitted) ∧
    EndUnit.ControlRoom { node.end1 with queues := { EndQueues.empty with
      control := List.replicate 3 (.patternRequest .lineA false) } } ∧
    ¬ EndUnit.ControlRoom { node.end1 with queues := { EndQueues.empty with
      control := List.replicate 4 (.patternRequest .lineA false) } } ∧
    ¬ (∀ x, ((node.modEnd .end1 (fun u => { u with lineB := LineUnit.reset true })).line .end1 x).state
      = .active) := by
  simp only [forall_line, EndUnit.ControlRoom]
  decide +kernel

/-- Around phase 33 the sweep visits 25..41: runs of 12 and of 11 steps, and a phase that did not pass. -/
theorem witness_RecentreSweepMovesOrRetrains :
    ((at2 recentring).LinesKept ∧ (at2 recentring).WindowsKept ∧
      ((at2 recentring).endUnit .end2).trainer.job = .recentreSweep .lineA ∧
      ((at2 recentring).line .end2 .lineA).record.window = some (window 17 44 28 33 11)) ∧
    RunAround (passing [(30, 63)]) 25 41 33 30 41 ∧ RunAround (passing [(31, 63)]) 25 41 33 31 41 ∧
    RunAround (passing [(0, 36)]) 25 41 33 25 36 ∧ ¬ StepPassed (passing [(0, 32)]) 33 := by
  refine ⟨⟨at2_lines recentring_lines, at2_windows recentring_windows, rfl, rfl⟩, ?_⟩
  simp only [RunAround, StepPassed]
  decide +kernel

/-! ### Frames -/

/-- The node with line A of End 2 changed. -/
def lineA2 (f : LineUnit → LineUnit) (s : State) : State := s.modLine .end2 .lineA f

/-- A control frame as it arrives with sequence bit 1. -/
def arriving (f : ControlFrame) : RawFrame := rawFrameOf f.encode.1 true f.encode.2

/-- A line that has just begun a reply, a hold that follows it, and what waits behind it. -/
def sending (holdAfter : Option LineId) (replies : List WaitingReply) (beaconDue frameDue : Bool) : State :=
  lineA2 (fun n => { n with tx := { sending := some (.reply true .accept), holdAfter := holdAfter, replies := replies,
                                    beaconDue := beaconDue, frameDue := frameDue } })
    (awaiting (.control (.patternRequest .lineB true)) node)

/-- The node with line A of End 2 in pattern hold. -/
def holding (s : State) : State := lineA2 (fun n => { n with holdTimer := some 1000 }) s

/-- The ACCEPT leaves; it cannot leave by either line; it has been sent, and names its own line or the partner; and a hold
with a waiting repeat, with a held-back beacon, with both, and with a send that fell due before it. -/
theorem witness_PatternHoldStartsAndEnds :
    (Arrives node .end2 .lineA kindPatternRequest (arriving (.patternRequest .lineB true)) ∧
      decodePatternRequest (arriving (.patternRequest .lineB true)).body = some .lineB) ∧
    (let s := (holding node).modLine .end2 .lineB (fun n => { n with holdTimer := some 1000 })
     s.Hears .end2 .lineA kindPatternRequest (arriving (.patternRequest .lineB true)) ∧
       (s.endUnit .end2).FindsNew (arriving (.patternRequest .lineB true)) ∧
       (s.line .end2 .lineA).holdTimer.isSome ∧ (s.line .end2 LineId.lineA.partner).holdTimer.isSome) ∧
    (let s := sending (some .lineA) [.plain true .hold] true true
     (s.line .end2 .lineA).tx.sending.isSome ∧ (s.line .end2 .lineA).tx.holdAfter = some .lineA) ∧
    (let s := sending (some .lineB) [] false false
     (s.line .end2 .lineA).tx.sending.isSome ∧ (s.line .end2 .lineA).tx.holdAfter = some .lineB ∧
       (s.line .end2 .lineA).tx.replies = [] ∧ (s.line .end2 .lineA).tx.beaconDue = false ∧
       (s.line .end2 .lineA).tx.frameDue = false) ∧
    (let s := holding ((awaiting (.data (dataOf 5 1 .command .through))
        node).modEnd .end2 (fun u => { u with sender := { u.sender with waitsHold := true, timer := .stopped } }))
     (s.line .end2 .lineA).state = .active ∧ (s.line .end2 .lineA).holdTimer.isSome ∧
       (s.line .end2 .lineA).tx.sending = none ∧ (s.line .end2 .lineA).tx.replies = [] ∧
       (s.endUnit .end2).sender.waitsHold = true ∧ (s.endUnit .end2).sender.currentLine = .lineA ∧
       (s.endUnit .end2).sender.state = .awaiting ∧ (s.line .end2 .lineA).tx.beaconDue = false ∧
       (s.endUnit .end2).sender.frame = some (.data (dataOf 5 1 .command .through)) ∧
       let due := lineA2 (fun n => { n with tx := { n.tx with beaconDue := true } }) s
       (due.line .end2 .lineA).tx.sending = none ∧ (due.line .end2 .lineA).tx.beaconDue = true) ∧
    (let s := lineA2 (fun n => { n with tx := { n.tx with frameDue := true } })
        (holding (awaiting (.data (dataOf 5 1 .command .through)) node))
     (s.line .end2 .lineA).holdTimer.isSome ∧ (s.line .end2 .lineA).tx.sending = none ∧
       (s.endUnit .end2).sender.waitsHold = false ∧ (s.line .end2 .lineA).tx.beaconDue = false ∧
       (s.line .end2 .lineA).tx.frameDue = true ∧
       (s.endUnit .end2).sender.frame = some (.data (dataOf 5 1 .command .through))) ∧
    (let s := lineA2 (fun n => { n with tx := { n.tx with beaconDue := true } }) (holding node)
     (s.line .end2 .lineA).state = .active ∧ (s.line .end2 .lineA).holdTimer.isSome ∧
       (s.line .end2 .lineA).tx.sending = none ∧ (s.line .end2 .lineA).tx.replies = [] ∧
       (s.endUnit .end2).sender.waitsHold = false ∧ (s.line .end2 .lineA).tx.beaconDue = true) := by
  refine ⟨⟨arrives_of (by decide +kernel), by decide +kernel⟩, ⟨⟨rfl, by decide +kernel⟩, nofun, by decide +kernel⟩,
    by decide +kernel⟩

theorem witness_TransmissionsLeaveInOrder :
    (State.reset.bypass.state ≠ .off ∧ node.bypass.state = .off ∧
      ((uncoupled .end2 node).line .end2 .lineA).state ≠ .active ∧ (node.line .end2 .lineA).tx.sending = none) ∧
    ((node.line .end2 .lineA).state = .active ∧ (node.line .end2 .lineA).beaconTimer.isSome ∧
      (node.line .end2 .lineA).FreeToSend) ∧
    ((holding node).line .end2 .lineA).holdTimer.isSome ∧
    (let s := sending none [.plain true .hold] true true
     (s.line .end2 .lineA).state = .active ∧ (s.line .end2 .lineA).holdTimer = none ∧
       (s.line .end2 .lineA).tx.sending.isSome ∧ (s.line .end2 .lineA).tx.holdAfter = none ∧
       (s.line .end2 .lineA).tx.replies = .plain true .hold :: []) ∧
    (((sending none [] true true).line .end2 .lineA).tx.replies = [] ∧
      ((sending none [] true true).line .end2 .lineA).tx.beaconDue = true) ∧
    (((sending none [] false true).line .end2 .lineA).tx.frameDue = true ∧
      ((sending none [] false true).endUnit .end2).sender.frame = some (.control (.patternRequest .lineB true))) ∧
    ((sending none [] false false).line .end2 .lineA).tx.frameDue = false := by
  simp only [LineUnit.FreeToSend]
  decide +kernel

/-- A DATA frame too short for its kind, and a REFUSE without a reason. -/
def shortData : RawFrame := rawFrameOf kindData true [0x06]

def shortRefuse : RawFrame := rawFrameOf kindRefuse true []

/-- A line that is not ACTIVE and a failing check; a malformed BEACON, ACCEPT and REFUSE; and a repeat, a malformed DATA
frame and one of an unknown kind, each answered on its line, behind a frame being sent, on the partner line, and not. -/
theorem witness_FramesAreCheckedAndRepeatsAnswered :
    ((sweeping.line .end2 .lineA).state ≠ .active) ∧
    ((node.line .end2 .lineA).state = .active ∧ framePasses kindData { dataHere with check := none } = false) ∧
    (∀ kb ∈ [(kindBeacon, rawFrameOf kindBeacon true [1]), (kindAccept, rawFrameOf kindAccept true [1]),
        (kindRefuse, shortRefuse)],
      node.Hears .end2 .lineA kb.1 kb.2 ∧ kb.1 ∈ unansweredKinds ∧ bodyInForm kb.1 kb.2.body = false) ∧
    (∀ s ∈ [node, sending none [] false false, holding node,
        (holding node).modLine .end2 .lineB (fun n => { n with holdTimer := some 1000 })],
      s.Hears .end2 .lineA kindData shortData ∧ kindData ∈ awaitingKinds ∧
      (s.endUnit .end2).FindsNew shortData ∧ bodyInForm kindData shortData.body = false ∧
      s.Hears .end2 .lineA 0x03 (rawFrameOf 0x03 true []) ∧ (0x03 : Byte) ∉ kindCodes ∧
      ∃ v, ((s.endUnit .end2).modLine .lineA (fun n =>
        { n with silenceTimer := some (4000 * s.store.working.beacon) })).Replies .lineA
          (.plain (frameBit shortData) (.refuse .malformed)) v) ∧
    (let s := node.modEnd .end2 (fun u => { u with receiver := some { bit := true, answer := .accept } })
     s.Hears .end2 .lineA kindData dataHere ∧
       (s.endUnit .end2).receiver = some { bit := true, answer := .accept } ∧ true = frameBit dataHere ∧
       ∃ v, ((s.endUnit .end2).modLine .lineA (fun n =>
         { n with silenceTimer := some (4000 * s.store.working.beacon) })).Replies .lineA
           (.plain (frameBit dataHere) .accept) v) := by
  refine ⟨by decide +kernel, by decide +kernel, ?_, ?_, ⟨rfl, by decide +kernel⟩, rfl, by decide +kernel,
    _, .inl ⟨by decide +kernel, .inl ⟨by decide +kernel, rfl⟩⟩⟩
  · simp only [State.Hears]
    decide +kernel
  · have passes : framePasses kindData shortData = true ∧ framePasses 0x03 (rawFrameOf 0x03 true []) = true ∧
        kindData ∈ awaitingKinds ∧ bodyInForm kindData shortData.body = false ∧ (0x03 : Byte) ∉ kindCodes := by
      decide +kernel
    simp only [List.forall_mem_cons, List.not_mem_nil, false_implies, implies_true, and_true]
    refine ⟨⟨⟨rfl, passes.1⟩, passes.2.2.1, nofun, passes.2.2.2.1, ⟨rfl, passes.2.1⟩, passes.2.2.2.2, _, .inl ⟨?_, .inl
      ⟨?_, rfl⟩⟩⟩, ⟨⟨rfl, passes.1⟩, passes.2.2.1, nofun, passes.2.2.2.1, ⟨rfl, passes.2.1⟩, passes.2.2.2.2, _, .inl ⟨?_,
      .inr ⟨?_, rfl⟩⟩⟩, ⟨⟨rfl, passes.1⟩, passes.2.2.1, nofun, passes.2.2.2.1, ⟨rfl, passes.2.1⟩, passes.2.2.2.2, _, .inr
      (.inl ⟨?_, ?_, .inl ⟨?_, rfl⟩⟩)⟩, ⟨rfl, passes.1⟩, passes.2.2.1, nofun, passes.2.2.2.1, ⟨rfl, passes.2.1⟩,
      passes.2.2.2.2, _, .inr (.inr ⟨?_, ?_, rfl, rfl⟩)⟩
    all_goals decide +kernel

/-- An end whose line is ACTIVE and which has heard no beacon yet: not identified. -/
def unidentified : State := at2 { admittedEnd 5204 .end1 with state := .coupling, peer := none }

/-- A beacon from End 1 of tag 5204 or 5205 under generation 53 or 52, and the peer it names. -/
def beaconOf (tag : Byte) (generation : Byte) : RawFrame :=
  rawFrameOf kindBeacon false [0x00, 0x00, 0x14, tag, 0x01, 0x00, generation, 0x01]

def peerOf (tag : Tag) (generation : Word) : PeerId :=
  { tag := tag, peerEnd := .end1, generation := generation, quiet := true }

/-- A beacon of the peer that stands there, and one of another tag. Entries to UNADMITTED, from ADMITTED and from COUPLING,
and an entry to ADMITTED, with inhibit off and on, beside an end that is identified and one that is not; the entry from
ADMITTED is a departure too, of an end that queues frames. -/
theorem witness_BeaconsNameThePeer :
    (decodeBeacon (beaconOf 0x54 0x35).body = some (peerOf 5204 53) ∧
      decodeBeacon (beaconOf 0x55 0x35).body = some (peerOf 5205 53) ∧
      decodeBeacon (beaconOf 0x54 0x34).body = some (peerOf 5204 52)) ∧
    (∀ s ∈ [node, inhibited node, unidentified, inhibited unidentified, unadmitted .end2 node, uncoupled .end1 node,
        leaving],
      (∀ f ∈ [beaconOf 0x54 0x35, beaconOf 0x55 0x35, beaconOf 0x54 0x34], s.Hears .end2 .lineA kindBeacon f) ∧
      s.bypass.state = .off ∧ s.engine.state ≠ .alerted ∧ s.engine.state ≠ .mismatch) ∧
    ((node.modEnd .end2 (fun u => { u with peer := some (peerOf 5204 53) })).endStateOf .end2 =
        (node.endUnit .end2).state ∧ ∀ q, (node.endUnit .end2).peer = some q → q.tag = 5204) ∧
    ((node.endUnit .end2).state.identified = true ∧ (∃ q, (node.endUnit .end2).peer = some q ∧ q.tag ≠ 5205) ∧
      node.engine.effective.inhibit = false ∧ (inhibited node).engine.effective.inhibit = true) ∧
    ((leaving.endUnit .end2).state = .admitted ∧ (unidentified.endUnit .end2).state = .coupling ∧
      ∀ s ∈ [leaving, unidentified],
        (s.modEnd .end2 (fun u => { u with peer := some (peerOf 5204 52) })).endStateOf .end2 = .unadmitted) ∧
    (unidentified.modEnd .end2 (fun u => { u with peer := some (peerOf 5204 53) })).endStateOf .end2 = .admitted ∧
    (uncoupled .end1 node).identified EndId.end2.other = false := by
  refine ⟨by decide +kernel, by simp only [State.Hears]; decide +kernel,
    ⟨by decide +kernel, all_of (by decide +kernel)⟩, ⟨by decide +kernel, some_of (by decide +kernel), by decide +kernel⟩,
    by decide +kernel, by decide +kernel⟩

/-- An ALERT from car 8800. -/
def alertFrame (hops : Nat) (restart : Bool) : RawFrame := arriving (.alert 8800 hops restart .alerted)

/-- Nodes that an ALERT rouses: QUIET, FAILED, and RELAYING under the restart flag; hop counts 1, 23 and 24; a lone
other end; inhibit on in QUIET, FAILED and CLOSED; MISMATCH with inhibit off. And nodes that it leaves. -/
theorem witness_AlertsRouseTheNode :
    (∀ s ∈ [node, engineIn .failed none node, engineIn .relaying none node, engineIn .alerted none node,
        engineIn .leading none node, unidentified, uncoupled .end1 node, inhibited node,
        inhibited (engineIn .failed none node), inhibited (engineIn .closed none node),
        inhibited (uncoupled .end1 node), engineIn .mismatch none node, inhibited (engineIn .mismatch none node)],
      Arrives s .end2 .lineA kindAlert (alertFrame 1 true) ∧ Arrives s .end2 .lineA kindAlert (alertFrame 1 false) ∧
      Arrives s .end2 .lineA kindAlert (alertFrame 23 true) ∧ Arrives s .end2 .lineA kindAlert (alertFrame 24 true)) ∧
    ((∀ h ∈ [1, 23, 24], ∀ r ∈ [true, false],
      decodeAlert (alertFrame h r).body = some { originator := 8800, hops := h, restart := r, sender := .alerted }) ∧
    unidentified.identified .end2 = false ∧ (engineIn .alerted none node).engine.state = .alerted ∧
    (engineIn .leading none node).engine.state = .leading ∧
    (node.identified .end2 = true ∧ (8800 : Tag) ≠ node.ownTag ∧ node.engine.state = .quiet ∧
      node.engine.effective.inhibit = false ∧ node.identified EndId.end2.other = true ∧
      (node.endUnit EndId.end2.other).ControlRoom) ∧
    (engineIn .failed none node).engine.state = .failed ∧
    (engineIn .relaying none node).engine.state ≠ .alerted ∧
    ((uncoupled .end1 node).identified EndId.end2.other = false ∧
      ((uncoupled .end1 node).endUnit .end2).ControlRoom) ∧
    (inhibited node).engine.state = .quiet ∧ (inhibited node).engine.effective.inhibit = true ∧
    (inhibited node).identified EndId.end2.other = true ∧
    ((inhibited (engineIn .failed none node)).engine.state = .failed ∧
      (inhibited (engineIn .closed none node)).engine.state = .closed ∧
      (inhibited (uncoupled .end1 node)).identified EndId.end2.other = false) ∧
    ((engineIn .mismatch none node).engine.state = .mismatch ∧
      (engineIn .mismatch none node).engine.effective.inhibit = false ∧
      (inhibited (engineIn .mismatch none node)).engine.effective.inhibit = true)) := by
  constructor
  · simp only [List.forall_mem_cons, List.not_mem_nil, false_implies, implies_true, and_true]
    repeat' with_reducible apply And.intro
    all_goals exact arrives_of (by decide +kernel)
  · simp only [EndUnit.ControlRoom]
    decide +kernel

/-- A frame as it is sent passes the frame check, whatever its length. -/
theorem rawFrameOf_passes (kind : Byte) (bit : Bool) (body : List Byte) (h : body.length < 256) :
    framePasses kind (rawFrameOf kind bit body) = true := by
  simp [framePasses, rawFrameOf, natByte, Nat.mod_eq_of_lt h]

theorem arrives_long {s : State} {e : EndId} {x : LineId} {kind : Byte} {body : List Byte}
    (hb : body.length < 256)
    (h : ((s.line e x).state == .active && (s.line e x).holdTimer == none &&
      (s.line e x).tx == Transmitter.idle && (s.endUnit e).receiver.isNone) = true) :
    Arrives s e x kind (rawFrameOf kind true body) := by
  simp only [Bool.and_eq_true, beq_iff_eq] at h
  refine ⟨⟨h.1.1.1, rawFrameOf_passes _ _ _ hb⟩, ⟨h.1.1.2, h.1.2⟩, fun r hr => ?_⟩
  simp [hr] at h

/-- The list that a tally of attempt 8800 brings. -/
def shortList : List ListedEntry := [listed 1 8800 41, listed 2 5000 41]

theorem witness_TalliesAreRelayedOrClosed :
    (∀ s ∈ [node, engineIn .failed none node, engineIn .mismatch none node, engineIn .alerted none node,
        uncoupled .end1 node, inhibited node,
        engineIn .relaying (some { attempt := { tag := 2100, claim := false, number := 10 }, role := .relay,
                                   tallyEnd := some .end1, ownPosition := 2 }) node,
        engineIn .leading (some { attempt := { tag := 1, claim := true, number := 1 }, role := .starter,
                                  tallyEnd := none, ownPosition := 1 }) node],
      Arrives s .end2 .lineA kindTally (arriving (.tally attempt8800 shortList)) ∧
      Arrives s .end2 .lineA kindTally (arriving (.tally attempt8800 fullList))) ∧
    (decodeTally (arriving (.tally attempt8800 shortList)).body = some (attempt8800, shortList) ∧
      decodeTally (arriving (.tally attempt8800 fullList)).body = some (attempt8800, fullList) ∧
      fullList.length = 24) ∧
    (node.identified .end2 = true ∧ node.engine.state = .quiet ∧ node.engine.effective.inhibit = false ∧
      node.identified EndId.end2.other = true ∧ (node.endUnit EndId.end2.other).ControlRoom) ∧
    (ListSound node.ownTag ((shortList ++ [node.ownEntry 3 .reversed]).map ListedEntry.entry) ∧
      (uncoupled .end1 node).identified EndId.end2.other = false) ∧
    AttemptId.better { tag := 2100, claim := false, number := 10 } attempt8800 = false ∧
    AttemptId.better { tag := 1, claim := true, number := 1 } attempt8800 = true ∧
    (inhibited node).engine.effective.inhibit = true ∧ (engineIn .mismatch none node).engine.state = .mismatch ∧
    (engineIn .failed none node).engine.state = .failed := by
  refine ⟨?_, by decide +kernel, ?_, ?_, by decide +kernel⟩
  · simp only [List.forall_mem_cons, List.not_mem_nil, false_implies, implies_true, and_true]
    repeat' with_reducible apply And.intro
    all_goals exact arrives_long (by decide +kernel) (by decide +kernel)
  all_goals simp only [EndUnit.ControlRoom, ListSound]; decide +kernel

/-- The node that relays attempt 8800 at position 3, its tally end End 1. -/
def relaying8800 : State :=
  engineIn .relaying (some { attempt := attempt8800, role := .relay, tallyEnd := some .end1, ownPosition := 3 }) node

/-- The list of four cars that this one, at position 3, finds in the closure. -/
def closedList : List ListedEntry := shortList ++ [node.ownEntry 3 .direct, listed 4 2100 65535]

/-- An attempt of this node, and the node LEADING it. -/
def ownAttempt : AttemptId := { tag := 5203, claim := false, number := 1 }

def leadingOwn : State :=
  engineIn .leading (some { attempt := ownAttempt, role := .starter, tallyEnd := none, ownPosition := 1 }) node

/-- The list of two cars that this one starts. -/
def startedList : List ListedEntry := [node.ownEntry 1 .direct, listed 2 2100 65535]

/-- Two cars that both claim, this one first; and lists in which a tag stands twice, this car at position 3 and 1. -/
def claimingList : List ListedEntry :=
  [{ entry := car 1 5203 .direct 12 .cab true, prior := 53 }, { entry := car 2 7 .reversed 1 .cab true, prior := 9 }]

def twiceAt3 : List ListedEntry := [listed 1 8800 41, listed 2 5000 41, listed 3 5203 41, listed 4 5000 41]
def twiceAt1 : List ListedEntry := [listed 1 5203 41, listed 2 5000 41, listed 3 5000 41]

def checkOf (entries : List ListedEntry) : Word := crc16 ((entries.map ListedEntry.entry).flatMap Entry.bytes)

/-- A CLOSURE as it arrives. -/
def closing (a : AttemptId) (entries : List ListedEntry) (check : Word) : RawFrame :=
  arriving (.closure a entries check)

/-- A relay, and a starter of count 0, of count 4 and with inhibit on, that a CLOSURE of their attempt reaches: lists that
carry the node's entry and lists that do not, sound and with a tag twice, with two claims, with the check that agrees and with
one that does not. And a node without a context. -/
theorem witness_ClosuresAreHeldAndCommitted :
    ((∀ l ∈ [closedList, shortList, twiceAt3], Arrives relaying8800 .end2 .lineA kindClosure (closing attempt8800 l 0)) ∧
      Arrives relaying8800 .end2 .lineA kindClosure (closing attempt8800 closedList (checkOf closedList)) ∧
      Arrives node .end2 .lineA kindClosure (closing attempt8800 shortList 0) ∧
      (∀ l ∈ [startedList, claimingList, twiceAt1, shortList],
        Arrives leadingOwn .end2 .lineA kindClosure (closing ownAttempt l 0)) ∧
      (∀ l ∈ [startedList, claimingList],
        Arrives leadingOwn .end2 .lineA kindClosure (closing ownAttempt l (checkOf l))) ∧
      ∀ s ∈ [inhibited leadingOwn, { leadingOwn with engine := { leadingOwn.engine with count := 4 } }],
        Arrives s .end2 .lineA kindClosure (closing ownAttempt startedList 0)) ∧
    ((∀ l ∈ [closedList, shortList, twiceAt3, startedList, claimingList, twiceAt1],
        ∀ a ∈ [attempt8800, ownAttempt], decodeClosure (closing a l 0).body = some (a, l, 0)) ∧
      (∀ l ∈ [closedList, startedList, claimingList], checkOf l ≠ 0) ∧
      decodeClosure (closing attempt8800 closedList (checkOf closedList)).body =
        some (attempt8800, closedList, checkOf closedList) ∧
      (∀ l ∈ [startedList, claimingList],
        decodeClosure (closing ownAttempt l (checkOf l)).body = some (ownAttempt, l, checkOf l)) ∧
      node.engine.context = none) ∧
    ((relaying8800.identified .end2 = true ∧ attempt8800.tag ≠ relaying8800.ownTag ∧
        relaying8800.engine.state = .relaying ∧ (relaying8800.endUnit EndId.end2.other).ControlRoom) ∧
      (leadingOwn.identified .end2 = true ∧ ownAttempt.tag = leadingOwn.ownTag ∧
        leadingOwn.engine.state = .leading ∧ (leadingOwn.endUnit .end2).ControlRoom ∧
        leadingOwn.engine.context =
          some { attempt := ownAttempt, role := .starter, tallyEnd := none, ownPosition := 1 })) ∧
    ((∀ l ∈ [closedList, twiceAt3], ∃ n ∈ l, n.entry.position = 3 ∧ n.entry.tag = 5203) ∧
      (∀ n ∈ shortList, n.entry.position = 3 → n.entry.tag ≠ 5203) ∧
      (∀ l ∈ [startedList, claimingList, twiceAt1], ∃ n ∈ l, n.entry.position = 1 ∧ n.entry.tag = 5203) ∧
      ∀ n ∈ shortList, n.entry.position = 1 → n.entry.tag ≠ 5203) ∧
    (∀ l ∈ [closedList, startedList, claimingList], ListSound 5203 (l.map ListedEntry.entry)) ∧
    (∀ l ∈ [twiceAt3, twiceAt1], ListFormed 5203 (l.map ListedEntry.entry) ∧
      ¬ ((l.map ListedEntry.entry).map Entry.tag).Nodup) ∧
    2 ≤ (claimingList.filter (fun n => n.entry.claim)).length := by
  refine ⟨?_, by decide +kernel, ?_, by decide +kernel, ?_, ?_, by decide +kernel⟩
  · simp only [List.forall_mem_cons, List.not_mem_nil, false_implies, implies_true, and_true]
    repeat' with_reducible apply And.intro
    all_goals exact arrives_of (by decide +kernel)
  · simp only [EndUnit.ControlRoom]
    decide +kernel
  · simp only [ListSound]
    decide +kernel
  · simp only [ListFormed]
    decide +kernel

/-- The node CLOSED over the closed list, and another attempt. -/
def closed8800 : State :=
  { engineIn .closed (some { attempt := attempt8800, role := .relay, tallyEnd := some .end1, ownPosition := 3 })
      node with
    candidate := some (candidateOf 5203 attempt8800 closedList) }

/-- A COMMIT that fits, one with a wrong check, one under the generation held, and one that finds no candidate. -/
theorem witness_CommitsInstallTheCandidate :
    (let c := candidateOf 5203 attempt8800 closedList
     closed8800.candidate = some c ∧ c.attempt = attempt8800 ∧ c.Sound closed8800.ownTag ∧
       closed8800.identified .end2 = true ∧ (closed8800.endUnit .end2).ControlRoom ∧
       c.ownPosition < c.entries.length ∧
       ∀ gc ∈ [((54 : Word), c.check), (54, c.check + 1), (53, c.check)],
         Arrives closed8800 .end2 .lineA kindCommit (arriving (.commit attempt8800 gc.1 gc.2)) ∧
         decodeCommit (arriving (.commit attempt8800 gc.1 gc.2)).body = some (attempt8800, gc.1, gc.2)) ∧
    Arrives node .end2 .lineA kindCommit (arriving (.commit attempt8800 54 0)) ∧ node.candidate = none := by
  refine ⟨⟨rfl, rfl, ?_, by decide +kernel, ?_, by decide +kernel, ?_⟩, arrives_of (by decide +kernel), rfl⟩
  · simp only [Candidate.Sound, ListSound]
    decide +kernel
  · simp only [EndUnit.ControlRoom]
    decide +kernel
  · simp only [List.forall_mem_cons, List.not_mem_nil, false_implies, implies_true, and_true]
    repeat' with_reducible apply And.intro
    all_goals first | decide +kernel | exact arrives_of (by decide +kernel)

/-- The starter with an attempt count, as a middle node and as an extremity. -/
def starting (count : Nat) (s : State) : State := { s with engine := { leadingOwn.engine with count := count } }

/-- A structural reason and a retryable one, at a relay and at the starter, its attempt count 3 and 4, a middle node and an
extremity with one control frame waiting, inhibit off and on; and a DEFER. -/
theorem witness_DissentsAndDefersTravelToTheStarter :
    (∀ r ∈ [DissentReason.overlength, DissentReason.duplicateTag, DissentReason.entryMismatch,
        DissentReason.checkMismatch],
      Arrives relaying8800 .end2 .lineA kindDissent (arriving (.dissent attempt8800 r)) ∧
      decodeDissent (arriving (.dissent attempt8800 r)).body = some (attempt8800, r) ∧
      Arrives leadingOwn .end2 .lineA kindDissent (arriving (.dissent ownAttempt r)) ∧
      decodeDissent (arriving (.dissent ownAttempt r)).body = some (ownAttempt, r)) ∧
    (relaying8800.identified .end2 = true ∧ (relaying8800.endUnit EndId.end2.other).ControlRoom ∧
      attempt8800.tag ≠ relaying8800.ownTag ∧ relaying8800.engine.state ≠ .failed) ∧
    (ownAttempt.tag = leadingOwn.ownTag ∧ (starting 4 node).engine.state = .leading ∧
      (starting 4 node).engine.count = 4) ∧
    (∀ s ∈ [starting 3 node, inhibited (starting 3 node), starting 3 (uncoupled .end1 node)],
      Arrives s .end2 .lineA kindDissent (arriving (.dissent ownAttempt .checkMismatch)) ∧
      s.identified .end2 = true ∧ s.engine.state = .leading ∧ s.engine.count < 4 ∧
      s.engine.context = some { attempt := ownAttempt, role := .starter, tallyEnd := none, ownPosition := 1 }) ∧
    (let s := (starting 3 node).accepted .end2 .lineA true
     s.identified .end1 = true ∧ s.identified .end2 = true ∧ s.end1.ControlRoom ∧ s.end2.ControlRoom) ∧
    (let s := (starting 3 (uncoupled .end1 node)).accepted .end2 .lineA true
     s.identified .end2 = true ∧ s.identified EndId.end2.other = false ∧
       (s.endUnit .end2).queues.control.length ≤ 2) ∧
    ((starting 3 node).engine.effective.inhibit = false ∧
      (inhibited (starting 3 node)).engine.effective.inhibit = true) ∧
    (Arrives relaying8800 .end2 .lineA kindDefer (arriving (.defer attempt8800 1)) ∧
      decodeDefer (arriving (.defer attempt8800 1)).body = some (attempt8800, 1) ∧
      relaying8800.engine.state = .relaying) ∧
    (Arrives leadingOwn .end2 .lineA kindDefer (arriving (.defer ownAttempt 1)) ∧
      decodeDefer (arriving (.defer ownAttempt 1)).body = some (ownAttempt, 1)) ∧
    Arrives node .end2 .lineA kindDefer (arriving (.defer attempt8800 1)) ∧ node.engine.state ≠ .relaying := by
  refine ⟨?_, ?_, by decide +kernel, ?_, ?_, by decide +kernel, by decide +kernel,
    ⟨arrives_of (by decide +kernel), by decide +kernel⟩, ⟨arrives_of (by decide +kernel), by decide +kernel⟩,
    arrives_of (by decide +kernel), by decide +kernel⟩
  · simp only [List.forall_mem_cons, List.not_mem_nil, false_implies, implies_true, and_true]
    repeat' with_reducible apply And.intro
    all_goals first | decide +kernel | exact arrives_of (by decide +kernel)
  · simp only [EndUnit.ControlRoom]
    decide +kernel
  · simp only [List.forall_mem_cons, List.not_mem_nil, false_implies, implies_true, and_true]
    repeat' with_reducible apply And.intro
    all_goals first | decide +kernel | exact arrives_of (by decide +kernel)
  · simp only [EndUnit.ControlRoom]
    decide +kernel

/-- A frame made under generation 52. -/
def oldFrame (origin : Origin) : DataRecord :=
  { frame := { target := 1, hops := 5, origin := 6, generation := 52, cls := .process, payload := [9] }
    origin := origin }

/-- The node whose End 2 holds PROCESS frames. -/
def holdingFrames (rs : List DataRecord) : State :=
  node.modEnd .end2 (fun u => { u with queues := { u.queues with process := rs, reliefProcess := 5 } })

theorem forall_class {P : TrafficClass → Prop} : (∀ c, P c) ↔ P .command ∧ P .process ∧ P .bulk :=
  ⟨fun h => ⟨h _, h _, h _⟩, fun h c => by cases c; exacts [h.1, h.2.1, h.2.2]⟩

/-- A frame of another generation, at the head of its queue and behind a fresh one: a THROUGH frame; messages to a position,
to a tag that is unknown, to this car, to the same end, and to the other end with room, without room and not ADMITTED. -/
theorem witness_CommitsPurgeAndReadmit :
    (∀ before ∈ [[], [dataOf 1 5 .process .through]],
      ∀ origin ∈ [Origin.through, .local_ .laneB (.position 1) 52, .local_ .laneB (.tag 7777) 52,
        .local_ .laneB (.tag 5203) 52, .local_ .laneB (.tag 4101) 52, .local_ .laneB (.tag 5201) 52],
      let after := [dataOf 1 5 .process .through]
      let s := holdingFrames (before ++ oldFrame origin :: after)
      (s.endUnit .end2).queues.classQueue .process = before ++ oldFrame origin :: after ∧
      (oldFrame origin).frame.cls = .process ∧ (oldFrame origin).frame.generation ≠ s.directory.generation ∧
      (∀ n ∈ before ++ after, n.frame.generation = s.directory.generation) ∧
      ∀ e cls, e ≠ .end2 ∨ cls ≠ .process →
        ∀ n ∈ (s.endUnit e).queues.classQueue cls, n.frame.generation = s.directory.generation) ∧
    (∀ w, Address.position 1 ≠ .tag w) ∧ record.resolve (.tag 7777) = .unknownTag ∧
    record.resolve (.tag 5203) = .loopback ∧ record.resolve (.tag 4101) = .resolved 1 .end2 5 ∧
    record.resolve (.tag 5201) = .resolved 8 EndId.end2.other 2 ∧
    (∀ (s : State) (r : ReceiveEntry), ∃ t, s.Delivers r t) ∧
    ((node.endUnit EndId.end2.other).state = .admitted ∧
      (node.endUnit EndId.end2.other).queues.hasRoom .process = true) ∧
    (unidentified.endUnit .end2).state ≠ .admitted ∧
    EndQueues.hasRoom { EndQueues.empty with process := List.replicate 16 (dataOf 8 1 .process .through) }
      .process = false ∧
    node.end1.state = node.endStateOf .end1 ∧ node.end2.state = node.endStateOf .end2 := by
  refine ⟨?_, nofun, by decide +kernel, by decide +kernel, by decide +kernel, by decide +kernel,
    fun s r => State.exists_delivers r s, by decide +kernel⟩
  simp only [forall_end, forall_class]
  decide +kernel

/-- A DATA frame for a position with so many hops, from position 4 under a generation. -/
def dataFrame (cls : TrafficClass) (target hops generation : Nat) : DataFrame :=
  { target := target, hops := hops, origin := 4, generation := BitVec.ofNat 16 generation, cls := cls,
    payload := [7] }

/-- A lane whose receive queue is full of COMMAND entries. -/
def blockedLane : LanePort := { crowded with receiveQueue := List.replicate 16 { broadcastEntry with cls := .command } }

/-- The target positions 0, 1, 5, 6, 8, 9 and 24, hop counts 1, 2 and 23, another generation, an end that is not ADMITTED, a
BULK queue with one place left and with none; lanes that take the frame in every way, none attached, and one that takes no
COMMAND frame. -/
theorem witness_DataFramesAreDeliveredForwardedOrHeld :
    (∀ s ∈ [node, { node with laneB := crowded }, { node with laneB := blockedLane },
        { node with laneA := LanePort.reset false }, at2 { admittedEnd 5204 .end1 with state := .unadmitted },
        node.modEnd .end1 (fun u => { u with state := .unadmitted }),
        node.modEnd .end1 (fun u => { u with queues := { u.queues with
          bulk := List.replicate 15 (dataOf 8 1 .bulk .through) } }),
        node.modEnd .end1 (fun u => { u with queues := { u.queues with
          bulk := List.replicate 16 (dataOf 8 1 .bulk .through) } })],
      ∀ d ∈ [dataFrame .bulk 6 1 53, dataFrame .command 6 1 53, dataFrame .bulk 6 2 53, dataFrame .bulk 8 1 53,
        dataFrame .bulk 8 2 53, dataFrame .bulk 7 23 53, dataFrame .bulk 1 2 53, dataFrame .bulk 5 23 53,
        dataFrame .bulk 9 1 53, dataFrame .bulk 24 23 53, dataFrame .bulk 0 1 53, dataFrame .command 0 1 53,
        dataFrame .bulk 0 2 53, dataFrame .command 0 23 53, dataFrame .bulk 6 1 54],
      s.Hears .end2 .lineA kindData (rawFrameOf kindData true d.body) ∧
      (s.line .end2 .lineA).FreeToSend ∧ (s.endUnit .end2).receiver = none ∧
      decodeData (rawFrameOf kindData true d.body).body = some d) ∧
    ((node.endUnit .end2).state = .admitted ∧ node.directory.ownPosition = some 6 ∧
      node.directory.ownOrientation = some .reversed ∧ node.directory.generation = 53 ∧
      node.directory.entries.length = 8) ∧
    (∀ (s : State) (r : ReceiveEntry), ∃ t, s.Delivers r t) ∧
    State.CommandBlocked { node with laneB := blockedLane } ∧ ¬ node.CommandBlocked ∧
    ¬ State.CommandBlocked { node with laneB := crowded } ∧
    (Orientation.reversed.upEnd = EndId.end2.other ∧ Orientation.reversed.downEnd = .end2) ∧
    (node.endUnit EndId.end2.other).state = .admitted ∧
    EndQueues.hasRoom { EndQueues.empty with bulk := List.replicate 15 (dataOf 8 1 .bulk .through) } .bulk = true ∧
    EndQueues.hasRoom { EndQueues.empty with bulk := List.replicate 16 (dataOf 8 1 .bulk .through) } .bulk = false := by
  refine ⟨?_, by decide +kernel, fun s r => State.exists_delivers r s, ⟨.laneB, by decide +kernel⟩, ?_, ?_,
    by decide +kernel⟩
  · simp only [State.Hears, LineUnit.FreeToSend]
    decide +kernel
  · rintro ⟨l, hl⟩
    revert hl
    cases l <;> decide +kernel
  · rintro ⟨l, hl⟩
    revert hl
    cases l <;> decide +kernel

/-! ### The sender, the arbiter and the resolver -/

/-- A LOCAL frame of lane A. -/
def localFrame : HeldFrame := .data (dataOf 1 5 .command (.local_ .laneA (.position 1) 53))

/-- The awaiting sender after so many holds, its line A recentring on the PATTERN-REQUEST where it holds one. -/
def held (holds : Nat) (h : HeldFrame) : State :=
  (awaiting h node).modEnd .end2 (fun u => { u with sender := { u.sender with holds := holds } })

/-- The sender that waits out a hold. -/
def backing (h : HeldFrame) : State :=
  (awaiting h node).modEnd .end2 (fun u =>
    { u with sender := { u.sender with state := .backing, sends := 0, holds := 1, timer := .holdWait } })

/-- The sender whose frame has moved to line B and waits there for a pattern hold, last sent on line A. -/
def moving (h : HeldFrame) : State :=
  (awaiting h node).modEnd .end2 (fun u => { u with sender := { u.sender with
    moved := true, currentLine := .lineB, sends := 0, timer := .stopped, waitsHold := true } })

/-- ACCEPT, REFUSE and HOLD that match in AWAITING, also where a send waits for a hold, and in BACKING, a frame with 1998
and with 1999 holds, a PATTERN-REQUEST, and replies with the other bit and to an IDLE sender. -/
theorem witness_RepliesEndOrBackTheFrame :
    (∀ s ∈ [held 0 localFrame, held 1998 localFrame, held 1999 localFrame, backing localFrame, moving localFrame],
      s.Hears .end2 .lineA kindAccept (rawFrameOf kindAccept true []) ∧
      s.Hears .end2 .lineA kindHold (rawFrameOf kindHold true []) ∧
      s.Hears .end2 .lineA kindRefuse (rawFrameOf kindRefuse true [0x03]) ∧
      ((s.endUnit .end2).sender.state = .awaiting ∨ (s.endUnit .end2).sender.state = .backing) ∧
      (s.endUnit .end2).sender.currentBit = frameBit (rawFrameOf kindHold true []) ∧
      (s.endUnit .end2).sender.frame = some localFrame) ∧
    (∀ h ∈ [HeldFrame.control (.patternRequest .lineA true), .data (dataOf 5 1 .command .through)],
      ∀ s ∈ [held 0 h, held 1999 h],
      s.Hears .end2 .lineA kindRefuse (rawFrameOf kindRefuse true [0x03]) ∧ (s.endUnit .end2).sender.frame = some h) ∧
    ((moving localFrame).endUnit .end2).sender.lastLine ≠ ((moving localFrame).endUnit .end2).sender.currentLine ∧
    decodeRefuse (rawFrameOf kindRefuse true [0x03]).body = some .stale ∧
    ((held 1998 localFrame).endUnit .end2).sender.holds + 1 < 2000 ∧
    ((held 1999 localFrame).endUnit .end2).sender.holds + 1 = 2000 ∧
    (let s := lineA2 (fun n => { n with recentre := .requested }) (held 0 (.control (.patternRequest .lineA true)))
     s.Hears .end2 .lineB kindAccept (rawFrameOf kindAccept true []) ∧
       (s.endUnit .end2).sender.frame = some (.control (.patternRequest .lineA true)) ∧
       (s.line .end2 .lineA).recentre = .requested) ∧
    (((held 0 localFrame).endUnit .end2).sender.currentBit ≠ frameBit (rawFrameOf kindHold false []) ∧
      (held 0 localFrame).Hears .end2 .lineA kindHold (rawFrameOf kindHold false [])) ∧
    (node.endUnit .end2).sender.state = .idle := by
  simp only [State.Hears]
  decide +kernel

/-- The awaiting sender after its third send, moved or not, on a line with an unanswered run. -/
def thirdSend (moved : Bool) (unanswered : Nat) (partner : LineUnit) : State :=
  at2 { admittedEnd 5204 .end1 with
    lineA := { activeLine with unanswered := unanswered }, lineB := partner
    sender := { Sender.reset with
      state := .awaiting, frame := some localFrame, currentBit := true, moved := moved, sends := 3
      timer := .reply } }

theorem thirdSend_lines (m : Bool) : (thirdSend m 1 activeLine).LinesKept ∧ (thirdSend m 2 activeLine).LinesKept ∧
    (thirdSend m 1 (LineUnit.reset true)).LinesKept := by
  refine ⟨at2_lines ?_, at2_lines ?_, at2_lines ?_⟩ <;>
    simp only [EndUnit.LinesKept, EndUnit.EveryLine, LineUnit.Kept, EndUnit.TrainerKept, forall_line] <;> cases m
  all_goals repeat' with_reducible apply And.intro
  all_goals decide +kernel

theorem awaiting_lines : (awaiting localFrame node).LinesKept := by
  refine at2_lines ?_
  simp only [EndUnit.LinesKept, EndUnit.EveryLine, LineUnit.Kept, EndUnit.TrainerKept, forall_line]
  repeat' with_reducible apply And.intro
  all_goals decide +kernel

/-- A PENDING frame, with the recentring mark of line A. -/
def pendingFrame (a b : RecentreMark) : State :=
  at2 { admittedEnd 5204 .end1 with
    lineA := { activeLine with recentre := a }, lineB := { activeLine with recentre := b }
    sender := { Sender.reset with state := .pending, frame := some localFrame } }

/-- Sends 1 and 3, moved and not, an ACTIVE partner and a DARK one, unanswered runs 1 and 2; a hold wait; and a PENDING
frame with line A ready, line B alone ready, and neither. -/
theorem witness_UnansweredSendsRepeatMoveAndEnd :
    ((awaiting localFrame node).LinesKept ∧ ((awaiting localFrame node).endUnit .end2).sender.frame = some localFrame ∧
      ((awaiting localFrame node).endUnit .end2).sender.state = .awaiting ∧
      ((awaiting localFrame node).endUnit .end2).sender.timer = .reply ∧
      ((awaiting localFrame node).endUnit .end2).sender.waitsHold = false ∧
      ((awaiting localFrame node).endUnit .end2).sender.sends < 3 ∧
      ((awaiting localFrame node).line .end2 .lineA).tx.frameDue = false ∧
      ((awaiting localFrame node).line .end2 .lineA).holdTimer = none) ∧
    (let s := lineA2 (fun n => { n with tx := { n.tx with frameDue := true } }) (awaiting localFrame node)
     (s.endUnit .end2).sender.frame = some localFrame ∧ (s.endUnit .end2).sender.state = .awaiting ∧
       (s.line .end2 (s.endUnit .end2).sender.currentLine).tx.frameDue = true) ∧
    (let s := thirdSend false 1 activeLine
     s.LinesKept ∧ (s.line .end2 .lineA).tx.frameDue = false ∧ (s.endUnit .end2).sender.sends = 3 ∧ (s.endUnit .end2).sender.moved = false ∧
       (s.line .end2 LineId.lineA.partner).state = .active ∧ (s.line .end2 LineId.lineA.partner).holdTimer = none ∧
       (s.line .end2 .lineA).unanswered < 2) ∧
    ((thirdSend true 1 activeLine).LinesKept ∧
      ((thirdSend true 1 activeLine).endUnit .end2).sender.moved = true) ∧
    ((thirdSend false 1 (LineUnit.reset true)).LinesKept ∧
      ((thirdSend false 1 (LineUnit.reset true)).line .end2 LineId.lineA.partner).state ≠ .active) ∧
    ((thirdSend false 2 activeLine).LinesKept ∧ ((thirdSend false 2 activeLine).line .end2 .lineA).unanswered = 2) ∧
    (((backing localFrame).endUnit .end2).sender.state = .backing ∧
      ((backing localFrame).endUnit .end2).sender.timer = .holdWait ∧
      ((backing localFrame).endUnit .end2).sender.sends = 0) ∧
    (let s := pendingFrame .none .none
     (s.endUnit .end2).sender.state = .pending ∧ (s.endUnit .end2).sender.sends = 0 ∧
       (s.line .end2 .lineA).state = .active ∧ (s.line .end2 .lineA).recentre = .none ∧
       (s.line .end2 .lineA).holdTimer = none) ∧
    (((pendingFrame .sweeping .none).line .end2 .lineA).recentre ≠ .none ∧
      ((pendingFrame .sweeping .none).line .end2 .lineB).recentre = .none) ∧
    ((pendingFrame .sweeping .sweeping).line .end2 .lineB).recentre ≠ .none :=
  ⟨⟨awaiting_lines, by decide +kernel⟩, by decide +kernel, ⟨(thirdSend_lines _).1, by decide +kernel⟩,
    ⟨(thirdSend_lines _).1, by decide +kernel⟩, ⟨(thirdSend_lines _).2.2, by decide +kernel⟩,
    ⟨(thirdSend_lines _).2.1, by decide +kernel⟩, by decide +kernel⟩

/-- An ADMITTED end with some queues and relief counts. -/
def queued (c p b : Nat) (reliefP reliefB : Nat) : EndUnit :=
  { admittedEnd 5204 .end1 with queues := { EndQueues.empty with
      command := List.replicate c (marked .command 1), process := List.replicate p (marked .process 2)
      bulk := List.replicate b (marked .bulk 3), reliefProcess := reliefP, reliefBulk := reliefB } }

/-- No offer: a busy sender, an end without a line, an end not identified, an UNADMITTED end without control frames, empty
queues. A control head; then the limits 32 and 16 of PROCESS and BULK just reached and just not; and each class head; with
line A free, line A sending, line A recentring and in hold beside a line B that is ready, and neither line ready. -/
theorem witness_ArbiterTakesTheFirstHead :
    ((held 0 localFrame).endUnit .end2).sender.state ≠ .idle ∧
    (∀ x, ((uncoupled .end2 node).line .end2 x).state ≠ .active) ∧
    (unidentified.endUnit .end2).state.identified = false ∧
    (∀ u ∈ [queued 0 0 0 0 0, queued 1 1 1 32 16, queued 1 1 1 31 16, queued 1 1 1 31 15, queued 0 1 1 31 15,
        queued 0 0 1 0 15],
      u.sender.state = .idle ∧ u.state = .admitted ∧ u.state.identified = true ∧ u.lineA.state = .active ∧
      u.lineA.recentre = .none ∧ u.lineA.FreeToSend ∧ u.queues.control = []) ∧
    (∀ w ∈ [(fun n => { n with recentre := .requested } : LineUnit → LineUnit),
        fun n => { n with holdTimer := some 1000 }],
      ∀ s ∈ [at2 (queued 1 1 1 31 15)],
      ((lineA2 w s).endUnit .end2).sender.state = .idle ∧ ((lineA2 w s).line .end2 .lineA).state = .active ∧
      ¬ (((lineA2 w s).line .end2 .lineA).recentre = .none ∧ ((lineA2 w s).line .end2 .lineA).holdTimer = none) ∧
      ((lineA2 w s).line .end2 .lineB).FreeToSend ∧ ((lineA2 w s).line .end2 .lineB).recentre = .none ∧
      ((((lineA2 w s).modLine .end2 .lineB w).line .end2 .lineB).recentre ≠ .none ∨
        (((lineA2 w s).modLine .end2 .lineB w).line .end2 .lineB).holdTimer ≠ none)) ∧
    (let s := lineA2 (fun n => { n with tx := { n.tx with sending := some (.reply true .accept) } })
        (at2 (queued 1 1 1 31 15))
     (s.endUnit .end2).sender.state = .idle ∧ (s.line .end2 .lineA).recentre = .none ∧
       (s.line .end2 .lineA).holdTimer = none ∧ (s.line .end2 .lineA).tx.sending.isSome) ∧
    node.store.working.reliefProcess = 32 ∧ node.store.working.reliefBulk = 16 ∧
    ({ EndQueues.empty with control := [.patternRequest .lineB true] } : EndQueues).control =
      .patternRequest .lineB true :: [] ∧
    EndState.unadmitted.identified = true := by
  simp only [forall_line, LineUnit.FreeToSend]
  decide +kernel

/-- The node with one message at the head of its send queue. -/
def sendingOut (address : Address) (accepted : Word) (s : State) : State :=
  { s with laneA := { s.laneA with sendQueue :=
      [{ address := address, cls := .bulk, payload := [7], accepted := accepted, upPlaced := false,
         downPlaced := false }] } }

/-- Heads that resolve (by POSITION, and by TAG though accepted under another generation), with room for one more and with
none, on an end that is ADMITTED and one that is not; one accepted under another generation; and a broadcast. -/
theorem witness_ResolverPlacesLosesOrWaits :
    ((∀ s ∈ [sendingOut (.position 8) 53 node, sendingOut (.tag 5201) 52 node, sendingOut (.position 8) 52 node,
        sendingOut .broadcast 53 node],
      s.resolver = .laneA ∧ (s.lane s.resolver).sendQueue.length = 1 ∧ (s.lane s.resolver.other).sendQueue = []) ∧
    node.directory.resolve (.position 8) = .resolved 8 .end1 2 ∧
    node.directory.resolve (.tag 5201) = .resolved 8 .end1 2 ∧ (52 : Word) ≠ node.directory.generation ∧
    (node.endUnit .end1).state = .admitted ∧
    EndQueues.hasRoom { EndQueues.empty with bulk := List.replicate 15 (dataOf 8 1 .bulk .through) } .bulk = true ∧
    EndQueues.hasRoom { EndQueues.empty with bulk := List.replicate 16 (dataOf 8 1 .bulk .through) } .bulk = false ∧
    ((uncoupled .end1 node).endUnit .end1).state ≠ .admitted ∧ node.directory.ownPosition = some 6 ∧
    6 < node.directory.entries.length) ∧
    (∀ w, Address.position 8 ≠ .tag w) ∧
    ∀ e, (node.endUnit e).state = .admitted ∧ (node.endUnit e).queues.hasRoom .bulk = true :=
  ⟨by decide +kernel, nofun, by simp only [forall_end]; decide +kernel⟩

/-! ### Deadline, bypass, scrub and store -/

/-- ALERTED with a deadline and an attempt count. -/
def alerted (count : Nat) (s : State) : State :=
  engineIn .alerted none { s with engine := { s.engine with count := count } }

/-- Attempt counts 3 and 4; inhibit on; a middle node, an extremity with two control frames waiting, a lone node. -/
theorem witness_DeadlineRetriesOrFails :
    ((alerted 4 node).engine.deadline.isSome ∧ 4 ≤ (alerted 4 node).engine.count) ∧
    ((alerted 3 (inhibited node)).engine.deadline.isSome ∧ (alerted 3 (inhibited node)).engine.count < 4 ∧
      (alerted 3 (inhibited node)).engine.effective.inhibit = true) ∧
    ((alerted 3 node).engine.effective.inhibit = false ∧ (alerted 3 node).identified .end1 = true ∧
      (alerted 3 node).identified .end2 = true ∧ (alerted 3 node).end1.ControlRoom ∧
      (alerted 3 node).end2.ControlRoom) ∧
    (let s := (alerted 3 (uncoupled .end1 node)).modEnd .end2 (fun u => { u with queues := { u.queues with
        control := [.patternRequest .lineA false, .patternRequest .lineB false] } })
     s.engine.deadline.isSome ∧ s.engine.count < 4 ∧ s.identified .end2 = true ∧
       s.identified EndId.end2.other = false ∧ (s.endUnit .end2).queues.control.length ≤ 2) ∧
    (let s := alerted 0 (uncoupled .end1 (uncoupled .end2 node))
     s.engine.deadline.isSome ∧ s.identified .end1 = false ∧ s.identified .end2 = false ∧ s.ownTag ≠ 0) := by
  simp only [EndUnit.ControlRoom]
  decide +kernel

/-- A node out of the train, its controller in a transit. -/
def transit (b : BypassState) (latched : LatchedCause) : State :=
  { State.reset with
    store := node.store
    bypass := { state := b, transition := some 15000, startUpComplete := true, latched := latched,
                scrubTimer := some 100000 } }

theorem witness_BypassTransitsEnd :
    ((transit .releasing .none).bypass.transition.isSome ∧ (transit .releasing .none).bypass.state = .releasing ∧
      (transit .releasing .none).HeldOut ∧ (transit .releasing .none).bypass.latched = .none ∧
      (transit .releasing .none).engine.effective.bypass = false ∧
      (transit .releasing .none).engine.effective.inhibit = false ∧ (transit .releasing .none).ownTag ≠ 0) ∧
    ((inhibited (transit .releasing .none)).HeldOut ∧
      (inhibited (transit .releasing .none)).engine.effective.inhibit = true) ∧
    (transit .releasing .integritySettings).bypass.latched ≠ .none ∧
    (transit .engaging .none).bypass.state = .engaging ∧ (transit .engaging .none).bypass.transition.isSome := by
  have h : (transit .releasing .none).HeldOut := by
    refine ⟨⟨fun _ => ⟨rfl, rfl⟩, fun _ => ⟨rfl, rfl⟩⟩, fun _ => ?_⟩
    simp only [State.EveryEnd, EndUnit.HeldOut]
    decide +kernel
  exact ⟨⟨rfl, rfl, h, by decide +kernel⟩, ⟨h, rfl⟩, by decide +kernel⟩

/-- Nothing spoilt; the directory spoilt in OFF; the settings spoilt in ENGAGED; and a cause latched already. -/
theorem witness_ScrubLatchesAndEngages :
    (node.bypass.scrubTimer.isSome ∧ crc16 (node.directory.entries.flatMap Entry.bytes) = node.directory.check ∧
      crc16 node.store.working.bytes = node.store.loadCheck) ∧
    (crc16 (spoilt.directory.entries.flatMap Entry.bytes) ≠ spoilt.directory.check ∧
      spoilt.bypass.latched = .none ∧ spoilt.bypass.state = .off ∧ spoilt.bypass.scrubTimer.isSome) ∧
    (let s := { transit .engaged .none with store := { node.store with loadCheck := 0 } }
     crc16 (s.directory.entries.flatMap Entry.bytes) = s.directory.check ∧
       crc16 s.store.working.bytes ≠ s.store.loadCheck ∧ s.bypass.latched = .none ∧ s.bypass.state ≠ .off ∧
       s.bypass.scrubTimer.isSome) ∧
    (transit .engaged .integrityTag).bypass.latched ≠ .none := by decide +kernel

/-- The node with a store operation running for lane B. -/
def operating (a : StoreActivity) : State :=
  { node with store := { node.store with activity := a, writingLane := some .laneB, operation := some 5000 } }

theorem witness_StoreOperationsRunAndEnd :
    ((asking codeLockCommissioning [] node).lane .laneA).slot = .pending codeLockCommissioning [] ∧
    ((operating .writing).store.operation.isSome ∧ (operating .writing).store.writingLane = some .laneB ∧
      (operating .writing).store.activity = .writing) ∧
    (operating .locking).store.activity = .locking ∧ (operating .locking).store.operation.isSome := by
  decide +kernel

/-! ### Lane ports -/

/-- A port held in reset; a slot PENDING at the start, EMPTY, and READY with a reply of 4 bytes, offered 3 and 4; a request
with the longest body and fill behind it; and bytes that are no request frame. -/
theorem witness_TransactionsCollectAndTake :
    (node.nrst = false ∧ (node.lane .laneA).lrst = false ∧ (node.lane .laneA).slot = .empty) ∧
    ((asking codeNull [] node).lane .laneA).slot = .pending codeNull [] ∧
    ({ node with nrst := true }).nrst = true ∧ ((node.modLane .laneA (fun p => { p with lrst := true })).lane
      .laneA).lrst = true ∧
    (let reply : Reply := { result := .done, body := [] }
     ((node.reply .laneA reply).lane .laneA).slot = .ready reply ∧ reply.frame.length = 4 ∧
       [(0 : Byte), 0, 0].length < reply.frame.length ∧ (requestFrame codeNull []).length = reply.frame.length) ∧
    (List.replicate 72 (0 : Byte)).length ≤ 72 ∧
    (∀ kind body fill, body.length ≤ 72 → [(0x05 : Byte), 0, 0, 0] ≠ requestFrame kind body ++ fill) := by
  refine ⟨by decide +kernel, by decide +kernel, by decide +kernel, by decide +kernel, by decide +kernel,
    by decide +kernel, ?_⟩
  intro kind body fill _ h
  have hb : body = [] ∧ fill = [] := by
    have := congrArg List.length h
    simp [requestFrame, wordBytes] at this
    exact ⟨List.length_eq_zero_iff.1 (by omega), List.length_eq_zero_iff.1 (by omega)⟩
  obtain ⟨rfl, rfl⟩ := hb
  have hk : kind = 0x05 := by
    have := congrArg List.head? h
    simpa [requestFrame] using this.symm
  subst hk
  revert h
  decide +kernel

/-- Each read request at an index or line at the ends of its range and past it, and a set of notices. -/
theorem witness_ReadsAnswerFromTheState :
    (∀ kb ∈ [((0x12 : Byte), ([] : List Byte)), (codeNull, []), (codeNull, [1]), (codeReadNode, []),
        (codeReadLines, [0]), (codeReadLines, [3]), (codeReadLines, [4]), (codeReadCounters, []),
        (codeReadNotices, []), (codeReadDirectory, [0]), (codeReadDirectory, [8]), (codeReadDirectory, [9]),
        (codeReadDirectory, [24]), (codeReadDirectory, [25]), (codeClearNotices, [0x0F, 0xFF]),
        (codeSetMask, [0, 0]), (codeReadNode, [1]), (codeReadLines, []), (codeReadCounters, [1]),
        (codeReadNotices, [1]), (codeReadDirectory, [0, 0]), (codeClearNotices, [1]), (codeSetMask, [0, 0, 0])],
      ((asking kb.1 kb.2 node).lane .laneA).slot = .pending kb.1 kb.2) ∧
    0x11 < (0x12 : Byte).toNat ∧ (3 : Byte) = lineCode .end2 .lineB ∧ 4 ≤ (4 : Byte).toNat ∧
    node.directory.generation ≠ 0 ∧ State.reset.directory.generation = 0 ∧
    node.directory.byPosition 8 = some (car 8 5201 .reversed 12 .cab false) ∧ node.directory.byPosition 9 = none ∧
    decodeNoticeSet [0x0F, 0xFF] = some 0xFFF := by decide +kernel

/-- The node whose attached lane A votes so, and the vote register with it, asking for other votes. -/
def revoting (was named : Votes) (s : State) : State :=
  asking codeSetVotes named.bytes
    { s with
      laneA := { s.laneA with attached := true, votes := was }
      engine := { s.engine with effective := was } }

/-- The node of a CAB. -/
def cabNode (s : State) : State :=
  { s with store := { s.store with working := { s.store.working with kind := .cab } } }

def inhibitOn : Votes := { inhibit := true, claim := false, bypass := false }
def claimOn : Votes := { inhibit := false, claim := true, bypass := false }
def bypassOn : Votes := { inhibit := false, claim := false, bypass := true }

/-- A detached lane attaches and an attached one detaches. Votes that change nothing; a bypass request in OFF, in RELEASING
and withdrawn in ENGAGED; a claim under inhibit off and on, in OFF and not, at a lone node, an extremity, a middle one and in
MISMATCH; inhibit turned on in each state of the engine; and turned off in MISMATCH with either cause. An attached lane that
attaches and a detached one that detaches, and bodies outside their forms. -/
theorem witness_VotesRecombine :
    ((∀ kb ∈ [(codeAttach, ([] : List Byte)), (codeAttach, [1]), (codeDetach, []), (codeDetach, [1]),
        (codeSetVotes, [0, 0]), (codeSetVotes, [0, 0, 2])],
      ∀ s ∈ [node, { node with laneA := LanePort.reset false }],
      ((asking kb.1 kb.2 s).lane .laneA).slot = .pending kb.1 kb.2) ∧
      (node.lane .laneA).attached = true ∧ (({ node with laneA := LanePort.reset false }).lane .laneA).attached = false) ∧
    (let s := { asking codeAttach [] node with laneA := { LanePort.reset false with
        slot := .pending codeAttach [] } }
     (s.lane .laneA).slot = .pending codeAttach [] ∧ (s.lane .laneA).attached = false) ∧
    (((asking codeDetach [] node).lane .laneA).slot = .pending codeDetach [] ∧
      ((asking codeDetach [] node).lane .laneA).attached = true) ∧
    (∀ was ∈ [Votes.none, inhibitOn, claimOn, bypassOn], ∀ named ∈ [Votes.none, inhibitOn, claimOn, bypassOn],
      ∀ s ∈ [node, cabNode node, uncoupled .end1 node, uncoupled .end1 (uncoupled .end2 node),
        transit .releasing .none,
        transit .engaged .none, relaying8800, leadingOwn, closed8800, engineIn .alerted none node,
        engineIn .failed none node, engineIn .mismatch none node],
      let t := revoting was named s
      (t.lane .laneA).slot =
        .pending codeSetVotes [boolByte named.inhibit, boolByte named.claim, boolByte named.bypass] ∧
      (t.lane .laneA).attached = true ∧ t.engine.effective = was ∧ (t.lane LaneId.laneA.other).attached = false) ∧
    (node.bypass.state = .off ∧ (transit .releasing .none).bypass.state ≠ .off ∧
      (transit .engaged .none).bypass.state = .engaged ∧ (transit .engaged .none).bypass.startUpComplete = true ∧
      (transit .engaged .none).bypass.latched = .none) ∧
    ((cabNode node).store.working.kind = .cab ∧ node.identified .end1 = true ∧ node.identified .end2 = true ∧
      node.end1.ControlRoom ∧ node.end2.ControlRoom ∧
      (uncoupled .end1 (uncoupled .end2 node)).identified .end1 = false ∧
      (uncoupled .end1 (uncoupled .end2 node)).identified .end2 = false ∧ node.engine.state = .quiet) ∧
    (relaying8800.engine.context =
        some { attempt := attempt8800, role := .relay, tallyEnd := some .end1, ownPosition := 3 } ∧
      relaying8800.engine.state = .relaying ∧ (relaying8800.endUnit .end1).ControlRoom ∧
      leadingOwn.engine.state = .leading ∧ closed8800.engine.state = .closed) ∧
    (engineIn .mismatch none node).engine.cause = some .localCause ∧
    ({ node.engine with state := .mismatch, cause := some .remoteCause } : Engine).cause ≠ some .localCause := by
  simp only [EndUnit.ControlRoom]
  decide +kernel

/-- A SEND with each judgement: detached; a form that fails; no directory; an unknown tag; out of the consist; here; on
its way with seven and with eight messages queued; and a broadcast in a train and alone. -/
theorem witness_SendsAreJudgedInOrder :
    ((∀ b ∈ [([0x03, 0x00, 0x00, 0x1E, 0x61, 0x01, 0x01, 0x07] : List Byte),
        [0x01, 0x00, 0x00, 0x00, 0x09, 0x01, 0x01, 0x07], [0x01, 0x00, 0x00, 0x00, 0x06, 0x01, 0x01, 0x07],
        [0x01, 0x00, 0x00, 0x00, 0x08, 0x01, 0x01, 0x07], [0x04, 0x00, 0x00, 0x00, 0x00, 0x01, 0x01, 0x07]],
      ((asking codeSend b node).lane .laneA).slot = .pending codeSend b ∧ (decodeSend b).isSome) ∧
    decodeSend [0x01, 0x00, 0x00, 0x00, 0x19, 0x01, 0x01, 0x07] = none ∧
    decodeSend [0x03, 0x00, 0x00, 0x1E, 0x61, 0x01, 0x01, 0x07] =
      some { address := .tag 7777, cls := .command, payload := [7] } ∧
    node.directory.resolve (.tag 7777) = .unknownTag ∧ node.directory.resolve (.position 9) = .outOfConsist ∧
    node.directory.resolve (.position 6) = .loopback ∧ node.directory.resolve (.position 8) = .resolved 8 .end1 2 ∧
    ((node.lane .laneA).attached = true ∧
      ∀ s ∈ [node, { node with laneB := crowded }], (s.lane .laneA).attached = true) ∧
    8 ≤ (List.replicate 8 (sendRecord record { address := .position 8, cls := .bulk, payload := [7] })).length ∧
    ¬ 8 ≤ (List.replicate 7 (sendRecord record { address := .position 8, cls := .bulk, payload := [7] })).length ∧
    State.reset.directory.generation = 0 ∧
    (node.directory.ownPosition = some 6 ∧ node.directory.ownOrientation = some .reversed ∧
      1 < node.directory.entries.length ∧ 6 ≤ node.directory.entries.length) ∧
    (recordOf 5203 [node.ownEntry 1 .direct] 0 1).entries.length = 1) ∧
    ∀ r, (∃ t, node.Delivers r t) ∧ ∃ t, State.Delivers r { node with laneB := crowded } t :=
  ⟨by decide +kernel, fun r => ⟨State.exists_delivers r _, State.exists_delivers r _⟩⟩

theorem witness_FetchTakesTheHead :
    ((asking codeFetch [] node).lane .laneA).slot = .pending codeFetch [] ∧
    ((asking codeFetch [] State.reset).lane .laneA).attached = false ∧
    ((asking codeFetch [] node).lane .laneA).attached = true ∧
    ((asking codeFetch [] node).lane .laneA).receiveQueue = [] ∧
    ((asking codeFetch [] { node with laneA := { node.laneA with receiveQueue := [broadcastEntry] } }).lane
      .laneA).receiveQueue = broadcastEntry :: [] := by decide +kernel

theorem witness_StartInaugurationIsATopologyChange :
    (let s := asking codeStartInauguration [] node
     (s.lane .laneA).slot = .pending codeStartInauguration [] ∧ (s.lane .laneA).attached = true ∧
       s.engine.effective.inhibit = false ∧ s.bypass.state = .off ∧ s.identified .end1 = true ∧
       s.identified .end2 = true ∧ s.end1.ControlRoom ∧ s.end2.ControlRoom) ∧
    ((asking codeStartInauguration [] State.reset).lane .laneA).attached = false ∧
    (asking codeStartInauguration [] (inhibited node)).engine.effective.inhibit = true := by
  simp only [EndUnit.ControlRoom]
  decide +kernel

theorem witness_RetrainLineSettlesAFailedLine :
    (let s := asking codeRetrainLine [0x02] (at2 failedLine)
     (s.lane .laneA).slot = .pending codeRetrainLine [0x02] ∧ (s.lane .laneA).attached = true ∧
       (0x02 : Byte) = lineCode .end2 .lineA ∧ s.LinesKept ∧ (s.line .end2 .lineA).state = .failed ∧
       (s.line .end2 .lineB).state ≠ .failed) ∧
    4 ≤ (0x04 : Byte).toNat ∧ ((asking codeRetrainLine [0x04] node).lane .laneA).slot =
      .pending codeRetrainLine [0x04] :=
  ⟨⟨rfl, rfl, rfl, at2_lines failedLine_lines, by decide +kernel⟩, by decide +kernel⟩

/-- Record codes at the ends of each clause: 00, 01, 03, 06, 0B, 0C, 7F, 80 and 81. -/
theorem witness_ReadSettingReadsBothValues :
    (∀ b ∈ [(0x00 : Byte), 0x01, 0x03, 0x06, 0x0B, 0x0C, 0x7F, 0x80, 0x81],
      ((asking codeReadSetting [b] node).lane .laneA).slot = .pending codeReadSetting [b]) ∧
    node.store.activity ≠ .loading ∧ State.reset.store.activity = .loading ∧
    (0x0B < (0x0C : Byte).toNat ∧ (0x0C : Byte) ≠ 0x80) ∧ (0x03 : Byte) = 0x03 + lineCode .end1 .lineA ∧
    (0x06 : Byte) = 0x03 + lineCode .end2 .lineB := by decide +kernel

/-- Any code and value stands PENDING as the hypothesis asks; and codes and values at the ends of each clause: TAG, the
code after the last, KIND 1 and 2, offsets of direction 1 and 2. -/
theorem witness_WriteSettingClampsAndStarts :
    (∀ (b : Byte) (v : Word), ((asking codeWriteSetting (b :: wordBytes v) node).lane .laneA).slot =
      .pending codeWriteSetting (b :: wordBytes v)) ∧
    (node.lane .laneA).attached = true ∧ (State.reset.lane .laneA).attached = false ∧
    0x0B < (0x0C : Byte).toNat ∧ ((1 : Word).toNat ≤ 1 ∧ 1 < (2 : Word).toNat) ∧
    (1 < (0x0200 : Word).toNat / 256 ∧ (0x01FF : Word).toNat / 256 ≤ 1) ∧
    ((0x03 : Byte) = 0x03 + lineCode .end1 .lineA ∧ (0x06 : Byte) = 0x03 + lineCode .end2 .lineB) ∧
    node.store.locked = false ∧ node.store.activity = .idle :=
  ⟨fun _ _ => rfl, by decide +kernel⟩

end Sys2Proof.Tests
end

section
/-! PROOF. What one command can do to the active record, the candidate and the engine, said once: the parts of the node
that leave them, the turns the engine takes, and the commands joined from these. -/

namespace Sys2Proof.Machine

open Sys2Proof

/-! ## The parts that leave the record, the candidate and the engine -/

/-- What the engine and the directory only read is as it was: the working copy, whether the bypass is OFF, a load that has
ended; and no notice is cleared. -/
structure State.Steady (s t : State) : Prop where
  working : t.store.working = s.store.working
  loading : t.store.activity = .loading → s.store.activity = .loading
  off : t.bypass.state = .off ↔ s.bypass.state = .off
  marks : ∀ l, (s.lane l).notices &&& (t.lane l).notices = (s.lane l).notices

/-- The record, the candidate and the engine too are as they were. -/
structure State.CoreFrame (s t : State) : Prop extends s.Steady t where
  directory : t.directory = s.directory
  candidate : t.candidate = s.candidate
  engine : t.engine = s.engine

variable {s t r : State}

theorem State.Steady.refl (s : State) : s.Steady s := ⟨rfl, id, Iff.rfl, fun _ => BitVec.and_self⟩

theorem State.Steady.trans (h : s.Steady t) (k : t.Steady r) : s.Steady r where
  working := k.working.trans h.working
  loading := h.loading ∘ k.loading
  off := k.off.trans h.off
  marks l := by rw [← h.marks l, BitVec.and_assoc, k.marks l]

theorem State.Steady.ownTag (h : s.Steady t) : t.ownTag = s.ownTag := congrArg Settings.tag h.working

/-- A mark that is set stays set. -/
theorem State.Steady.mark (h : s.Steady t) {l : LaneId} {m : BitVec 12} (k : (s.lane l).notices &&& m = m) :
    (t.lane l).notices &&& m = m := by
  have hl := h.marks l
  generalize (s.lane l).notices = a at hl k
  generalize (t.lane l).notices = b at hl
  rw [← k, ← hl]
  ext i
  simp
  tauto

theorem State.CoreFrame.refl (s : State) : s.CoreFrame s := ⟨.refl s, rfl, rfl, rfl⟩

theorem State.CoreFrame.trans (h : s.CoreFrame t) (k : t.CoreFrame r) : s.CoreFrame r :=
  ⟨h.toSteady.trans k.toSteady, k.directory.trans h.directory, k.candidate.trans h.candidate,
    k.engine.trans h.engine⟩

/-- An operation of an end unit. -/
theorem State.EndFrame.core {e : EndId} (h : State.EndFrame e s t) : s.CoreFrame t where
  working := by rw [h.rest.2.2.2.2.2.2.2]
  loading := by rw [h.rest.2.2.2.2.2.2.2]; exact id
  off := by rw [h.rest.2.2.2.2.2.2.1]
  marks := h.marks
  directory := h.directory
  candidate := h.candidate
  engine := h.engine

/-- A change of an end. -/
theorem State.CoreFrame.modEnd (h : s.CoreFrame t) {e : EndId} {f : EndUnit → EndUnit} : s.CoreFrame (t.modEnd e f) :=
  h.trans ⟨⟨by simp, by simp, by simp, by simp⟩, by simp, by simp, by simp⟩

theorem State.CoreFrame.count (h : s.CoreFrame t) {e : EndId} {f : EndCounters → EndCounters} :
    s.CoreFrame (t.count e f) := h.modEnd

theorem State.CoreFrame.enqueue (h : s.CoreFrame t) {e : EndId} {d : DataRecord} : s.CoreFrame (t.enqueue e d) :=
  h.modEnd

/-- A change of a lane that clears no notice. -/
theorem State.CoreFrame.modLane (h : s.CoreFrame t) {l : LaneId} {f : LanePort → LanePort}
    (k : (t.lane l).notices &&& (f (t.lane l)).notices = (t.lane l).notices) : s.CoreFrame (t.modLane l f) :=
  h.trans
    { working := by simp
      loading := by simp
      off := by simp
      marks := fun m => by rcases LaneId.eq_or_other l m with rfl | rfl <;> simp [k]
      directory := by cases l <;> rfl
      candidate := by cases l <;> rfl
      engine := by cases l <;> rfl }

theorem State.CoreFrame.raise (h : s.CoreFrame t) {n : Notice} {l : LaneId} : s.CoreFrame (t.raise n l) :=
  h.modLane (by unfold LanePort.raise; split <;> simp [and_or_absorb])

theorem State.CoreFrame.raiseBoth (h : s.CoreFrame t) {n : Notice} : s.CoreFrame (t.raiseBoth n) := h.raise.raise

theorem State.CoreFrame.lose (h : s.CoreFrame t) {c : LossReason} {l : LaneId} : s.CoreFrame (t.lose c l) :=
  h.modLane (LanePort.lose_reports c _).2.1

theorem State.CoreFrame.reply (h : s.CoreFrame t) {l : LaneId} {a : Reply} : s.CoreFrame (t.reply l a) :=
  h.modLane BitVec.and_self

theorem State.CoreFrame.sendControl (h : s.CoreFrame t) {e : EndId} {f : ControlFrame} :
    s.CoreFrame (t.sendControl e f) := by
  unfold State.sendControl
  split
  · exact h.modEnd
  · exact h.count

theorem State.CoreFrame.sendEach (h : s.CoreFrame t) {f : ControlFrame} : s.CoreFrame (t.sendEach f) := by
  unfold State.sendEach
  dsimp only
  split <;> split
  · exact h.sendControl.sendControl
  · exact h.sendControl
  · exact h.sendControl
  · exact h

theorem State.CoreFrame.alertAll (h : s.CoreFrame t) {re : Bool} {st : EngineState} :
    s.CoreFrame (t.alertAll re st) := h.sendEach

theorem State.CoreFrame.forwardAlert (h : s.CoreFrame t) {e : EndId} {a : AlertBody} {st : EngineState} :
    s.CoreFrame (t.forwardAlert e a st) := by
  unfold State.forwardAlert
  split
  · exact h.sendControl
  · exact h

theorem State.CoreFrame.passOn (h : s.CoreFrame t) {e : EndId} {f : ControlFrame} : s.CoreFrame (t.passOn e f) := by
  unfold State.passOn
  split
  · exact h.sendControl
  · exact h

/-! ## The turns of the engine -/

/-- The engine's record goes with its state, but for the candidate (R17, R18, R22, R23, R46, R53). -/
def Engine.Formed (g : Engine) : Prop :=
  (g.deadline.isSome ↔ g.state.inProgress = true) ∧ (g.cause.isSome ↔ g.state = .mismatch) ∧
  (g.state = .leading → ∃ x, g.context = some x ∧ x.role = .starter) ∧
  (g.state = .relaying → ∃ x, g.context = some x ∧ x.role = .relay ∧ x.tallyEnd.isSome) ∧
  (g.state = .mismatch ∨ g.state = .failed → g.context = none)

/-- Effective inhibit and the states it keeps out (R55). -/
def Engine.Free (g : Engine) : Prop :=
  g.effective.inhibit = true → g.state ≠ .alerted ∧ g.state ≠ .leading ∧ g.state ≠ .relaying

theorem State.inhibitKept_iff : s.InhibitKept ↔ s.engine.Free := Iff.rfl

theorem State.engineKept_iff : s.EngineKept ↔ s.engine.count ≤ 5 ∧ s.engine.Formed ∧
    (s.candidate.isSome ↔ s.engine.state = .closed) ∧
    (∀ c, s.candidate = some c → ∃ x, s.engine.context = some x ∧ x.attempt = c.attempt) := by
  unfold State.EngineKept Engine.Formed
  tauto

/-- The engine in the middle of a turn: the record stands, and the candidate is given up or was none of a CLOSED node's. -/
structure State.Turning (s t : State) : Prop extends s.Steady t where
  directory : t.directory = s.directory
  candidate : t.candidate = none ∨ (t.candidate = s.candidate ∧ s.engine.state ≠ .closed)
  effective : t.engine.effective = s.engine.effective
  count : s.engine.count ≤ 5 → t.engine.count ≤ 5

/-- A commit, as it leaves the node (R11, R40): the engine QUIET, no candidate, a new record, which is sound if the candidate
was, and DIRECTORY-CHANGED pending at both lanes. -/
structure State.Commits (s t : State) : Prop extends s.Steady t where
  generation : t.directory.generation ≠ 0
  sound : (∀ c, s.candidate = some c → c.Sound s.ownTag) → t.directory.Sound s.ownTag
  candidate : t.candidate = none
  announced : ∀ l, (t.lane l).notices &&& Notice.directoryChanged.mark = Notice.directoryChanged.mark
  quiet : t.engine.state = .quiet
  effective : t.engine.effective = s.engine.effective
  count : s.engine.count ≤ 5 → t.engine.count ≤ 5
  formed : t.engine.Formed

/-- An entry to CLOSED (R35, R36): a sound candidate of the attempt in the context is held. -/
structure State.Closes (s t : State) : Prop extends s.Steady t where
  directory : t.directory = s.directory
  candidate : ∃ c, t.candidate = some c ∧ c.Sound s.ownTag ∧ ∃ x, t.engine.context = some x ∧ x.attempt = c.attempt
  closed : t.engine.state = .closed
  effective : t.engine.effective = s.engine.effective
  count : s.engine.count ≤ 5 → t.engine.count ≤ 5
  formed : t.engine.Formed

/-- All that the engine can do in one turn, short of an entry to CLOSED. -/
inductive State.Turns (s t : State) : Prop where
  | same (h : s.CoreFrame t)
  | moves (h : s.Turning t) (left : t.engine.state ≠ .closed) (formed : s.engine.Formed → t.engine.Formed)
      (free : s.engine.Free → t.engine.Free)
  | commits (h : s.Commits t)

theorem State.Turns.effective (h : s.Turns t) : t.engine.effective = s.engine.effective := by
  cases h with
  | same h => rw [h.engine]
  | moves h => exact h.effective
  | commits h => exact h.effective

/-- A node that is not CLOSED begins a turn. -/
theorem State.Turning.start (h : s.engine.state ≠ .closed) : s.Turning s :=
  ⟨.refl s, rfl, .inr ⟨rfl, h⟩, rfl, id⟩

/-- So does any node that gives up what it holds. -/
theorem State.Turning.abandoned (s : State) : s.Turning s.abandon :=
  ⟨⟨rfl, id, Iff.rfl, fun l => by cases l <;> exact BitVec.and_self⟩, rfl, .inl rfl, rfl, id⟩

theorem State.Turning.frame (h : s.Turning t) (k : t.CoreFrame r) : s.Turning r :=
  ⟨h.toSteady.trans k.toSteady, k.directory.trans h.directory, by rw [k.candidate]; exact h.candidate,
    by rw [k.engine]; exact h.effective, by rw [k.engine]; exact h.count⟩

/-- A change of the engine's record that keeps the vote register and the count's range. -/
theorem State.Turning.setEngine (h : s.Turning t) {g : Engine} (he : g.effective = t.engine.effective)
    (hc : t.engine.count ≤ 5 → g.count ≤ 5) : s.Turning { t with engine := g } :=
  ⟨h.toSteady.trans ⟨rfl, id, Iff.rfl, fun l => by cases l <;> exact BitVec.and_self⟩, h.directory, h.candidate,
    he.trans h.effective, hc ∘ h.count⟩

/-- The candidate given up. -/
theorem State.Turning.drop (h : s.Turning t) : s.Turning { t with candidate := none } :=
  ⟨h.toSteady.trans ⟨rfl, id, Iff.rfl, fun l => by cases l <;> exact BitVec.and_self⟩, h.directory, .inl rfl,
    h.effective, h.count⟩

theorem State.Turning.setCount (h : s.Turning t) {n : Nat} (k : n ≤ 5) : s.Turning (t.setCount n) :=
  h.setEngine rfl (fun _ => k)

theorem State.Turning.abandon (h : s.Turning t) : s.Turning t.abandon := h.drop.setEngine rfl id

theorem State.Turning.alertAll (h : s.Turning t) {re : Bool} {st : EngineState} : s.Turning (t.alertAll re st) :=
  h.frame (State.CoreFrame.refl t).alertAll

theorem State.Turning.forwardAlert (h : s.Turning t) {e : EndId} {a : AlertBody} {st : EngineState} :
    s.Turning (t.forwardAlert e a st) := h.frame (State.CoreFrame.refl t).forwardAlert

theorem State.Turning.sendControl (h : s.Turning t) {e : EndId} {f : ControlFrame} :
    s.Turning (t.sendControl e f) := h.frame (State.CoreFrame.refl t).sendControl

/-- A turn that leaves the engine as it was. -/
theorem State.Turning.keeps (h : s.Turning t) (k : t.engine = s.engine) (left : s.engine.state ≠ .closed) :
    s.Turns t := .moves h (by rwa [k]) (by rw [k]; exact id) (by rw [k]; exact id)

theorem State.Turns.frame (h : s.Turns t) (k : t.CoreFrame r) : s.Turns r := by
  cases h with
  | same h => exact .same (h.trans k)
  | moves h left formed free =>
    exact .moves (h.frame k) (by rwa [k.engine]) (by rwa [k.engine]) (by rwa [k.engine])
  | commits h =>
    exact .commits
      { toSteady := h.toSteady.trans k.toSteady
        generation := by rw [k.directory]; exact h.generation
        sound := by rw [k.directory]; exact h.sound
        candidate := k.candidate.trans h.candidate
        announced := fun l => k.toSteady.mark (h.announced l)
        quiet := by rw [k.engine]; exact h.quiet
        effective := by rw [k.engine]; exact h.effective
        count := by rw [k.engine]; exact h.count
        formed := by rw [k.engine]; exact h.formed }

theorem State.Turns.after (k : s.CoreFrame t) (h : t.Turns r) : s.Turns r := by
  cases h with
  | same h => exact .same (k.trans h)
  | moves h left formed free =>
    rw [k.engine] at formed free
    exact .moves ⟨k.toSteady.trans h.toSteady, h.directory.trans k.directory,
      by rw [← k.candidate, ← k.engine]; exact h.candidate, by rw [← k.engine]; exact h.effective,
      by rw [← k.engine]; exact h.count⟩ left formed free
  | commits h =>
    exact .commits
      { toSteady := k.toSteady.trans h.toSteady
        generation := h.generation
        sound := by rw [← k.candidate, ← k.toSteady.ownTag]; exact h.sound
        candidate := h.candidate
        announced := h.announced
        quiet := h.quiet
        effective := by rw [← k.engine]; exact h.effective
        count := by rw [← k.engine]; exact h.count
        formed := h.formed }

/-! ## Entries to the states -/

/-- The engine takes a record that goes with its state. -/
theorem State.Turning.enters (h : s.Turning t) {g : Engine} (he : g.effective = t.engine.effective)
    (hc : t.engine.count ≤ 5 → g.count ≤ 5) (left : g.state ≠ .closed) (formed : s.engine.Formed → g.Formed)
    (free : s.engine.Free → g.Free) : s.Turns { t with engine := g } := .moves (h.setEngine he hc) left formed free

theorem State.Turning.enterFailed (h : s.Turning t) : s.Turns t.enterFailed :=
  (h.abandon.enters (g := { t.abandon.engine with state := .failed, deadline := none, cause := none }) rfl id
    (by simp) (fun _ => by simp [Engine.Formed, EngineState.inProgress, State.abandon])
    (fun _ => by simp [Engine.Free])).frame (State.CoreFrame.refl _).raiseBoth

theorem State.Turning.enterMismatch (h : s.Turning t) {c : MismatchCause} : s.Turns (t.enterMismatch c) :=
  (h.abandon.enters (g := { t.abandon.engine with state := .mismatch, deadline := none, cause := some c }) rfl id
    (by simp) (fun _ => by simp [Engine.Formed, EngineState.inProgress, State.abandon])
    (fun _ => by simp [Engine.Free])).frame (State.CoreFrame.refl _).raiseBoth

theorem State.Turning.enterQuiet (h : s.Turning t) : s.Turns t.enterQuiet :=
  h.enters rfl id (by simp) (fun _ => by simp [Engine.Formed, EngineState.inProgress])
    (fun _ => by simp [Engine.Free])

/-- The mark of a notice raised is set. -/
theorem State.mark_raiseBoth (s : State) {n : Notice} (h : n ≠ .receiveReady) (l : LaneId) :
    ((s.raiseBoth n).lane l).notices &&& n.mark = n.mark := by
  rw [State.lane_raiseBoth, LanePort.raise, if_neg h, BitVec.or_comm, BitVec.and_comm]
  exact and_or_absorb _ _

/-- All that a commit of a list does: the record, no candidate, and the notices (R11, R64). -/
theorem State.commitList_spec (s : State) (ns : List ListedEntry) (c g : Word) :
    s.Steady (s.commitList ns c g) ∧ (s.commitList ns c g).directory = recordOf s.ownTag ns c g ∧
    (s.commitList ns c g).candidate = none ∧ (s.commitList ns c g).engine = s.engine ∧
    ∀ l, ((s.commitList ns c g).lane l).notices &&& Notice.directoryChanged.mark = Notice.directoryChanged.mark := by
  let q : State := { s with directory := recordOf s.ownTag ns c g, candidate := none }
  have hq : s.Steady q := ⟨rfl, id, Iff.rfl, fun l => by cases l <;> exact BitVec.and_self⟩
  have h₁ : q.CoreFrame (q.raiseBoth .directoryChanged) := (State.CoreFrame.refl q).raiseBoth
  have mark := q.mark_raiseBoth (n := .directoryChanged) (by decide)
  unfold State.commitList
  dsimp only
  split
  · have h₂ : (q.raiseBoth .directoryChanged).CoreFrame ((q.raiseBoth .directoryChanged).raiseBoth .claimConflict) :=
      (State.CoreFrame.refl _).raiseBoth
    exact ⟨hq.trans (h₁.trans h₂).toSteady, (h₁.trans h₂).directory, (h₁.trans h₂).candidate, (h₁.trans h₂).engine,
      fun l => h₂.toSteady.mark (mark l)⟩
  · exact ⟨hq.trans h₁.toSteady, h₁.directory, h₁.candidate, h₁.engine, mark⟩

/-- A commit, what follows it in the queues, and the engine QUIET. -/
theorem State.Commits.of_commitList {ns : List ListedEntry} {c gen : Word} {g : Engine} (h : s.Steady t)
    (k : (t.commitList ns c gen).CoreFrame r) (generation : gen ≠ 0)
    (sound : (∀ c, s.candidate = some c → c.Sound s.ownTag) →
      ListSound s.ownTag (ns.map ListedEntry.entry) ∧ c = crc16 ((ns.map ListedEntry.entry).flatMap Entry.bytes))
    (quiet : g.state = .quiet) (effective : g.effective = s.engine.effective)
    (count : s.engine.count ≤ 5 → g.count ≤ 5) (formed : g.Formed) : s.Commits { r with engine := g } := by
  obtain ⟨steady, directory, candidate, -, announced⟩ := t.commitList_spec ns c gen
  have hd := k.directory.trans directory
  exact
    { toSteady := (h.trans (steady.trans k.toSteady)).trans
        ⟨rfl, id, Iff.rfl, fun l => by cases l <;> exact BitVec.and_self⟩
      generation := by rw [hd]; exact generation
      sound := fun hc => by
        obtain ⟨hl, hk⟩ := sound hc
        rw [hd, h.ownTag, hk]
        exact recordOf_sound hl generation
      candidate := k.candidate.trans candidate
      announced := fun l => by
        have := k.toSteady.mark (announced l)
        cases l <;> exact this
      quiet := quiet
      effective := effective
      count := count
      formed := formed }

theorem successor_ne_zero (g : Word) : successor g ≠ 0 := by
  unfold successor
  split
  · decide
  · bv_omega

/-- A self-commit is a commit, or drops the candidate on the way to QUIET. -/
theorem State.Turning.selfCommit (h : s.Turning t) : s.Turns t.selfCommit := by
  unfold State.selfCommit
  dsimp only
  split
  · rename_i hs
    refine .commits (.of_commitList h.toSteady (.refl _) (successor_ne_zero _) (fun _ => ?_) rfl ?_ ?_ ?_)
    · rw [← h.toSteady.ownTag]
      exact ⟨storeCheck_stored.1 hs, rfl⟩
    · rw [(t.commitList_spec _ _ _).2.2.2.1]
      exact h.effective
    · rw [(t.commitList_spec _ _ _).2.2.2.1]
      exact h.count
    · simp [Engine.Formed, EngineState.inProgress]
  · exact h.drop.enterQuiet

/-- An extremity's tally, with effective inhibit off. -/
theorem State.Turning.startTally (h : s.Turning t) {e : EndId} (hi : t.inhibited = false) :
    s.Turns (t.startTally e) := by
  unfold State.startTally
  have hf : ∀ f, t.CoreFrame (t.sendControl e f) := fun f => (State.CoreFrame.refl t).sendControl
  refine (h.frame (hf _)).enters rfl id (by simp)
    (fun _ => by simp [Engine.Formed, EngineState.inProgress, deadlineStarted]) (fun _ hk => ?_)
  dsimp only at hk
  rw [(hf _).engine] at hk
  exact absurd hk (by simpa [State.inhibited] using hi)

/-- An ALERTED node acts. -/
theorem State.Turning.actAlerted (h : s.Turning t) (left : t.engine.state ≠ .closed)
    (formed : s.engine.Formed → t.engine.Formed) (free : s.engine.Free → t.engine.Free) : s.Turns t.actAlerted := by
  unfold State.actAlerted
  split
  · exact .moves h left formed free
  · rename_i hi
    split
    · exact h.selfCommit
    · exact h.startTally (by simpa using hi)
    · exact h.startTally (by simpa using hi)
    · exact .moves h left formed free

/-- Entry to ALERTED, where effective inhibit is off. -/
theorem State.Turning.enterAlerted (h : s.Turning t) (hi : s.engine.Free → s.engine.effective.inhibit = false) :
    s.Turns t.enterAlerted :=
  (h.setEngine (g := { t.engine with state := .alerted, deadline := deadlineStarted, cause := none }) rfl id).actAlerted
    (by simp) (fun _ => by simp [Engine.Formed, EngineState.inProgress, deadlineStarted])
    (fun hf hk => absurd (h.effective ▸ hi hf) (by simpa using hk))

/-- A topology change taken up. -/
theorem State.restart_turns (hi : s.inhibited = false) : s.Turns s.restart := by
  unfold State.restart
  have h := (State.Turning.abandoned s).setCount (n := 1) (by decide)
  dsimp only
  split
  · exact h.selfCommit
  · exact h.alertAll.enterAlerted (fun _ => hi)

/-- Entry to MISMATCH of any node. -/
theorem State.enterMismatch_turns (s : State) (c : MismatchCause) : s.Turns (s.enterMismatch c) :=
  (State.Turning.abandoned s).enterMismatch

/-- Another cause in MISMATCH. -/
theorem State.setCause_turns (hm : s.engine.state = .mismatch) (c : MismatchCause) :
    s.Turns { s with engine := { s.engine with cause := some c } } := by
  refine (State.Turning.start (by simp [hm])).enters rfl id (by simp [hm]) ?_ id
  rintro ⟨deadline, -, leading, relaying, held⟩
  exact ⟨deadline, by simp [hm], leading, relaying, held⟩

/-- A topology change held under inhibit. -/
theorem State.holdChange_turns (s : State) : s.Turns s.holdChange := by
  unfold State.holdChange
  dsimp only
  split
  · rename_i hm
    exact (State.setCause_turns hm _).frame (State.CoreFrame.refl _).alertAll
  · exact (s.enterMismatch_turns _).frame (State.CoreFrame.refl _).alertAll

/-- All that a topology change can do: nothing unless the bypass is OFF (R24). -/
theorem State.topologyChange_turns (s : State) :
    s.topologyChange = s ∨ s.bypass.state = .off ∧ s.Turns s.topologyChange := by
  unfold State.topologyChange
  split
  · exact .inl rfl
  · rename_i hb
    refine .inr ⟨by simpa using hb, ?_⟩
    split
    · exact s.holdChange_turns
    · rename_i hi
      exact State.restart_turns (by simpa using hi)

/-- A retry. -/
theorem State.Turning.retry (h : s.Turning t) : s.Turns t.retry := by
  unfold State.retry
  have hc := h.setCount (n := min Config.maxAttempts (t.engine.count + 1)) (Nat.min_le_left _ _)
  dsimp only
  split
  · exact hc.enterFailed
  · split
    · exact hc.enterMismatch
    · rename_i hi
      split
      · exact hc.selfCommit
      · refine hc.alertAll.enterAlerted (fun _ => ?_)
        rw [← h.effective]
        simpa [State.inhibited, State.setCount] using hi

/-- The deadline runs out. -/
theorem State.deadlineExpired_turns (s : State) : s.Turns s.deadlineExpired := (State.Turning.abandoned s).retry

/-- Effective inhibit has turned on. -/
theorem State.inhibitOn_turns (s : State) :
    s.inhibitOn = s ∨ s.engine.state ≠ .quiet ∧ s.Turns s.inhibitOn := by
  unfold State.inhibitOn
  split
  case h_1 => exact .inl rfl
  case h_2 => exact .inl rfl
  case h_3 => exact .inl rfl
  case h_4 hm => exact .inr ⟨by simp [hm], State.setCause_turns hm _⟩
  case h_5 hm => exact .inr ⟨by simp [hm], s.enterMismatch_turns _⟩
  case h_6 hm => exact .inr ⟨by simp [hm], s.enterMismatch_turns _⟩
  case h_7 hm =>
    have h := State.Turning.start (s := s) (by simp [hm])
    refine .inr ⟨by simp [hm], ?_⟩
    split
    · split
      · exact h.sendControl.enterMismatch
      · exact h.enterMismatch
    · exact h.enterMismatch

/-- Effective inhibit has turned off. -/
theorem State.inhibitOff_turns (hi : s.inhibited = false) :
    s.inhibitOff = s ∨ s.engine.state ≠ .quiet ∧ s.Turns s.inhibitOff := by
  unfold State.inhibitOff
  split
  · rename_i hm
    exact .inr ⟨by simp [hm.1], State.restart_turns hi⟩
  · exact .inl rfl

/-! ## Control frames at the engine -/

theorem State.CoreFrame.turnBack (h : s.CoreFrame t) {e : EndId} {a : AttemptId} : s.CoreFrame (t.turnBack e a) :=
  h.sendControl

/-- An ALERT held under inhibit. -/
theorem State.holdAlert_turns (s : State) (e : EndId) (a : AlertBody) : s.Turns (s.holdAlert e a) := by
  have h : s.Turning (s.enterMismatch .localCause) :=
    ((State.Turning.abandoned s).setEngine (g := { s.abandon.engine with
      state := .mismatch, deadline := none, cause := some .localCause }) rfl id).frame
      (State.CoreFrame.refl _).raiseBoth
  refine Turns.frame (.moves (h.setCount (n := 1) (by decide)) ?_ ?_ ?_) (State.CoreFrame.refl _).forwardAlert
  all_goals simp [State.setCount, State.enterMismatch, State.abandon, State.raiseBoth, State.raise, State.modLane,
    State.setLane, Engine.Formed, Engine.Free, EngineState.inProgress]

/-- An ALERT at the engine. -/
theorem State.onAlert_turns (s : State) (e : EndId) (a : AlertBody) : s.Turns (s.onAlert e a) := by
  have same : s.Turns s := .same (.refl s)
  have take : (s.engine.Free → s.engine.effective.inhibit = false) → s.Turns (s.takeAlert e a) := fun hi =>
    ((State.Turning.abandoned s).setCount (by decide)).forwardAlert.enterAlerted hi
  have fresh : s.Turns (if s.inhibited then s.holdAlert e a else s.takeAlert e a) := by
    split
    · exact s.holdAlert_turns e a
    · rename_i hi
      exact take (fun _ => by simpa [State.inhibited] using hi)
  unfold State.onAlert
  split
  · exact same
  split
  case h_1 => exact fresh
  case h_2 => exact fresh
  case h_3 => exact same
  case h_4 hs =>
    split
    · exact take (fun hf => by simpa [hs, Engine.Free] using hf)
    · exact same
  case h_5 hs =>
    split
    · exact take (fun hf => by simpa [hs, Engine.Free] using hf)
    · exact same
  case h_6 =>
    split
    · exact same
    · exact fresh
  case h_7 =>
    split
    · exact same
    · rename_i hi
      split
      · exact take (fun _ => by simpa [State.inhibited] using hi)
      · exact same.frame (State.CoreFrame.refl _).forwardAlert

/-- All that an offer of a list to the directory can do (R9). -/
theorem State.storeCandidate_cases (s : State) (a : AttemptId) (ns : List ListedEntry) :
    (ListSound s.ownTag (ns.map ListedEntry.entry) ∧
      s.storeCandidate a ns = (.stored, { s with candidate := some (candidateOf s.ownTag a ns) })) ∨
    (¬ ListSound s.ownTag (ns.map ListedEntry.entry) ∧
      s.storeCandidate a ns = (storeCheck s.ownTag ns, { s with candidate := none }) ∧
      storeCheck s.ownTag ns ≠ .stored) := by
  unfold State.storeCandidate
  rw [← storeCheck_stored]
  split
  · rename_i h
    exact .inl ⟨h, rfl⟩
  · rename_i h
    exact .inr ⟨h, rfl, h⟩

/-- The candidate held and the engine CLOSED in its attempt. -/
theorem State.Closes.of_stored {a : AttemptId} {ns : List ListedEntry} {g : Engine} {x : AttemptContext}
    (h : s.Turning t) (hl : ListSound t.ownTag (ns.map ListedEntry.entry))
    (k : State.CoreFrame { t with candidate := some (candidateOf t.ownTag a ns) } r)
    (hg : g = { r.engine with state := .closed, deadline := deadlineStarted, cause := none, context := some x })
    (hx : x.attempt = a) : s.Closes { r with engine := g } := by
  subst hg
  have hr : r.engine = t.engine := k.engine
  have hs : t.Steady { t with candidate := some (candidateOf t.ownTag a ns) } :=
    ⟨rfl, id, Iff.rfl, fun l => by cases l <;> exact BitVec.and_self⟩
  exact
    { toSteady := (h.toSteady.trans (hs.trans k.toSteady)).trans
        ⟨rfl, id, Iff.rfl, fun l => by cases l <;> exact BitVec.and_self⟩
      directory := k.directory.trans h.directory
      candidate := ⟨_, k.candidate, by
        rw [← h.toSteady.ownTag]
        exact candidateOf_sound hl a, x, rfl, hx⟩
      closed := rfl
      effective := by
        dsimp only
        rw [hr]
        exact h.effective
      count := by
        dsimp only
        rw [hr]
        exact h.count
      formed := by simp [Engine.Formed, EngineState.inProgress, deadlineStarted] }

/-- A tally relayed, with effective inhibit off. -/
theorem State.Turning.relayTally (h : s.Turning t) {e : EndId} {a : AttemptId} {ns : List ListedEntry}
    (hi : s.engine.effective.inhibit = false) : s.Turns (t.relayTally e a ns) := by
  unfold State.relayTally
  have hf : ∀ f, t.CoreFrame (t.sendControl e.other f) := fun f => (State.CoreFrame.refl t).sendControl
  refine (h.frame (hf _)).enters rfl id (by simp)
    (fun _ => by simp [Engine.Formed, EngineState.inProgress, deadlineStarted]) (fun _ hk => ?_)
  dsimp only at hk
  rw [(hf _).engine, h.effective, hi] at hk
  exact absurd hk (by simp)

/-- A tally closed by the far extremity, with effective inhibit off. -/
theorem State.Turning.closeTally (h : s.Turning t) {e : EndId} {a : AttemptId} {ns : List ListedEntry}
    (hi : s.engine.effective.inhibit = false) : s.Turns (t.closeTally e a ns) ∨ s.Closes (t.closeTally e a ns) := by
  unfold State.closeTally
  dsimp only
  split
  · exact .inl h.sendControl.enterFailed
  rcases t.storeCandidate_cases a (ns ++ [t.ownEntry (ns.length + 1) (orientationByArrival e)]) with
    ⟨hl, hc⟩ | ⟨-, hc, hn⟩
  · rw [hc]
    exact .inr (.of_stored h hl (State.CoreFrame.refl _).sendControl rfl rfl)
  · rw [hc]
    cases hk : storeCheck t.ownTag (ns ++ [t.ownEntry (ns.length + 1) (orientationByArrival e)]) with
    | stored => exact absurd hk hn
    | duplicateTag => exact .inl h.drop.sendControl.enterFailed
    | form => exact .inl (h.drop.sendControl.abandon.enterAlerted (fun _ => hi))

/-- A tally taken, with effective inhibit off. -/
theorem State.takeTally_turns {e : EndId} {a : AttemptId} {ns : List ListedEntry} (h : s.Turning t.abandon)
    (hi : s.engine.effective.inhibit = false) : s.Turns (t.takeTally e a ns) ∨ s.Closes (t.takeTally e a ns) := by
  unfold State.takeTally
  dsimp only
  split
  · exact .inl h.sendControl.enterFailed
  · split
    · exact .inl (h.relayTally hi)
    · exact h.closeTally hi

/-- A TALLY at the engine. -/
theorem State.onTally_turns (s : State) (e : EndId) (a : AttemptId) (ns : List ListedEntry) :
    s.Turns (s.onTally e a ns) ∨ s.Closes (s.onTally e a ns) := by
  have same : s.Turns s := .same (.refl s)
  have back : s.Turns (s.turnBack e a) := same.frame (State.CoreFrame.refl s).turnBack
  have held : s.Turns ((s.turnBack e a).enterMismatch .localCause) :=
    .after (State.CoreFrame.refl s).turnBack (State.enterMismatch_turns _ _)
  have take : s.inhibited ≠ true → s.Turns (s.takeTally e a ns) ∨ s.Closes (s.takeTally e a ns) := fun hi =>
    State.takeTally_turns (.abandoned s) (by simpa [State.inhibited] using hi)
  have progress : s.Turns (if s.inhibited then s.turnBack e a
        else if s.engine.notWorse a then s.takeTally e a ns else s) ∨
      s.Closes (if s.inhibited then s.turnBack e a
        else if s.engine.notWorse a then s.takeTally e a ns else s) := by
    split
    · exact .inl back
    · rename_i hi
      split
      · exact take hi
      · exact .inl same
  unfold State.onTally
  split
  · exact .inl same
  split
  case h_1 => exact .inl same
  case h_2 => exact .inl back
  case h_3 hs =>
    split
    · exact .inl held
    · rename_i hi
      exact State.takeTally_turns ((State.Turning.start (by simp [hs])).setCount (by decide)).abandon
        (by simpa [State.inhibited] using hi)
  case h_4 =>
    split
    · exact .inl same
    · split
      · exact .inl held
      · rename_i hi
        exact take hi
  case h_5 =>
    split
    · exact .inl back
    · rename_i hi
      exact take hi
  case h_6 => exact progress
  case h_7 => exact progress

/-- A CLOSURE at a relay whose context it fits. -/
theorem State.relayClosure_turns {d : EndId} {k : Nat} {a : AttemptId} {ns : List ListedEntry} {c : Word}
    {x : AttemptContext} (hs : s.engine.state = .relaying) (hx : s.engine.context = some x) (ha : x.attempt = a) :
    s.Turns (s.relayClosure d k a ns c) ∨ s.Closes (s.relayClosure d k a ns c) := by
  have h := State.Turning.start (s := s) (by simp [hs])
  have dissent : ∀ f, s.Turns (State.sendControl { s with candidate := none } d f) := fun f =>
    (h.drop.keeps rfl (by simp [hs])).frame (State.CoreFrame.refl _).sendControl
  unfold State.relayClosure
  split
  · exact .inl (.same (State.CoreFrame.refl s).sendControl)
  rcases s.storeCandidate_cases a ns with ⟨hl, hc⟩ | ⟨-, hc, hn⟩
  · rw [hc]
    dsimp only
    split
    · exact .inl (dissent _)
    · have hf : ∀ f, State.CoreFrame { s with candidate := some (candidateOf s.ownTag a ns) }
          (State.sendControl { s with candidate := some (candidateOf s.ownTag a ns) } d f) := fun f =>
        (State.CoreFrame.refl _).sendControl
      refine .inr (.of_stored (x := x) h hl (hf _) ?_ ha)
      rw [(hf _).engine]
      dsimp only
      rw [hx]
  · rw [hc]
    cases hk : storeCheck s.ownTag ns with
    | stored => exact absurd hk hn
    | duplicateTag => exact .inl h.drop.sendControl.enterFailed
    | form => exact .inl (dissent _)

theorem newGeneration_ne_zero (priors : List Word) : newGeneration priors ≠ 0 := by
  have fresh : ∀ fuel g, g ≠ 0 → freshFrom priors fuel g ≠ 0 := by
    intro fuel
    induction fuel with
    | zero => exact fun g hg => hg
    | succ fuel ih =>
      intro g hg
      unfold freshFrom
      split
      · exact ih _ (successor_ne_zero g)
      · exact hg
  exact fresh _ _ (successor_ne_zero _)

/-- A CLOSURE at its starter. -/
theorem State.starterClosure_turns {e : EndId} {a : AttemptId} {ns : List ListedEntry} {c : Word}
    (hs : s.engine.state = .leading) : s.Turns (s.starterClosure e a ns c) := by
  have h := State.Turning.start (s := s) (by simp [hs])
  unfold State.starterClosure
  split
  · exact h.retry
  rcases s.storeCandidate_cases a ns with ⟨hl, hc⟩ | ⟨-, hc, hn⟩
  · rw [hc]
    dsimp only
    split
    · exact h.drop.retry
    · rename_i hk
      have hq : s.Steady { s with candidate := some (candidateOf s.ownTag a ns) } :=
        ⟨rfl, id, Iff.rfl, fun l => by cases l <;> exact BitVec.and_self⟩
      let q : State := { s with candidate := some (candidateOf s.ownTag a ns) }
      have engine : ∀ p w f, ((q.commitList ns p w).sendControl e f).engine = s.engine := fun p w f =>
        (State.CoreFrame.refl _).sendControl.engine.trans (q.commitList_spec ns p w).2.2.2.1
      refine .commits (.of_commitList (t := q) hq (State.CoreFrame.refl _).sendControl (newGeneration_ne_zero _)
        (fun _ => ⟨hl, (not_not.1 hk).symm⟩) rfl ?_ ?_ ?_)
      · dsimp only
        rw [engine]
      · dsimp only
        rw [engine]
        exact id
      · simp [Engine.Formed, EngineState.inProgress]
  · rw [hc]
    cases hk : storeCheck s.ownTag ns with
    | stored => exact absurd hk hn
    | duplicateTag => exact h.drop.enterFailed
    | form => exact h.drop.retry

/-- A CLOSURE at the engine. -/
theorem State.onClosure_turns (s : State) (e : EndId) (a : AttemptId) (ns : List ListedEntry) (c : Word) :
    s.Turns (s.onClosure e a ns c) ∨ s.Closes (s.onClosure e a ns c) := by
  have same : s.Turns s := .same (.refl s)
  unfold State.onClosure
  split
  · exact .inl same
  split
  · exact .inl same
  rename_i x hx
  split
  · exact .inl same
  rename_i ha
  split
  · split
    · rename_i hs
      exact .inl (State.starterClosure_turns hs.1)
    · exact .inl same
  · split
    · rename_i hs
      exact State.relayClosure_turns hs.1 hx (not_not.1 ha)
    · exact .inl same

/-- A COMMIT at the engine. -/
theorem State.onCommit_turns (s : State) (e : EndId) (a : AttemptId) (g c : Word) : s.Turns (s.onCommit e a g c) := by
  have same : s.Turns s := .same (.refl s)
  unfold State.onCommit
  split
  · exact same
  split
  · exact same
  rename_i x hx
  split
  · exact same
  split
  · exact same.frame (State.CoreFrame.refl s).sendControl
  rename_i hg
  have commits : ∀ r, (s.commitList x.entries x.check g).CoreFrame r → s.Turns r.enterQuiet := by
    intro r hr
    have engine := hr.engine.trans (s.commitList_spec x.entries x.check g).2.2.2.1
    refine .commits (.of_commitList (.refl s) hr (by tauto) (fun hc => ⟨(hc x hx).1, (hc x hx).2.1⟩) rfl ?_ ?_ ?_)
    · dsimp only
      rw [engine]
    · dsimp only
      rw [engine]
      exact id
    · simp [Engine.Formed, EngineState.inProgress]
  dsimp only
  split
  · exact commits _ (State.CoreFrame.refl _).sendControl
  · exact commits _ (.refl _)

/-- A DISSENT at the engine. -/
theorem State.onDissent_turns (s : State) (e : EndId) (a : AttemptId) (r : DissentReason) :
    s.Turns (s.onDissent e a r) := by
  have same : s.Turns s := .same (.refl s)
  have failed : ∀ q : State, q.Turns q.enterFailed := fun q => (State.Turning.abandoned q).enterFailed
  unfold State.onDissent
  split
  · exact same
  split
  · split
    · rename_i hs
      split
      · exact failed s
      · exact (State.Turning.start (by
          intro hc
          simp [hc] at hs)).retry
    · exact same
  · have hp : s.CoreFrame (s.passOn e (.dissent a r)) := (State.CoreFrame.refl s).passOn
    dsimp only
    split
    · exact .after hp (failed _)
    · exact .same hp

/-- A DEFER at the engine. -/
theorem State.onDefer_turns (s : State) (e : EndId) (a : AttemptId) (by_ : Tag) : s.Turns (s.onDefer e a by_) := by
  have same : s.Turns s := .same (.refl s)
  unfold State.onDefer
  split
  · exact same
  split
  · split
    · exact s.enterMismatch_turns _
    · exact same
  · have hp : s.CoreFrame (s.passOn e (.defer a by_)) := (State.CoreFrame.refl s).passOn
    dsimp only
    split
    · exact .after hp (State.enterMismatch_turns _ _)
    · exact .same hp

end Sys2Proof.Machine
end

section
/-! PROOF. All that one command can do to the active record, the candidate and the engine: the commands, joined from the
parts that leave them and the turns of the engine. -/

namespace Sys2Proof.Machine

open Sys2Proof

variable {s t r : State}

/-! ## The switch, the resolver and the arbiter leave the core -/

theorem LanePort.notices_deliver (p : LanePort) (a : ReceiveEntry) : (p.deliver a).notices = p.notices := by
  unfold LanePort.deliver
  split
  · unfold LanePort.receive
    split
    · rfl
    · split <;> rfl
  · rfl

theorem State.CoreFrame.deliver (h : s.CoreFrame t) {a : ReceiveEntry} : s.CoreFrame (t.deliver a) := by
  unfold State.deliver
  split
  · exact (h.modLane (by simp [LanePort.notices_deliver])).modLane (by simp [LanePort.notices_deliver])
  · exact h.trans ⟨⟨rfl, id, Iff.rfl, fun l => by cases l <;> exact BitVec.and_self⟩, rfl, rfl, rfl⟩

theorem State.CoreFrame.loseRecord (h : s.CoreFrame t) {c : LossReason} {d : DataRecord} :
    s.CoreFrame (t.loseRecord c d) := by
  unfold State.loseRecord
  split
  · exact h
  · exact h.lose

theorem State.CoreFrame.setSendQueue (h : s.CoreFrame t) {l : LaneId} {q : List SendRecord} :
    s.CoreFrame (t.setSendQueue l q) := h.modLane BitVec.and_self

theorem State.CoreFrame.queueSend (h : s.CoreFrame t) {l : LaneId} {d : SendRecord} : s.CoreFrame (t.queueSend l d) :=
  h.modLane BitVec.and_self

/-- A SEND judged. -/
theorem State.CoreFrame.judgeSend (h : s.CoreFrame t) {l : LaneId} {m : Message} : s.CoreFrame (t.judgeSend l m).2 := by
  unfold State.judgeSend
  dsimp only
  split
  · split
    · exact h
    · split
      · exact h.deliver
      · split
        · exact h
        · exact h.deliver.queueSend
  · split
    · exact h
    · exact h
    · exact h
    · exact h.deliver
    · split
      · exact h
      · exact h.queueSend

theorem State.CoreFrame.placeCopy (h : s.CoreFrame t) {l : LaneId} {d : SendRecord} {copy : Option (EndId × Nat)}
    {placed : Bool} : s.CoreFrame (t.placeCopy l d copy placed).2 := by
  unfold State.placeCopy
  split
  · exact h
  · split
    · exact h
    · split
      · exact h.lose
      · split
        · exact h.enqueue
        · exact h

theorem State.CoreFrame.examineHead (h : s.CoreFrame t) {l : LaneId} : s.CoreFrame (t.examineHead l).2 := by
  unfold State.examineHead
  split
  · exact h
  · split
    · unfold State.examineBroadcast
      split
      · exact h.setSendQueue.lose
      · dsimp only
        split
        · exact h.placeCopy.placeCopy.setSendQueue
        · exact h.placeCopy.placeCopy.setSendQueue
    · unfold State.examineUnicast
      dsimp only
      split
      · exact h.setSendQueue.lose
      · split
        · split
          · exact h.setSendQueue.lose
          · split
            · exact h.setSendQueue.enqueue
            · exact h
        · exact h.setSendQueue.deliver
        · exact h.setSendQueue.lose
        · exact h.setSendQueue.lose
        · exact h.setSendQueue.lose

/-- One opportunity of the resolver. -/
theorem State.resolverOpportunity_core (s : State) : s.CoreFrame s.resolverOpportunity := by
  have setResolver : ∀ {t : State} {l : LaneId}, s.CoreFrame t → s.CoreFrame { t with resolver := l } := fun h =>
    h.trans ⟨⟨rfl, id, Iff.rfl, fun l => by cases l <;> exact BitVec.and_self⟩, rfl, rfl, rfl⟩
  unfold State.resolverOpportunity
  dsimp only
  have h₁ := (State.CoreFrame.refl s).examineHead (l := s.resolver)
  split
  · rename_i t hk
    rw [hk] at h₁
    exact setResolver h₁
  · rename_i t hk
    rw [hk] at h₁
    have h₂ := h₁.examineHead (l := s.resolver.other)
    split
    · rename_i r hr
      rw [hr] at h₂
      exact setResolver h₂
    · rename_i r hr
      rw [hr] at h₂
      exact h₂

/-- A broadcast frame examined. -/
theorem State.CoreFrame.examineBroadcastFrame (h : s.CoreFrame t) {e : EndId} {f : DataFrame}
    (k : t.examineBroadcastFrame e f = some r) : s.CoreFrame r := by
  unfold State.examineBroadcastFrame at k
  dsimp only at k
  split at k
  · cases k
  split at k
  · cases k
    exact h.deliver
  split at k
  · cases k
    exact h.deliver.count
  split at k
  · cases k
    exact h.deliver.enqueue
  · cases k

/-- A frame for another car examined. -/
theorem State.CoreFrame.examineThrough (h : s.CoreFrame t) {e : EndId} {p : Nat} {o : Orientation} {f : DataFrame}
    (k : t.examineThrough e p o f = some r) : s.CoreFrame r := by
  unfold State.examineThrough at k
  dsimp only at k
  split at k
  · cases k
    exact h.count
  split at k
  · cases k
    exact h.count
  split at k
  · cases k
    exact h.enqueue
  · cases k

/-- The switch's examination of a DATA frame. -/
theorem State.CoreFrame.examineData (h : s.CoreFrame t) {e : EndId} {f : DataFrame} (k : t.examineData e f = some r) :
    s.CoreFrame r := by
  unfold State.examineData at k
  split at k
  · exact h.examineBroadcastFrame k
  split at k
  · cases k
    exact h.count
  split at k
  · split at k
    · split at k
      · cases k
        exact h.count
      split at k
      · cases k
      · cases k
        exact h.deliver
    · exact h.examineThrough k
  · cases k
    exact h.count

theorem State.CoreFrame.purgeOne (h : s.CoreFrame t) {e : EndId} {d : DataRecord} :
    s.CoreFrame (t.purgeOne e d).2 := by
  unfold State.purgeOne
  split
  · exact h
  · split
    · exact h.count
    · split
      · exact h.lose
      · split
        · split <;> exact h
        · exact h.deliver
        · exact h.lose
        · exact h.lose
        · exact h.lose

theorem State.CoreFrame.purgeWalk {e : EndId} (q : List DataRecord) (h : s.CoreFrame t) :
    s.CoreFrame (State.purgeWalk e q t).2.2 := by
  induction q generalizing t with
  | nil => exact h
  | cons d q ih =>
    have k := ih (h.purgeOne (e := e) (d := d))
    unfold State.purgeWalk
    dsimp only
    split <;> exact k

theorem State.CoreFrame.purgeClass (h : s.CoreFrame t) {e : EndId} {c : TrafficClass} :
    s.CoreFrame (t.purgeClass e c).2 := by
  have k := State.CoreFrame.purgeWalk (e := e) ((t.endUnit e).queues.classQueue c) h
  unfold State.purgeClass
  dsimp only
  split
  · exact k.modEnd.modEnd
  · exact k.modEnd

theorem State.CoreFrame.purgeQueues (qs : List (EndId × TrafficClass)) (h : s.CoreFrame t) :
    s.CoreFrame (State.purgeQueues qs t).2 := by
  induction qs generalizing t with
  | nil => exact h
  | cons q qs ih => exact ih h.purgeClass

theorem State.CoreFrame.placeAside (h : s.CoreFrame t) {e : EndId} {d : DataRecord} :
    s.CoreFrame (t.placeAside e d) := by
  unfold State.placeAside
  split
  · exact h.enqueue
  · exact h.loseRecord

/-- An operation that keeps the core, done for every member of a list. -/
theorem State.CoreFrame.foldl {α : Type} {f : State → α → State} (k : ∀ t a, State.CoreFrame t (f t a)) (as : List α)
    (h : s.CoreFrame t) : s.CoreFrame (as.foldl f t) := by
  induction as generalizing t with
  | nil => exact h
  | cons a as ih => exact ih (h.trans (k t a))

/-- The purge at commit. -/
theorem State.purgeAtCommit_core (s : State) : s.CoreFrame s.purgeAtCommit := by
  unfold State.purgeAtCommit
  exact State.CoreFrame.foldl (fun t p => (State.CoreFrame.refl t).placeAside) _
    (State.CoreFrame.purgeQueues purgeOrder (.refl s))

/-- The arbiter's offer. -/
theorem State.offerFrame_core (s : State) (e : EndId) : s.CoreFrame (s.offerFrame e) := by
  unfold State.offerFrame
  dsimp only
  split
  · split
    · exact .refl s
    · exact (State.CoreFrame.refl s).modEnd.trans (State.EndFrame.refl e _).takeFrame.core
  · exact .refl s

/-! ## Engagement -/

/-- What the start of an engagement does to the core (R146, R147): the record and the candidate are cleared, the engine is
QUIET. -/
structure State.StoodDown (s t : State) : Prop where
  working : t.store.working = s.store.working
  loading : t.store.activity = .loading → s.store.activity = .loading
  engaged : t.bypass.state ≠ .off
  directory : t.directory = Directory.empty
  candidate : t.candidate = none
  engine : t.engine = s.engine.engage

theorem State.StoodDown.of_core (h : s.CoreFrame t) (k : t.StoodDown r) : s.StoodDown r :=
  ⟨k.working.trans h.working, h.loading ∘ k.loading, k.engaged, k.directory, k.candidate, by rw [k.engine, h.engine]⟩

theorem State.StoodDown.frame (h : s.StoodDown t) (k : t.CoreFrame r) : s.StoodDown r :=
  ⟨k.working.trans h.working, h.loading ∘ k.loading, fun c => h.engaged (k.off.1 c), k.directory.trans h.directory,
    k.candidate.trans h.candidate, k.engine.trans h.engine⟩

theorem State.CoreFrame.engageEnd (h : s.CoreFrame t) {e : EndId} : s.CoreFrame (t.engageEnd e) := by
  have lost := State.CoreFrame.foldl (fun t d => (State.CoreFrame.refl t).loseRecord (c := .bypass) (d := d))
    ((t.endFrame .bypass e).endUnit e).queues.classRecords (h.trans ((State.EndFrame.refl e t).endFrame (o := .bypass)).core)
  unfold State.engageEnd
  dsimp only
  split
  · exact lost.modEnd.raiseBoth
  · exact lost.modEnd

theorem State.CoreFrame.engageLane (h : s.CoreFrame t) {l : LaneId} : s.CoreFrame (t.engageLane l) := by
  unfold State.engageLane
  exact (State.CoreFrame.foldl (fun t _ => (State.CoreFrame.refl t).lose) _ h).setSendQueue

/-- The start of an engagement. -/
theorem State.engage_stoodDown (s : State) : s.StoodDown s.engage := by
  let q : State := { s with bypass := { s.bypass with state := .engaging, transition := some Config.relayTime } }
  have h : q.CoreFrame (((((q.raiseBoth .bypassChange).engageEnd .end1).engageEnd .end2).engageLane .laneA).engageLane
      .laneB) := (State.CoreFrame.refl q).raiseBoth.engageEnd.engageEnd.engageLane.engageLane
  exact
    { working := h.working
      loading := h.loading
      engaged := fun c => absurd (h.off.1 c) (by simp [q])
      directory := rfl
      candidate := rfl
      engine := congrArg Engine.engage h.engine }

/-- A change of the bypass record that does not reach OFF or leave it. -/
theorem State.CoreFrame.setBypass (h : s.CoreFrame t) {b : Bypass} (k : b.state = .off ↔ t.bypass.state = .off) :
    s.CoreFrame { t with bypass := b } :=
  h.trans ⟨⟨rfl, id, k, fun l => by cases l <;> exact BitVec.and_self⟩, rfl, rfl, rfl⟩

theorem State.CoreFrame.testRelease (h : s.CoreFrame t) : s.CoreFrame t.testRelease := by
  unfold State.testRelease
  split
  · rename_i hm
    refine h.setBypass ?_
    simp [State.mayRelease] at hm
    simp [hm]
  · exact h

/-- A fault latched leaves the core, or engages. -/
theorem State.latch_cases (s : State) (c : LatchedCause) : s.CoreFrame (s.latch c) ∨ s.StoodDown (s.latch c) := by
  unfold State.latch
  have h : s.CoreFrame (State.raiseBoth { s with bypass := { s.bypass with latched := c } } .bypassChange) :=
    ((State.CoreFrame.refl s).setBypass (b := { s.bypass with latched := c }) Iff.rfl).raiseBoth
  split
  · exact .inl (.refl s)
  · dsimp only
    split
    · exact .inr (.of_core h (State.engage_stoodDown _))
    · exact .inl h

/-! ## The vote register -/

/-- The node with other effective values. -/
def State.withVotes (s : State) (v : Votes) : State := { s with engine := { s.engine with effective := v } }

/-- The changes of effective claim and inhibit at the engine: none, or one turn of a node that may act. -/
theorem State.votesAtEngine_turns (s : State) (old : Votes) : s.votesAtEngine old = s ∨
    (s.bypass.state = .off ∨ s.engine.state ≠ .quiet) ∧ s.Turns (s.votesAtEngine old) := by
  unfold State.votesAtEngine
  split
  · exact s.topologyChange_turns.imp_right (fun h => ⟨.inl h.1, h.2⟩)
  · split
    · split
      · exact s.inhibitOn_turns.imp_right (fun h => ⟨.inr h.1, h.2⟩)
      · rename_i hi
        exact (State.inhibitOff_turns (by simpa [State.inhibited] using hi)).imp_right (fun h => ⟨.inr h.1, h.2⟩)
    · exact .inl rfl

/-- A recombination: the values change, the bypass controller may engage, and the engine takes what changed. -/
theorem State.recombine_cases (s : State) : ∃ q,
    ((s.withVotes (effectiveVotes s.laneA s.laneB)).CoreFrame q ∨
      (s.withVotes (effectiveVotes s.laneA s.laneB)).StoodDown q) ∧
    s.recombine = q.votesAtEngine s.engine.effective := by
  let v := s.withVotes (effectiveVotes s.laneA s.laneB)
  have changed : v.CoreFrame v.bypassRequestChanged ∨ v.StoodDown v.bypassRequestChanged := by
    unfold State.bypassRequestChanged
    split
    · split
      · exact .inr v.engage_stoodDown
      · exact .inl (.refl v)
    · exact .inl (State.CoreFrame.refl v).testRelease
  unfold State.recombine
  dsimp only
  split
  · exact ⟨_, changed, rfl⟩
  · exact ⟨_, .inl (.refl v), rfl⟩

/-! ## One command -/

/-- All that one command but the resets and the end of start-up can do to the core of the node that stands as `s`. -/
inductive State.Passes (s : State) : State → Prop where
  | start : Passes s s
  /-- A change that leaves the core. -/
  | frame {r t : State} (h : Passes s r) (k : r.CoreFrame t) : Passes s t
  /-- A request, a transaction or a release of the reset of one lane. -/
  | lane (l : LaneId) (f : LanePort → LanePort) : Passes s (s.modLane l f)
  /-- A turn of the engine, which takes one only in OFF, out of QUIET or at its deadline. -/
  | turns {r t : State} (h : Passes s r)
      (acts : r.bypass.state = .off ∨ r.engine.state ≠ .quiet ∨ r.engine.deadline.isSome) (k : r.Turns t) : Passes s t
  /-- A control frame that arrives on an ACTIVE line. -/
  | arrives {r t : State} {e : EndId} {x : LineId} (heard : (s.line e x).state = .active) (h : s.CoreFrame r)
      (k : r.Turns t ∨ r.Closes t) : Passes s t
  /-- The start of an engagement. -/
  | standsDown {r t : State} (h : Passes s r) (k : r.StoodDown t) : Passes s t
  /-- The end of a release: the bypass is OFF. -/
  | released (h : s.bypass.state = .releasing) (b : Bypass) : Passes s { s with bypass := b }
  /-- A change of one lane and the recombination of the votes. -/
  | recombines (l : LaneId) (f : LanePort → LanePort) : Passes s (s.modLane l f).recombine

theorem State.Passes.topologyChange (h : s.Passes t) : s.Passes t.topologyChange := by
  rcases t.topologyChange_turns with k | ⟨ho, k⟩
  · rwa [k]
  · exact h.turns (.inl ho) k

theorem State.Passes.end_ {e : EndId} (h : s.Passes t) (k : State.EndFrame e t r) : s.Passes r := h.frame k.core

theorem State.Passes.modEnd (h : s.Passes t) {e : EndId} {f : EndUnit → EndUnit} : s.Passes (t.modEnd e f) :=
  h.frame (State.CoreFrame.refl t).modEnd

theorem State.Passes.engineEndChange (h : s.Passes t) {old new : EndState} {tag : Bool} :
    s.Passes (t.engineEndChange old new tag) := by
  unfold State.engineEndChange
  split
  · exact h.topologyChange
  · split
    · rename_i ha
      refine h.turns (.inr (.inl (by simp [ha.2]))) ((State.Turning.start ?_).actAlerted ?_ id id)
      all_goals simp [ha.2]
    · exact h

/-- An end state decided again. -/
theorem State.Passes.decideEnd (h : s.Passes t) {e : EndId} {tag : Bool} : s.Passes (t.decideEnd e tag) := by
  unfold State.decideEnd
  have raised : ∀ {r : State}, s.Passes r → s.Passes (r.raiseBoth .endChange) := fun k =>
    k.frame (State.CoreFrame.refl _).raiseBoth
  have purged : ∀ {r : State}, s.Passes r → s.Passes (r.departurePurge e) := fun k =>
    k.end_ (State.EndFrame.refl e _).departurePurge
  dsimp only
  split <;> split
  · exact (purged (raised h.modEnd)).engineEndChange
  · exact (purged h.modEnd).engineEndChange
  · exact (raised h.modEnd).engineEndChange
  · exact h.modEnd.engineEndChange

/-- What follows a change of an end's lines. -/
theorem State.Passes.afterLines (h : s.Passes t) {e : EndId} : s.Passes (t.afterLines e) :=
  (h.modEnd.end_ (State.EndFrame.refl e _).senderAfterLines).decideEnd

theorem State.Passes.lineSilent (h : s.Passes t) {e : EndId} {x : LineId} : s.Passes (t.lineSilent e x) :=
  h.modEnd.afterLines

theorem State.Passes.handleKind {l : LaneId} {is : Byte → Bool} {f : List Byte → Reply × State}
    (h : ∀ body, s.Passes (f body).2) : s.Passes (s.handleKind l is f) := by
  unfold State.handleKind
  split
  · split
    · exact (h _).frame (State.CoreFrame.refl _).reply
    · exact .start
  · exact .start
  · exact .start

theorem State.Passes.handle {l : LaneId} {code : Byte} {f : List Byte → Reply × State}
    (h : ∀ body, s.Passes (f body).2) : s.Passes (s.handle l code f) := .handleKind h

theorem State.Passes.handleAttached {l : LaneId} {code : Byte} {f : List Byte → Reply × State}
    (h : ∀ body, s.Passes (f body).2) : s.Passes (s.handleAttached l code f) := by
  refine .handle (fun body => ?_)
  split
  · exact h body
  · exact .start

theorem State.Passes.noBody {p : Reply × State} (h : s.Passes p.2) (body : List Byte) :
    s.Passes (noBody s p body).2 := by
  unfold Machine.noBody
  split
  · exact h
  · exact .start

theorem State.Passes.withBody {β : Type} {decode : List Byte → Option β} {f : β → Reply × State}
    (h : ∀ b, s.Passes (f b).2) (body : List Byte) : s.Passes (withBody s decode f body).2 := by
  unfold Machine.withBody
  split
  · exact h _
  · exact .start

/-! ## Arrivals -/

/-- A frame that arrives is not taken, or fails its check, or goes on at a line that is ACTIVE. -/
theorem State.Passes.arrive {e : EndId} {x : LineId} {kind : Byte} {f : RawFrame} {valid : State → State}
    (h : (s.line e x).state = .active → ∀ r, State.EndFrame e s r → s.Passes (valid r)) :
    s.Passes (s.arrive e x kind f valid) := by
  unfold State.arrive
  split
  · exact .start
  · rename_i ha
    split
    · exact State.Passes.start.end_ (State.EndFrame.refl e s).countCheckError
    · exact h (by simpa [LineUnit.isActive] using ha) _ (State.EndFrame.refl e s).restartSilence

theorem State.Passes.takeAwaiting {β : Type} {e : EndId} {x : LineId} {f : RawFrame} {decode : List Byte → Option β}
    {handle : β → State → State} (k : State.EndFrame e s t) (h : ∀ b, s.Passes (handle b t)) :
    s.Passes (t.takeAwaiting e x f decode handle) := by
  have fresh : s.Passes (match decode f.body with
      | none => t.earn e x (.plain (frameBit f) (.refuse .malformed))
      | some b => handle b t) := by
    split
    · exact State.Passes.start.end_ k.earn
    · exact h _
  unfold State.takeAwaiting
  dsimp only
  split
  · exact fresh
  · split
    · exact State.Passes.start.end_ k.answer
    · exact fresh

theorem State.Passes.takeUnanswered {β : Type} {e : EndId} {x : LineId} {f : RawFrame}
    {decode : List Byte → Option β} {handle : β → State → State} (k : State.EndFrame e s t)
    (h : ∀ b, s.Passes (handle b t)) : s.Passes (t.takeUnanswered e x f decode handle) := by
  unfold State.takeUnanswered
  split
  · exact State.Passes.start.end_ k.countCheckError
  · exact h _

/-- A control frame of the engine. -/
theorem State.Passes.controlArrives {β : Type} {e : EndId} {x : LineId} {kind : Byte} {f : RawFrame}
    {decode : List Byte → Option β} {engine : β → State → State}
    (h : ∀ b r, State.Turns r (engine b r) ∨ State.Closes r (engine b r)) :
    s.Passes (s.controlArrives e x kind f decode engine) :=
  .arrive fun ha _ k => .takeAwaiting k fun b => .arrives ha k.earn.core (h b _)

theorem State.Passes.onReply {e : EndId} {bit : Bool} {handle : State → State} (k : State.EndFrame e s t)
    (h : ∀ r, State.EndFrame e s r → State.EndFrame e s (handle r)) : s.Passes (t.onReply e bit handle) := by
  unfold State.onReply
  split
  · exact State.Passes.start.end_ (h _ k.endRun)
  · exact State.Passes.start.end_ k

/-- A DATA frame in the three steps of R103. -/
theorem State.Passes.examineArrival {e : EndId} {x : LineId} {bit : Bool} {f : DataFrame}
    (h : s.Passes t) : s.Passes (t.examineArrival e x bit f) := by
  have earned : ∀ {r : State} {a : WaitingReply}, s.Passes r → s.Passes (r.earn e x a) := fun k =>
    k.end_ (State.EndFrame.refl e _).earn
  unfold State.examineArrival
  split
  · exact earned h
  · split
    · exact earned h.modEnd
    · split
      · rename_i r hr
        exact earned (h.frame ((State.CoreFrame.refl t).examineData hr))
      · exact earned h

/-! ## Sweeps, recentres and timers -/

theorem State.Passes.sendsExhausted (h : s.Passes t) {e : EndId} : s.Passes (t.sendsExhausted e) := by
  unfold State.sendsExhausted
  have moved : ∀ {r : State}, s.Passes r → s.Passes (r.moveFrame e) := fun k =>
    k.end_ (State.EndFrame.refl e _).moveFrame
  have ended : ∀ {r : State}, s.Passes r → s.Passes (r.endFrame .noAnswer e) := fun k =>
    k.end_ (State.EndFrame.refl e _).endFrame
  dsimp only
  split <;> split
  · exact (moved h.modEnd).lineSilent
  · exact (ended h.modEnd).lineSilent
  · exact moved h.modEnd
  · exact ended h.modEnd

theorem State.Passes.replyTimedOut (h : s.Passes t) {e : EndId} : s.Passes (t.replyTimedOut e) := by
  have k := h.end_ ((State.EndFrame.refl e t).sendOver.modSender (f := fun n => { n with holds := 0 }))
  unfold State.replyTimedOut
  dsimp only
  split
  · exact k.end_ (State.EndFrame.refl e _).sendHeld
  · exact k.sendsExhausted

theorem State.Passes.fullSweepEnded (h : s.Passes t) {e : EndId} {x : LineId} {runs : List Nat} :
    s.Passes (t.fullSweepEnded e x runs) := by
  unfold State.fullSweepEnded
  dsimp only
  refine State.Passes.afterLines ?_
  split
  · exact h.modEnd.modEnd.end_ (State.EndFrame.refl e _).enterActive
  · unfold State.sweepFailed
    split
    · exact h.modEnd.modEnd.modEnd.frame (State.CoreFrame.refl _).raiseBoth
    · exact h.modEnd.modEnd.modEnd

theorem State.Passes.recentreEnded (h : s.Passes t) {e : EndId} {x : LineId} {runs : List Nat} :
    s.Passes (t.recentreEnded e x runs) := by
  unfold State.recentreEnded
  dsimp only
  split
  · exact h.modEnd.modEnd
  · exact h.modEnd.modEnd.modEnd.afterLines

/-- A change of the rotation or of the store that leaves the working copy and does not begin a load. -/
theorem State.Passes.rotated (h : s.Passes t) {p : EndId × LineId} {m : Timer} :
    s.Passes { t with rotation := p, recentreTimer := m } :=
  h.frame ⟨⟨rfl, id, Iff.rfl, fun l => by cases l <;> exact BitVec.and_self⟩, rfl, rfl, rfl⟩

theorem State.Passes.recentreTurn (h : s.Passes t) : s.Passes t.recentreTurn := by
  unfold State.recentreTurn
  dsimp only
  split
  · unfold State.startRecentre
    dsimp only
    split
    · exact h.rotated.modEnd.frame (State.CoreFrame.refl _).sendControl
    · exact (h.rotated.modEnd.frame (State.CoreFrame.refl _).sendControl).modEnd
  · exact h.rotated

/-! ## Start-up, the bypass and the store -/

theorem State.Passes.setStore (h : s.Passes t) {w : Store} (k : w.working = t.store.working)
    (l : w.activity = .loading → t.store.activity = .loading) : s.Passes { t with store := w } :=
  h.frame ⟨⟨k, l, Iff.rfl, fun l => by cases l <;> exact BitVec.and_self⟩, rfl, rfl, rfl⟩

theorem State.Passes.storeDone (h : s.Passes t) : s.Passes t.storeDone := by
  have k := h.setStore (w := { t.store with activity := .idle, writingLane := none, operation := none }) rfl (by simp)
  unfold State.storeDone
  dsimp only
  split
  · exact k.frame (State.CoreFrame.refl _).raise
  · exact k

theorem State.Passes.latch (h : s.Passes t) {c : LatchedCause} : s.Passes (t.latch c) := by
  rcases t.latch_cases c with k | k
  · exact h.frame k
  · exact h.standsDown k

/-- The end of a release. -/
theorem State.Passes.releaseEnded (h : s.bypass.state = .releasing) : s.Passes s.releaseEnded := by
  unfold State.releaseEnded
  split
  · exact .standsDown .start s.engage_stoodDown
  · exact ((((State.Passes.released h _).frame (State.CoreFrame.refl _).raiseBoth).modEnd.modEnd).afterLines.afterLines
      ).topologyChange

theorem State.Passes.engageEnded (h : s.bypass.state = .engaging) : s.Passes s.engageEnded :=
  .frame .start ((State.CoreFrame.refl s).setBypass (by simp [h])).testRelease

/-- What the end of start-up does to the core: the store is loaded, and the record, the candidate and the engine stand or
are stood down. -/
theorem State.startUp_cases (s : State) :
    State.CoreFrame { s with store := s.store.afterLoad } s.startUp ∨
    State.StoodDown { s with store := s.store.afterLoad } s.startUp := by
  let q : State := { s with store := s.store.afterLoad }
  have raised : q.CoreFrame (if q.store.loadOutcome = .defaulted then q.raiseBoth .settingsDefaulted else q) := by
    split
    · exact (State.CoreFrame.refl q).raiseBoth
    · exact .refl q
  generalize hr : (if q.store.loadOutcome = .defaulted then q.raiseBoth .settingsDefaulted else q) = r at raised
  have latched : q.CoreFrame (if r.store.tagValid then r else r.latch .integrityTag) ∨
      q.StoodDown (if r.store.tagValid then r else r.latch .integrityTag) := by
    split
    · exact .inl raised
    · exact (r.latch_cases _).imp raised.trans (.of_core raised)
  have ended : ∀ t : State, t.CoreFrame (State.testRelease { t with bypass := { t.bypass with
      startUpComplete := true, scrubTimer := some Config.scrubPeriod } }) := fun t =>
    ((State.CoreFrame.refl t).setBypass (b := { t.bypass with
      startUpComplete := true, scrubTimer := some Config.scrubPeriod }) Iff.rfl).testRelease
  unfold State.startUp
  dsimp only
  rw [hr]
  exact latched.imp (·.trans (ended _)) (·.frame (ended _))

/-! ## The commands -/

theorem State.Passes.ite {p : Prop} [Decidable p] (h : p → s.Passes t) : s.Passes (if p then t else s) := by
  split
  · exact h ‹_›
  · exact .start

/-- Every command but the resets and the end of start-up passes the node on in the ways of `State.Passes`. -/
theorem exec_passes (c : Instr) (s : State) : ∃ t, exec c s = .next t ∧
    (c = .powerOn ∨ c = .nodeReset ∨ c = .startUpComplete ∨ s.Passes t) := by
  have end_ : ∀ {t : State} {e : EndId}, State.EndFrame e s t → s.Passes t := fun h => State.Passes.start.end_ h
  have passes : ∀ {c : Instr} {t : State}, exec c s = .next t → s.Passes t → ∃ t, exec c s = .next t ∧
      (c = .powerOn ∨ c = .nodeReset ∨ c = .startUpComplete ∨ s.Passes t) :=
    fun h k => ⟨_, h, .inr (.inr (.inr k))⟩
  cases c with
  | powerOn => exact ⟨_, rfl, .inl rfl⟩
  | nodeReset => exact ⟨_, rfl, .inr (.inl rfl)⟩
  | startUpComplete => exact ⟨_, rfl, .inr (.inr (.inl rfl))⟩
  | nodeResetRelease =>
    refine passes rfl ?_
    exact .frame .start ⟨⟨rfl, id, Iff.rfl, fun l => by cases l <;> exact BitVec.and_self⟩, rfl, rfl, rfl⟩
  | laneReset l =>
    exact passes rfl (.recombines l _)
  | laneResetRelease l =>
    exact passes rfl (.lane l _)
  | couplerSenseChange e coupled =>
    refine passes rfl ?_
    unfold State.senseChange
    split
    · exact .start
    · dsimp only
      split
      · exact State.Passes.start.modEnd
      · exact State.Passes.start.modEnd.modEnd.afterLines
  | carrierChange e x present =>
    refine passes rfl ?_
    unfold State.carrierChange
    split
    · exact .start
    · dsimp only
      split
      · exact State.Passes.start.modEnd
      · exact State.Passes.start.modEnd.modEnd.afterLines
  | settleTimerExpiry e x =>
    exact passes rfl (.ite fun _ => State.Passes.start.modEnd.afterLines)
  | fullSweepStart e =>
    exact passes rfl State.Passes.start.modEnd
  | fullSweepEnd e runs =>
    refine passes rfl ?_
    split
    · exact State.Passes.start.fullSweepEnded
    · exact .start
    · exact .start
  | trainingPauseEnd e x =>
    exact passes rfl (.ite fun _ => State.Passes.start.modEnd)
  | silenceTimerExpiry e x =>
    exact passes rfl (.ite fun _ => State.Passes.start.lineSilent)
  | recentreTurn =>
    exact passes rfl (.ite fun _ => State.Passes.start.recentreTurn)
  | recentreSweepEnd e runs =>
    refine passes rfl ?_
    split
    · exact State.Passes.start.recentreEnded
    · exact .start
    · exact .start
  | patternHoldEnd e x =>
    exact passes rfl (.ite fun _ => end_ (State.EndFrame.refl e s).holdEnded)
  | beaconDue e x =>
    exact passes rfl (.ite fun _ => end_ (State.EndFrame.refl e s).queueBeacon)
  | transmissionEnd e x =>
    exact passes rfl (end_ (State.EndFrame.refl e s).endTransmission)
  | unknownFrameKind e x kind f =>
    exact passes rfl (.arrive fun _ _ k => end_ k.answer)
  | beacon e x f =>
    exact passes rfl (.arrive fun _ _ k => .takeUnanswered k fun _ => (end_ k).modEnd.decideEnd)
  | patternRequest e x f =>
    exact passes rfl (.arrive fun _ _ k => .takeAwaiting k fun _ => end_ k.earn)
  | alert e x f =>
    exact passes rfl (.controlArrives fun _ r => .inl (r.onAlert_turns e _))
  | tally e x f =>
    exact passes rfl (.controlArrives fun _ r => r.onTally_turns e _ _)
  | closure e x f =>
    exact passes rfl (.controlArrives fun _ r => r.onClosure_turns e _ _ _)
  | commit e x f =>
    exact passes rfl (.controlArrives fun _ r => .inl (r.onCommit_turns e _ _ _))
  | commitPurge =>
    exact passes rfl (.frame .start s.purgeAtCommit_core)
  | admissionAtCommit =>
    exact passes rfl State.Passes.start.decideEnd.decideEnd
  | dissent e x f =>
    exact passes rfl (.controlArrives fun _ r => .inl (r.onDissent_turns e _ _))
  | defer e x f =>
    exact passes rfl (.controlArrives fun _ r => .inl (r.onDefer_turns e _ _))
  | data e x f =>
    exact passes rfl (.arrive fun _ _ k => .takeAwaiting k fun _ => (end_ k).examineArrival)
  | accept e x f =>
    exact passes rfl (.arrive fun _ _ k => .takeUnanswered k fun _ => .onReply k fun _ i => i.endFrame)
  | hold e x f =>
    exact passes rfl (.arrive fun _ _ k => .takeUnanswered k fun _ => .onReply k fun _ i => i.onHold)
  | refuse e x f =>
    exact passes rfl (.arrive fun _ _ k => .takeUnanswered k fun _ => .onReply k fun _ i => i.endFrame)
  | replyTimeout e =>
    exact passes rfl (.ite fun _ => State.Passes.start.replyTimedOut)
  | holdWaitEnd e =>
    exact passes rfl (.ite fun _ => end_ (State.EndFrame.refl e s).sendHeld)
  | pendingSend e =>
    exact passes rfl (.ite fun _ => end_ (State.EndFrame.refl e s).firstSend)
  | arbiterOffer e =>
    exact passes rfl (.frame .start (s.offerFrame_core e))
  | resolverExamination =>
    exact passes rfl (.frame .start s.resolverOpportunity_core)
  | deadlineExpiry =>
    exact passes rfl (.ite fun h => .turns .start (.inr (.inr h)) s.deadlineExpired_turns)
  | releaseEnd =>
    exact passes rfl (.ite fun h => .releaseEnded h.1)
  | engageEnd =>
    exact passes rfl (.ite fun h => .engageEnded h.1)
  | scrub =>
    refine passes rfl ?_
    refine .ite fun _ => ?_
    unfold State.scrubbed
    split
    · exact State.Passes.start.latch
    · exact .ite fun _ => State.Passes.start.latch
  | writeComplete =>
    refine passes rfl ?_
    exact .ite fun _ => (State.Passes.start.setStore (w := { s.store with
      area := .written s.store.image.areaBytes (crc16 s.store.image.areaBytes) }) rfl id).storeDone
  | lockComplete =>
    refine passes rfl ?_
    exact .ite fun _ => (State.Passes.start.setStore (w := { s.store with locked := true }) rfl id).storeDone
  | laneTransaction l span bytes =>
    refine passes rfl ?_
    split
    · exact .start
    · exact .lane l _
  | unknownRequest l =>
    exact passes rfl (.handleKind fun _ => .start)
  | null l =>
    exact passes rfl (.handle (.noBody .start))
  | attach l =>
    refine passes rfl ?_
    refine .handle (.noBody ?_)
    dsimp only
    unfold State.attachLane
    split
    · exact .start
    · exact .recombines l _
  | detach l =>
    refine passes rfl ?_
    refine .handle (.noBody ?_)
    exact .ite fun _ => .recombines l _
  | setVotes l =>
    exact passes rfl (.handleAttached (.withBody fun _ => .recombines l _))
  | send l =>
    exact passes rfl (.handleAttached (.withBody fun _ => .frame .start (State.CoreFrame.refl s).judgeSend))
  | fetch l =>
    refine passes rfl ?_
    refine .handleAttached (.noBody ?_)
    unfold State.fetchEntry
    split
    · exact .start
    · dsimp only
      exact .lane l _
  | readDirectory l =>
    exact passes rfl (.handle (.withBody fun _ => .start))
  | readLines l =>
    exact passes rfl (.handle (.withBody fun _ => .start))
  | readSetting l =>
    exact passes rfl (.handle (.withBody fun _ => .start))
  | readNode l =>
    exact passes rfl (.handle (.noBody .start))
  | readCounters l =>
    exact passes rfl (.handle (.noBody .start))
  | readNotices l =>
    exact passes rfl (.handle (.noBody .start))
  | clearNotices l =>
    exact passes rfl (.handle (.withBody fun _ => .lane l _))
  | setMask l =>
    refine passes rfl ?_
    refine .handle (.withBody fun _ => ?_)
    dsimp only
    exact .lane l _
  | startInauguration l =>
    refine passes rfl ?_
    refine .handleAttached (.noBody ?_)
    unfold State.startInauguration
    split
    · exact .start
    · exact State.Passes.start.topologyChange
  | retrainLine l =>
    refine passes rfl ?_
    refine .handleAttached (.withBody fun _ => ?_)
    exact .ite fun _ => State.Passes.start.modEnd.afterLines
  | writeSetting l =>
    refine passes rfl ?_
    refine .handleAttached (.withBody fun _ => ?_)
    unfold State.writeSetting
    repeat' split
    · exact .start
    · exact .start
    · exact .start
    · exact State.Passes.start.setStore rfl (by simp [Store.begin_])
  | lockCommissioning l =>
    refine passes rfl ?_
    refine .handleAttached (.noBody ?_)
    unfold State.lockCommissioning
    repeat' split
    · exact .start
    · exact .start
    · exact .start
    · exact State.Passes.start.setStore rfl (by simp [Store.begin_])

end Sys2Proof.Machine
end

section
/-! PROOF. What every step keeps of the engine and of the active record, each by induction along what one command can do. -/

namespace Sys2Proof.Machine

open Sys2Proof

variable {s t r : State}

/-! ## The engine's record (O12) -/

theorem State.EngineKept.frame (h : s.EngineKept) (k : s.CoreFrame t) : t.EngineKept := by
  unfold State.EngineKept at *
  rwa [k.engine, k.candidate]

theorem State.EngineKept.turns (h : s.EngineKept) (k : s.Turns t) : t.EngineKept := by
  cases k with
  | same k => exact h.frame k
  | moves k left formed =>
    obtain ⟨count, form, held, -⟩ := State.engineKept_iff.1 h
    have none : t.candidate = none := by
      rcases k.candidate with hn | ⟨hc, hs⟩
      · exact hn
      · rw [hc, ← Option.not_isSome_iff_eq_none]
        exact fun hh => hs (held.1 hh)
    refine State.engineKept_iff.2 ⟨k.count count, formed form, ?_, ?_⟩
    · simp [none, left]
    · simp [none]
  | commits k =>
    refine State.engineKept_iff.2 ⟨k.count h.1, k.formed, ?_, ?_⟩
    · simp [k.candidate, k.quiet]
    · simp [k.candidate]

theorem State.EngineKept.closes (h : s.EngineKept) (k : s.Closes t) : t.EngineKept := by
  obtain ⟨c, hc, -, x, hx, ha⟩ := k.candidate
  refine State.engineKept_iff.2 ⟨k.count h.1, k.formed, ?_, ?_⟩
  · simp [hc, k.closed]
  · intro d hd
    obtain rfl : c = d := by simpa [hc] using hd
    exact ⟨x, hx, ha⟩

/-- Stood down, the engine's record is that of QUIET whatever it was. -/
theorem State.StoodDown.engineKept (k : s.StoodDown t) : t.EngineKept := by
  refine State.engineKept_iff.2 ?_
  rw [k.engine, k.candidate]
  simp [Engine.engage, Engine.Formed, EngineState.inProgress]

theorem State.EngineKept.recombine (h : s.EngineKept) : s.recombine.EngineKept := by
  obtain ⟨q, hq, he⟩ := s.recombine_cases
  have kept : q.EngineKept := by
    rcases hq with hq | hq
    · exact State.EngineKept.frame (s := s.withVotes (effectiveVotes s.laneA s.laneB)) h hq
    · exact hq.engineKept
  rw [he]
  rcases q.votesAtEngine_turns s.engine.effective with k | ⟨-, k⟩
  · rwa [k]
  · exact kept.turns k

theorem State.EngineKept.lane (h : s.EngineKept) (l : LaneId) (f : LanePort → LanePort) : (s.modLane l f).EngineKept := by
  cases l <;> exact h

theorem State.EngineKept.passes (h : s.EngineKept) (k : s.Passes t) : t.EngineKept := by
  induction k with
  | start => exact h
  | frame _ k ih => exact ih.frame k
  | lane l f => exact h.lane l f
  | turns _ _ k ih => exact ih.turns k
  | arrives _ hr k => exact k.elim (h.frame hr).turns (h.frame hr).closes
  | standsDown _ k => exact k.engineKept
  | released _ b => exact h
  | recombines l f => exact (h.lane l f).recombine

/-! ## Effective inhibit (O12) -/

/-- The engine is QUIET while the bypass is not OFF. -/
def State.QuietOut (s : State) : Prop := s.bypass.state ≠ .off → s.engine.state = .quiet

theorem Engine.Free.of_quiet {g : Engine} (h : g.state = .quiet) : g.Free := by simp [Engine.Free, h]

theorem State.StoodDown.free (k : s.StoodDown t) : t.engine.Free :=
  .of_quiet (by rw [k.engine]; rfl)

theorem State.InhibitKept.turns (h : s.engine.Free) (k : s.Turns t) : t.engine.Free := by
  cases k with
  | same k => rwa [k.engine]
  | moves _ _ _ free => exact free h
  | commits k => exact .of_quiet k.quiet

@[simp] theorem State.enterMismatch_state (s : State) (c : MismatchCause) :
    (s.enterMismatch c).engine.state = .mismatch := rfl

/-- A change held under inhibit ends in MISMATCH. -/
theorem State.holdChange_state (s : State) : s.holdChange.engine.state = .mismatch := by
  unfold State.holdChange
  dsimp only
  rw [(State.CoreFrame.refl _).alertAll.engine]
  split
  · rename_i hm
    exact hm
  · rfl

/-- Effective inhibit that has turned on leaves none of the states it keeps out. -/
theorem State.inhibitOn_free (s : State) : s.inhibitOn.engine.Free := by
  unfold State.inhibitOn
  split
  case h_1 hs => simp [Engine.Free, hs]
  case h_2 hs => simp [Engine.Free, hs]
  case h_3 hs => simp [Engine.Free, hs]
  case h_4 hs => simp [Engine.Free, hs]
  case h_5 => simp [Engine.Free]
  case h_6 => simp [Engine.Free]
  case h_7 => simp [Engine.Free]

/-- Behind a recombination the engine is free: inhibit is off, or it has just been taken, or it stands as it was. -/
theorem State.votesAtEngine_free {old : Votes} (quiet : s.QuietOut)
    (h : s.engine.effective.inhibit = old.inhibit → s.engine.Free) : (s.votesAtEngine old).engine.Free := by
  by_cases hi : s.engine.effective.inhibit = true
  · unfold State.votesAtEngine State.topologyChange
    split
    · split
      · rename_i hb
        exact .of_quiet (quiet hb)
      · rw [if_pos (show s.inhibited = true from hi)]
        simp [Engine.Free, s.holdChange_state]
    · split
      · exact s.inhibitOn_free
      · rename_i hk
        exact h (not_not.1 hk)
  · have off : (s.votesAtEngine old).engine.effective.inhibit ≠ true := by
      rcases s.votesAtEngine_turns old with k | ⟨-, k⟩
      · rwa [k]
      · rwa [k.effective]
    exact fun c => absurd c off

theorem State.InhibitKept.recombine (quiet : s.QuietOut) (h : s.engine.Free) : s.recombine.engine.Free := by
  obtain ⟨q, hq, he⟩ := s.recombine_cases
  rw [he]
  rcases hq with hq | hq
  · refine State.votesAtEngine_free (fun hb => ?_) (fun hi => ?_)
    · rw [hq.engine]
      exact quiet (fun hs => hb (hq.off.2 hs))
    · unfold Engine.Free
      rw [hi, hq.engine]
      exact h
  · exact State.votesAtEngine_free (fun _ => by rw [hq.engine]; rfl) (fun _ => hq.free)

theorem State.InhibitKept.passes (quiet : s.QuietOut) (h : s.engine.Free) (k : s.Passes t) : t.engine.Free := by
  induction k with
  | start => exact h
  | frame _ k ih => rwa [k.engine]
  | lane l f => cases l <;> exact h
  | turns _ _ k ih => exact State.InhibitKept.turns ih k
  | arrives _ hr k =>
    rcases k with k | k
    · exact State.InhibitKept.turns (by rwa [hr.engine]) k
    · simp [Engine.Free, k.closed]
  | standsDown _ k => exact k.free
  | released _ b => exact h
  | recombines l f => cases l <;> exact State.InhibitKept.recombine quiet h

theorem State.HeldOut.quietOut (h : s.HeldOut) : s.QuietOut := fun hb => by
  obtain ⟨-, -, -, -, -, hq, -⟩ := h.2 hb
  exact hq

/-! ## The commands that reset or start the node -/

theorem State.resetBlocks_engine (s : State) (c : ResetCause) : (s.resetBlocks c).engine = Engine.reset := rfl
theorem State.resetBlocks_candidate (s : State) (c : ResetCause) : (s.resetBlocks c).candidate = none := rfl
theorem State.resetBlocks_directory (s : State) (c : ResetCause) : (s.resetBlocks c).directory = Directory.empty := rfl

/-- All that one command does to the core: a reset, the end of start-up, or what `State.Passes` says. -/
inductive CommandCases (c : Instr) (s t : State) : Prop where
  | reset (directory : t.directory = Directory.empty) (candidate : t.candidate = none) (engine : t.engine = Engine.reset)
  | startUp (loading : s.store.activity = .loading) (k : t = s.startUp)
  | passes (k : s.Passes t)

theorem commandCases {c : Instr} (h : exec c s = .next t) : CommandCases c s t := by
  obtain ⟨r, hr, hc⟩ := exec_passes c s
  obtain rfl : r = t := by
    rw [hr] at h
    injection h
  rcases hc with rfl | rfl | rfl | k
  · obtain rfl : s.resetBlocks .powerOn = r := by injection hr
    exact .reset rfl rfl rfl
  · obtain rfl : { s.resetBlocks .nodeReset with nrst := true } = r := by injection hr
    exact .reset rfl rfl rfl
  · obtain rfl : (if !s.nrst && s.store.activity == .loading then s.startUp else s) = r := by injection hr
    split
    · rename_i hl
      simp only [Bool.and_eq_true, beq_iff_eq] at hl
      exact .startUp hl.2 rfl
    · exact .passes .start
  · exact .passes k

theorem State.EngineKept.exec {c : Instr} (h : s.EngineKept) (k : exec c s = .next t) : t.EngineKept := by
  rcases commandCases k with ⟨-, hc, he⟩ | ⟨-, rfl⟩ | k
  · refine State.engineKept_iff.2 ?_
    rw [hc, he]
    simp [Engine.reset, Engine.Formed, EngineState.inProgress]
  · rcases s.startUp_cases with hs | hs
    · exact State.EngineKept.frame (s := { s with store := s.store.afterLoad }) h hs
    · exact hs.engineKept
  · exact h.passes k

theorem State.InhibitKept.exec {c : Instr} (quiet : s.QuietOut) (h : s.engine.Free) (k : exec c s = .next t) :
    t.engine.Free := by
  rcases commandCases k with ⟨-, -, he⟩ | ⟨-, rfl⟩ | k
  · exact .of_quiet (by rw [he]; rfl)
  · rcases s.startUp_cases with hs | hs
    · rw [hs.engine]
      exact h
    · exact hs.free
  · exact State.InhibitKept.passes quiet h k

/-- A step is idle, or a command on the node with the rest of the queue. -/
theorem step_cases (h : step s = .next t) :
    t = s ∨ ∃ c rest, exec c { s with pending := rest } = .next t := by
  unfold step at h
  split at h
  · injection h with h
    exact .inl h.symm
  · exact .inr ⟨_, _, h⟩

end Sys2Proof.Machine

open Sys2Proof Sys2Proof.Machine in
/-- Settles O12, along the turns of the engine; the vote register hands a change of inhibit on in the same event, and out of
OFF the engine is QUIET. -/
theorem engineKeptByStep : Obligations.EngineKeptByStep := by
  intro s t h
  rcases step_cases h with rfl | ⟨c, rest, h⟩
  · exact ⟨id, fun _ => id⟩
  · exact ⟨fun k => State.EngineKept.exec (s := { s with pending := rest }) k h,
      fun out k => State.InhibitKept.exec (s := { s with pending := rest }) out.quietOut k h⟩

namespace Sys2Proof.Machine
open Sys2Proof
variable {s t r : State}

/-! ## The active record (O5) -/

/-- The record is `d`, or empty, or that of a commit, which has been announced to both lanes. -/
def State.RecordFrom (d : Directory) (t : State) : Prop :=
  t.directory = d ∨ t.directory = Directory.empty ∨
  (t.directory.generation ≠ 0 ∧ t.candidate = none ∧
    ∀ l, (t.lane l).notices &&& Notice.directoryChanged.mark = Notice.directoryChanged.mark)

variable {d : Directory}

theorem State.RecordFrom.frame (h : State.RecordFrom d s) (k : s.CoreFrame t) : State.RecordFrom d t := by
  unfold State.RecordFrom at *
  rw [k.directory, k.candidate]
  exact h.imp_right (Or.imp_right fun ⟨g, n, m⟩ => ⟨g, n, fun l => k.toSteady.mark (m l)⟩)

theorem State.RecordFrom.turns (h : State.RecordFrom d s) (k : s.Turns t) : State.RecordFrom d t := by
  cases k with
  | same k => exact h.frame k
  | moves k =>
    unfold State.RecordFrom at *
    rw [k.directory]
    refine h.imp_right (Or.imp_right fun ⟨g, n, m⟩ => ⟨g, ?_, fun l => k.toSteady.mark (m l)⟩)
    exact k.candidate.elim id (fun hc => hc.1.trans n)
  | commits k => exact .inr (.inr ⟨k.generation, k.candidate, k.announced⟩)

theorem State.StoodDown.recordFrom (k : s.StoodDown t) : State.RecordFrom d t := .inr (.inl k.directory)

theorem State.RecordFrom.recombine (h : s.directory = d) : State.RecordFrom d s.recombine := by
  obtain ⟨q, hq, he⟩ := s.recombine_cases
  have kept : State.RecordFrom d q := hq.elim (fun k => .inl (k.directory.trans h)) (·.recordFrom)
  rw [he]
  rcases q.votesAtEngine_turns s.engine.effective with k | ⟨-, k⟩
  · rwa [k]
  · exact kept.turns k

theorem State.RecordFrom.passes (k : s.Passes t) : State.RecordFrom s.directory t := by
  induction k with
  | start => exact .inl rfl
  | frame _ k ih => exact ih.frame k
  | lane l f => cases l <;> exact .inl rfl
  | turns _ _ k ih => exact ih.turns k
  | arrives _ hr k =>
    rcases k with k | k
    · exact State.RecordFrom.turns (.inl hr.directory) k
    · exact .inl (k.directory.trans hr.directory)
  | standsDown _ k => exact k.recordFrom
  | released _ b => exact .inl rfl
  | recombines l f => exact .recombine (by cases l <;> rfl)

end Sys2Proof.Machine

open Sys2Proof Sys2Proof.Machine in
/-- Settles O5: of all that a command can do only a reset, an engagement and a commit write the record. -/
theorem directoryChangesOnlyAtCommitOrClearing : Obligations.DirectoryChangesOnlyAtCommitOrClearing := by
  intro c s t h changed
  have from_ : State.RecordFrom s.directory t := by
    rcases commandCases h with ⟨hd, -, -⟩ | ⟨-, rfl⟩ | k
    · exact .inr (.inl hd)
    · exact s.startUp_cases.elim (fun k => .inl k.directory) (·.recordFrom)
    · exact .passes k
  exact from_.resolve_left changed

namespace Sys2Proof.Machine
open Sys2Proof
variable {s t r : State}

/-! ## The record and the candidate (O13) -/

/-- The record is empty or sound, and the candidate sound, for the node's own tag. -/
def State.RecordSound (s : State) : Prop :=
  (s.directory = Directory.empty ∨ s.directory.Sound s.ownTag) ∧ ∀ c, s.candidate = some c → c.Sound s.ownTag

theorem State.RecordSound.frame (h : s.RecordSound) (k : s.CoreFrame t) : t.RecordSound := by
  unfold State.RecordSound at *
  rwa [k.directory, k.candidate, k.toSteady.ownTag]

/-- An empty record and no candidate are sound. -/
theorem State.RecordSound.of_empty (hd : t.directory = Directory.empty) (hc : t.candidate = none) : t.RecordSound :=
  ⟨.inl hd, fun c h => by simp [hc] at h⟩

theorem State.RecordSound.turns (h : s.RecordSound) (k : s.Turns t) : t.RecordSound := by
  obtain ⟨record, candidate⟩ := h
  cases k with
  | same k => exact State.RecordSound.frame ⟨record, candidate⟩ k
  | moves k =>
    unfold State.RecordSound
    rw [k.directory, k.toSteady.ownTag]
    refine ⟨record, fun c hc => ?_⟩
    rcases k.candidate with hn | ⟨hs, -⟩
    · simp [hn] at hc
    · exact candidate c (hs ▸ hc)
  | commits k =>
    unfold State.RecordSound
    rw [k.toSteady.ownTag]
    exact ⟨.inr (k.sound candidate), fun c hc => by simp [k.candidate] at hc⟩

theorem State.RecordSound.closes (h : s.RecordSound) (k : s.Closes t) : t.RecordSound := by
  obtain ⟨c, hc, sound, -⟩ := k.candidate
  unfold State.RecordSound
  rw [k.directory, k.toSteady.ownTag]
  refine ⟨h.1, fun d hd => ?_⟩
  obtain rfl : c = d := by simpa [hc] using hd
  exact sound

theorem State.RecordSound.lane (h : s.RecordSound) (l : LaneId) (f : LanePort → LanePort) :
    (s.modLane l f).RecordSound := by
  cases l <;> exact h

theorem State.RecordSound.recombine (h : s.RecordSound) : s.recombine.RecordSound := by
  obtain ⟨q, hq, he⟩ := s.recombine_cases
  have kept : q.RecordSound := by
    rcases hq with k | k
    · exact State.RecordSound.frame (s := s.withVotes (effectiveVotes s.laneA s.laneB)) h k
    · exact .of_empty k.directory k.candidate
  rw [he]
  rcases q.votesAtEngine_turns s.engine.effective with k | ⟨-, k⟩
  · rwa [k]
  · exact kept.turns k

theorem State.RecordSound.passes (h : s.RecordSound) (k : s.Passes t) : t.RecordSound := by
  induction k with
  | start => exact h
  | frame _ k ih => exact ih.frame k
  | lane l f => exact h.lane l f
  | turns _ _ k ih => exact ih.turns k
  | arrives _ hr k => exact k.elim (h.frame hr).turns (h.frame hr).closes
  | standsDown _ k => exact .of_empty k.directory k.candidate
  | released _ b => exact h
  | recombines l f => exact (h.lane l f).recombine

/-! ## A node that is still LOADING (O13) -/

theorem State.Turns.steady (h : s.Turns t) : s.Steady t := by
  cases h with
  | same h => exact h.toSteady
  | moves h => exact h.toSteady
  | commits h => exact h.toSteady

/-- No command but the resets begins a load. -/
theorem State.Passes.loading (k : s.Passes t) : t.store.activity = .loading → s.store.activity = .loading := by
  induction k with
  | start => exact id
  | frame _ k ih => exact ih ∘ k.loading
  | lane l f => cases l <;> exact id
  | turns _ _ k ih => exact ih ∘ k.steady.loading
  | arrives _ hr k => exact hr.loading ∘ k.elim (·.steady.loading) (·.loading)
  | standsDown _ k ih => exact ih ∘ k.loading
  | released _ b => exact id
  | recombines l f =>
    obtain ⟨q, hq, he⟩ := (s.modLane l f).recombine_cases
    have stands : q.store.activity = .loading → s.store.activity = .loading := fun hl => by
      have : ((s.modLane l f).withVotes _).store.activity = .loading := hq.elim (·.loading hl) (·.loading hl)
      cases l <;> exact this
    rw [he]
    rcases q.votesAtEngine_turns (s.modLane l f).engine.effective with k | ⟨-, k⟩
    · rwa [k]
    · exact stands ∘ k.steady.loading

/-- Nothing is held and the engine will not act: out of OFF, QUIET, no deadline, no record and no candidate. -/
def State.Asleep (s : State) : Prop :=
  s.bypass.state ≠ .off ∧ s.directory = Directory.empty ∧ s.candidate = none ∧ s.engine.state = .quiet ∧
  s.engine.deadline = none

theorem State.Asleep.frame (h : s.Asleep) (k : s.CoreFrame t) : t.Asleep := by
  unfold State.Asleep at *
  rwa [k.directory, k.candidate, k.engine, ne_eq, k.off]

theorem State.StoodDown.asleep (k : s.StoodDown t) : t.Asleep :=
  ⟨k.engaged, k.directory, k.candidate, by rw [k.engine]; rfl, by rw [k.engine]; rfl⟩

theorem State.Asleep.recombine (h : s.Asleep) : s.recombine.Asleep := by
  obtain ⟨q, hq, he⟩ := s.recombine_cases
  have kept : q.Asleep := by
    rcases hq with k | k
    · exact State.Asleep.frame (s := s.withVotes (effectiveVotes s.laneA s.laneB)) h k
    · exact k.asleep
  rw [he]
  rcases q.votesAtEngine_turns s.engine.effective with k | ⟨acts, -⟩
  · rwa [k]
  · obtain ⟨off, -, -, quiet, -⟩ := kept
    exact absurd acts (by simp [off, quiet])

/-- A node that is ENGAGED sleeps on: its lines are DARK, so that it hears nothing, and no release of it is under way. -/
theorem State.Asleep.passes (h : s.Asleep) (engaged : s.bypass.state = .engaged)
    (dark : ∀ e x, (s.line e x).state = .dark) (k : s.Passes t) : t.Asleep := by
  induction k with
  | start => exact h
  | frame _ k ih => exact ih.frame k
  | lane l f => cases l <;> exact h
  | turns _ acts k ih =>
    obtain ⟨off, -, -, quiet, deadline⟩ := ih
    exact absurd acts (by simp [off, quiet, deadline])
  | @arrives _ _ e x heard => simp [dark e x] at heard
  | standsDown _ k => exact k.asleep
  | released h => simp [engaged] at h
  | recombines l f => exact State.Asleep.recombine (by cases l <;> exact h)

theorem State.HeldOut.asleep (h : s.HeldOut) (hb : s.bypass.state ≠ .off) : s.Asleep := by
  obtain ⟨-, -, -, directory, candidate, quiet, -, deadline, -⟩ := h.2 hb
  exact ⟨hb, directory, candidate, quiet, deadline⟩

theorem State.HeldOut.dark (h : s.HeldOut) (hb : s.bypass.state ≠ .off) (e : EndId) (x : LineId) :
    (s.line e x).state = .dark := by
  obtain ⟨⟨⟨a₁, b₁, -⟩, ⟨a₂, b₂, -⟩⟩, -⟩ := h.2 hb
  cases e <;> cases x <;> assumption

theorem State.DirectoryKept.exec {c : Instr} (out : s.HeldOut) (held : s.StartUpHeld) (h : s.DirectoryKept)
    (k : exec c s = .next t) : t.DirectoryKept := by
  obtain ⟨record, candidate, loading⟩ := h
  suffices t.RecordSound ∧ (t.store.activity = .loading → t.directory = Directory.empty ∧ t.candidate = none) from
    ⟨this.1.1, this.1.2, this.2⟩
  rcases commandCases k with ⟨hd, hc, -⟩ | ⟨hl, rfl⟩ | k
  · exact ⟨.of_empty hd hc, fun _ => ⟨hd, hc⟩⟩
  · obtain ⟨hd, hc⟩ := loading hl
    have stands : s.startUp.directory = Directory.empty ∧ s.startUp.candidate = none := by
      rcases s.startUp_cases with k | k
      · exact ⟨k.directory.trans hd, k.candidate.trans hc⟩
      · exact ⟨k.directory, k.candidate⟩
    exact ⟨.of_empty stands.1 stands.2, fun _ => stands⟩
  · refine ⟨State.RecordSound.passes ⟨record, candidate⟩ k, fun hl => ?_⟩
    have engaged := held.2 (held.1 (k.loading hl))
    have hb : s.bypass.state ≠ .off := by simp [engaged]
    obtain ⟨-, hd, hc, -⟩ := (out.asleep hb).passes engaged (out.dark hb) k
    exact ⟨hd, hc⟩

end Sys2Proof.Machine

open Sys2Proof Sys2Proof.Machine in
/-- Settles O13: a commit and an entry to CLOSED take only what the store check has passed, and a node that is LOADING is
ENGAGED and asleep. -/
theorem directoryKeptByStep : Obligations.DirectoryKeptByStep := by
  intro s t out held h k
  rcases step_cases k with rfl | ⟨c, rest, k⟩
  · exact h
  · exact State.DirectoryKept.exec (s := { s with pending := rest }) out held h k
end

section
/-! PROOF. The values right after reset, and the lookups in the active record. -/

namespace Sys2Proof.Machine

open Sys2Proof

/-! ## Reset (O16) -/

theorem EndUnit.reset_queuesKept : (EndUnit.reset false false false).QueuesKept := by
  simp [EndUnit.QueuesKept, EndUnit.reset, EndQueues.empty]

theorem LanePort.reset_queuesKept : (LanePort.reset false).QueuesKept := by
  simp [LanePort.QueuesKept, LanePort.reset]

theorem Sender.reset_kept : Sender.reset.Kept := by simp [Sender.Kept, Sender.reset]

theorem LineUnit.reset_kept : (LineUnit.reset false).Kept := by
  simp [LineUnit.Kept, LineUnit.reset, Transmitter.idle, TrainingRecord.reset]

theorem EndUnit.reset_linesKept : (EndUnit.reset false false false).LinesKept := by
  refine ⟨⟨LineUnit.reset_kept, LineUnit.reset_kept⟩, ⟨rfl, ?_, ?_, ?_, ?_⟩, ?_⟩
  · simp [EndUnit.reset, Trainer.reset]
  · intro x
    cases x <;> simp [EndUnit.reset, Trainer.reset, LineUnit.reset]
  · intro x
    cases x <;> simp [EndUnit.reset, LineUnit.reset]
  · intro x
    cases x <;> simp [EndUnit.reset, LineUnit.reset]
  · simp [EndUnit.reset, Sender.reset]

theorem LineUnit.reset_windowKept : (LineUnit.reset false).WindowKept := by
  simp [LineUnit.WindowKept, LineUnit.reset, TrainingRecord.reset]

theorem EndUnit.reset_heldOut : (EndUnit.reset false false false).HeldOut :=
  ⟨rfl, rfl, rfl, rfl, rfl, rfl, rfl, rfl⟩

theorem LanePort.reset_detachedIdle : (LanePort.reset false).DetachedIdle := fun _ => ⟨rfl, rfl, rfl, rfl, rfl⟩

theorem Settings.defaults_inRange (tag : Tag) : (Settings.defaults tag).InRange := by
  have offsets : ∀ e x, ((Settings.defaults tag).offset e x).magnitude ≤ 15 := fun e x => by
    cases e <;> cases x <;> simp [Settings.defaults, Settings.offset, Offset.zero]
  simp [Settings.InRange, offsets]
  simp [Settings.defaults]

theorem State.reset_heldOut : State.reset.HeldOut :=
  ⟨⟨fun _ => ⟨rfl, rfl⟩, fun _ => ⟨rfl, rfl⟩⟩,
    fun _ => ⟨⟨EndUnit.reset_heldOut, EndUnit.reset_heldOut⟩, rfl, rfl, rfl, rfl, rfl, rfl, rfl, rfl⟩⟩

theorem State.reset_engineKept : State.reset.EngineKept :=
  State.engineKept_iff.2 (by simp [State.reset, Engine.reset, Engine.Formed, EngineState.inProgress])

theorem State.reset_directoryKept : State.reset.DirectoryKept :=
  ⟨.inl rfl, fun c h => by simp [State.reset] at h, fun _ => ⟨rfl, rfl⟩⟩

theorem State.reset_votesKept : State.reset.VotesKept := by
  refine ⟨⟨LanePort.reset_detachedIdle, LanePort.reset_detachedIdle⟩, ?_, ?_, ?_, fun _ => ⟨rfl, rfl⟩, fun _ => rfl⟩
  all_goals simp [State.reset, Engine.reset, Votes.none, LanePort.reset, State.AllAttachedVote]

theorem State.reset_storeKept : State.reset.StoreKept := by
  refine ⟨Settings.defaults_inRange _, Settings.defaults_inRange _, fun h => absurd rfl h, ?_, ?_⟩
  all_goals simp [State.reset, Store.new, Store.reset]

/-! ## Lookups (O19) -/

variable {own : Tag} {d : Directory}

theorem Directory.Sound.present (h : d.Sound own) : d.present = true := by simpa [Directory.present] using h.1

/-- The lookup by position finds the one entry that stands there (R12). -/
theorem Directory.byPosition_some (h : d.Sound own) (k : Nat) (n : Entry) :
    d.byPosition k = some n ↔ n ∈ d.entries ∧ n.position = k := by
  obtain ⟨-, list, -⟩ := id h
  unfold Directory.byPosition
  constructor
  · intro hn
    split at hn
    · exact ⟨List.mem_of_find?_eq_some hn, by simpa using List.find?_some hn⟩
    · simp at hn
  · rintro ⟨hn, rfl⟩
    have range := list.position_range hn
    rw [if_pos (by simp [h.present, Directory.size, range])]
    cases hf : d.entries.find? (fun m => m.position == n.position) with
    | none => simpa using List.find?_eq_none.1 hf n hn
    | some m =>
      have hm : m.position = n.position := by simpa using List.find?_some hf
      rw [list.position_inj (List.mem_of_find?_eq_some hf) hn hm]

/-- It finds none exactly outside 1..N. -/
theorem Directory.byPosition_none (h : d.Sound own) (k : Nat) :
    d.byPosition k = none ↔ k = 0 ∨ d.entries.length < k := by
  obtain ⟨-, list, -⟩ := id h
  constructor
  · intro hn
    by_contra hk
    obtain ⟨n, hm, hp⟩ := list.exists_position (k := k) (by omega) (by omega)
    rw [(Directory.byPosition_some h k n).2 ⟨hm, hp⟩] at hn
    simp at hn
  · intro hk
    cases hf : d.byPosition k with
    | none => rfl
    | some n =>
      obtain ⟨hm, rfl⟩ := (Directory.byPosition_some h k n).1 hf
      have := list.position_range hm
      omega

/-- The lookup by tag finds the position of the one entry that carries it (R13). -/
theorem Directory.byTag_some (h : d.Sound own) (tag : Tag) (k : Nat) :
    d.byTag tag = some k ↔ ∃ n ∈ d.entries, n.tag = tag ∧ n.position = k := by
  obtain ⟨-, list, -⟩ := id h
  obtain ⟨-, -, -, -, nonzero, -⟩ := id list
  unfold Directory.byTag
  constructor
  · intro hk
    split at hk
    · obtain ⟨n, hn, hp⟩ := Option.map_eq_some_iff.1 hk
      exact ⟨n, List.mem_of_find?_eq_some hn, by simpa using List.find?_some hn, hp⟩
    · simp at hk
  · rintro ⟨n, hn, rfl, rfl⟩
    rw [if_pos (by simpa [h.present] using nonzero n hn)]
    cases hf : d.entries.find? (fun m => m.tag == n.tag) with
    | none => simpa using List.find?_eq_none.1 hf n hn
    | some m =>
      have hm : m.tag = n.tag := by simpa using List.find?_some hf
      rw [list.tag_inj (List.mem_of_find?_eq_some hf) hn hm]
      rfl

theorem Orientation.downEnd_ne_upEnd (o : Orientation) : o.downEnd ≠ o.upEnd := by cases o <;> decide

/-- The neighbour on each end is the entry next to the node's own (R12). -/
theorem Directory.neighbour_ends {p : Nat} {o : Orientation} (hp : d.ownPosition = some p)
    (ho : d.ownOrientation = some o) :
    d.neighbour o.upEnd = d.byPosition (p + 1) ∧ d.neighbour o.downEnd = d.byPosition (p - 1) := by
  simp [Directory.neighbour, hp, ho, o.downEnd_ne_upEnd]

/-- A record of generation 0 answers nothing by position. -/
theorem Directory.byPosition_absent (h : d.generation = 0) (k : Nat) : d.byPosition k = none := by
  simp [Directory.byPosition, Directory.present, h]

end Sys2Proof.Machine

open Sys2Proof Sys2Proof.Machine in
/-- Settles O16, invariant by invariant. -/
theorem invariantsHoldAtReset : Obligations.InvariantsHoldAtReset :=
  ⟨⟨⟨EndUnit.reset_queuesKept, EndUnit.reset_queuesKept⟩, LanePort.reset_queuesKept, LanePort.reset_queuesKept⟩,
    ⟨Sender.reset_kept, Sender.reset_kept⟩, ⟨EndUnit.reset_linesKept, EndUnit.reset_linesKept⟩,
    ⟨by decide, ⟨LineUnit.reset_windowKept, LineUnit.reset_windowKept⟩, LineUnit.reset_windowKept,
      LineUnit.reset_windowKept⟩,
    State.reset_heldOut, ⟨fun _ => rfl, fun _ => rfl⟩, State.reset_engineKept, Engine.Free.of_quiet rfl,
    State.reset_directoryKept, State.reset_votesKept, State.reset_storeKept⟩

open Sys2Proof Sys2Proof.Machine in
/-- Settles O19: positions and tags stand once in a sound record. -/
theorem lookupsFindTheEntries : Obligations.LookupsFindTheEntries := by
  refine ⟨fun own d h => ⟨Directory.byPosition_some h, Directory.byPosition_none h,
    fun p o => Directory.neighbour_ends, Directory.byTag_some h, ?_, ?_⟩, fun d h => ⟨?_, ?_, ?_⟩⟩
  · intro k n hn
    simp [Directory.originTag, hn]
  · intro k hk
    simp [Directory.originTag, (Directory.byPosition_none h k).2 hk]
  · exact Directory.byPosition_absent h
  · intro tag
    simp [Directory.byTag, Directory.present, h]
  · intro e
    unfold Directory.neighbour
    split
    · split <;> exact Directory.byPosition_absent h _
    · rfl
end

section
/-! PROOF. What the requests that read answer, and when ATTN is asserted. -/

namespace Sys2Proof.Machine

open Sys2Proof

/-! ## Notices and ATTN -/

/-- A mark is set in a set of notices as its bit is. -/
theorem Notice.and_mark (n : Notice) (b : BitVec 12) : b &&& n.mark = n.mark ↔ b.getLsbD n.index = true := by
  have hm : n.mark = BitVec.twoPow 12 n.index := rfl
  have hz : BitVec.twoPow 12 n.index ≠ 0#12 := by cases n <;> decide
  rw [hm, BitVec.and_twoPow]
  split
  · simp [*]
  · simp [*, hz.symm]

/-- Every bit of a set of notices is that of a notice. -/
theorem Notice.exists_index {i : Nat} (h : i < 12) : ∃ n : Notice, n.index = i := by
  match i, h with
  | 0, _ => exact ⟨.directoryChanged, rfl⟩
  | 1, _ => exact ⟨.inaugurationFailed, rfl⟩
  | 2, _ => exact ⟨.mismatch, rfl⟩
  | 3, _ => exact ⟨.claimConflict, rfl⟩
  | 4, _ => exact ⟨.endChange, rfl⟩
  | 5, _ => exact ⟨.lineFault, rfl⟩
  | 6, _ => exact ⟨.receiveReady, rfl⟩
  | 7, _ => exact ⟨.sendLoss, rfl⟩
  | 8, _ => exact ⟨.bypassChange, rfl⟩
  | 9, _ => exact ⟨.settingsDefaulted, rfl⟩
  | 10, _ => exact ⟨.storeDone, rfl⟩
  | 11, _ => exact ⟨.laneFrameError, rfl⟩

/-- A set of notices is not empty exactly when some notice is in it. -/
theorem Notice.exists_iff_ne_zero (b : BitVec 12) : b ≠ 0 ↔ ∃ n : Notice, b &&& n.mark = n.mark := by
  constructor
  · intro h
    by_contra none
    refine h (BitVec.eq_of_getLsbD_eq fun i hi => ?_)
    obtain ⟨n, rfl⟩ := Notice.exists_index hi
    simpa [Notice.and_mark] using fun c => none ⟨n, (n.and_mark b).2 c⟩
  · rintro ⟨n, hn⟩ rfl
    rw [Notice.and_mark] at hn
    simp at hn

/-- RECEIVE-READY is pending while the receive queue holds an entry, every other notice while its mark is set (R165,
R166). -/
theorem LanePort.pendingSet_mark (p : LanePort) (n : Notice) : p.pendingSet &&& n.mark = n.mark ↔
    if n = .receiveReady then p.receiveQueue ≠ [] else p.notices &&& n.mark = n.mark := by
  have bit : ∀ m : Notice, (Notice.mark m).getLsbD n.index = decide (m = n) := fun m => by
    cases m <;> cases n <;> decide
  have hn : n.index < 12 := by cases n <;> decide
  have set : p.pendingSet.getLsbD n.index =
      if n = .receiveReady then !p.receiveQueue.isEmpty else p.notices.getLsbD n.index := by
    unfold LanePort.pendingSet
    rw [BitVec.getLsbD_or, BitVec.getLsbD_and, BitVec.getLsbD_not, bit]
    by_cases hr : n = .receiveReady
    · cases p.receiveQueue.isEmpty <;> simp [hr, Notice.index, Notice.mark]
    · have other : Notice.receiveReady.mark.getLsbD n.index = false := by simpa [bit] using Ne.symm hr
      cases p.receiveQueue.isEmpty <;> simp only [Bool.false_eq_true, if_true, if_false, other] <;>
        simp [hr, Ne.symm hr, hn]
  rw [Notice.and_mark, set]
  split
  · simp
  · rw [Notice.and_mark]

/-- ATTN is asserted while some notice is pending and enabled and LRST is not asserted (R167 to R169). -/
theorem LanePort.attn_iff (p : LanePort) : p.attn = true ↔ p.lrst = false ∧ ∃ n : Notice, p.mask &&& n.mark = n.mark ∧
    if n = .receiveReady then p.receiveQueue ≠ [] else p.notices &&& n.mark = n.mark := by
  have both : ∀ n : Notice, p.reportedSet &&& n.mark = n.mark ↔
      p.mask &&& n.mark = n.mark ∧ p.pendingSet &&& n.mark = n.mark := fun n => by
    simp [Notice.and_mark, LanePort.reportedSet, and_comm]
  simp only [← LanePort.pendingSet_mark, ← both]
  rw [← Notice.exists_iff_ne_zero]
  simp [LanePort.attn, LanePort.summary, and_comm]

/-! ## Bodies and their forms -/

variable {s : State} {l : LaneId} {code : Byte} {body : List Byte}

/-- A request without a body that has one is BAD-REQUEST. -/
theorem noBody_bad {p : Reply × State} (h : body ≠ []) : noBody s p body = (Reply.bare .badRequest, s) := by
  simp [noBody, h]

theorem noBody_nil {p : Reply × State} : noBody s p [] = p := rfl

theorem decodeByte_none (h : body.length ≠ 1) : decodeByte body = none := by
  unfold decodeByte
  split
  · simp at h
  · rfl

theorem decodeLineBody_none (h : body.length ≠ 1) : decodeLineBody body = none := by
  unfold decodeLineBody
  split
  · simp at h
  · rfl

theorem decodeNoticeSet_none (h : body.length ≠ 2) : decodeNoticeSet body = none := by
  unfold decodeNoticeSet
  split
  · simp at h
  · rfl

theorem decodeLineBody_lineCode (e : EndId) (x : LineId) : decodeLineBody [lineCode e x] = some (e, x) := by
  cases e <;> cases x <;> rfl

theorem decodeLineBody_range {b : Byte} (h : 4 ≤ b.toNat) : decodeLineBody [b] = none := by
  have ne : ∀ c : Byte, c.toNat < 4 → b ≠ c := fun c hc e => by
    rw [e] at h
    omega
  change decodeLine b = none
  unfold decodeLine
  rw [if_neg (ne _ (by decide)), if_neg (ne _ (by decide)), if_neg (ne _ (by decide)), if_neg (ne _ (by decide))]

/-- The thirty counters one after the other (R164). -/
theorem State.counterBytes_eq (s : State) (l : LaneId) : s.counterBytes l =
    ([s.end1.lineA.checkErrors, s.end1.lineB.checkErrors, s.end2.lineA.checkErrors, s.end2.lineB.checkErrors] ++
      [s.end1.counters, s.end2.counters].flatMap (fun c => [c.framesSent, c.holds, c.refusals, c.noAnswer,
        c.misroutes, c.stale, c.congested, c.controlDrops]) ++
      [(s.lane l).losses.consistChanged, (s.lane l).losses.linkDown, (s.lane l).losses.noAnswer,
        (s.lane l).losses.refused, (s.lane l).losses.congested, (s.lane l).losses.bypass, (s.lane l).receiveDrops,
        (s.lane l).receiveDisplacements, (s.lane l).frameErrors, s.noListener]).flatMap wordBytes := by
  simp [State.counterBytes, EndCounters.bytes, LanePort.counterBytes]

/-! ## READ-DIRECTORY (R15) -/

variable {d : Directory} {k : Nat}

theorem Directory.read_range (h : 24 < k) : d.read k = Reply.bare .badRequest := by
  simp [Directory.read, Config.maxConsist, h]

theorem Directory.read_absent (h : ¬ 24 < k) (g : d.generation = 0) : d.read k = Reply.bare .noDirectory := by
  simp [Directory.read, Config.maxConsist, h, Directory.present, g]

/-- A record of a nonzero generation answers index 0 with its summary, and a position with its entry. -/
theorem Directory.read_present (h : ¬ 24 < k) (g : d.generation ≠ 0) :
    (k = 0 → d.read k = { result := .done, body := d.summaryBytes }) ∧
    (∀ n, k ≠ 0 → d.byPosition k = some n →
      d.read k = { result := .done, body := n.bytes ++ wordBytes d.generation }) ∧
    (k ≠ 0 → d.byPosition k = none → d.read k = Reply.bare .outOfConsist) := by
  have present : d.present = true := by simpa [Directory.present] using g
  have h : ¬ Config.maxConsist < k := h
  unfold Directory.read
  simp only [if_neg h, present, Bool.not_true, Bool.false_eq_true, if_false]
  refine ⟨fun hk => by rw [if_pos hk], fun n hk hn => ?_, fun hk hn => ?_⟩ <;> rw [if_neg hk, hn]

end Sys2Proof.Machine

open Sys2Proof Sys2Proof.Machine in
/-- Settles O53, request by request. -/
theorem readsAnswerFromTheState : Obligations.ReadsAnswerFromTheState := by
  intro s l p d answer
  refine ⟨p.attn_iff, fun kind body pending => ⟨?_, ?_, ?_, ?_, ?_, ?_, ?_, ?_, ?_⟩⟩
  · have bad : ∀ (code : Byte) (f : List Byte → Reply × State), kind = code →
        f body = (Reply.bare .badRequest, s) → s.handle l code f = answer .badRequest [] := by
      rintro code f rfl hf
      rw [State.handle_pending pending, hf]
      rfl
    have empty : body.length ≠ 0 → body ≠ [] := fun h c => h (by rw [c]; rfl)
    simp only [List.forall_mem_cons, List.not_mem_nil, false_implies, implies_true, and_true]
    exact ⟨fun hk h => congrArg _ (bad _ _ hk (noBody_bad (empty h))),
      fun hk h => congrArg _ (bad _ _ hk (withBody_none (decodeLineBody_none h))),
      fun hk h => congrArg _ (bad _ _ hk (noBody_bad (empty h))),
      fun hk h => congrArg _ (bad _ _ hk (noBody_bad (empty h))),
      fun hk h => congrArg _ (bad _ _ hk (withBody_none (decodeByte_none h))),
      fun hk h => congrArg _ (bad _ _ hk (withBody_none (decodeNoticeSet_none h))),
      fun hk h => congrArg _ (bad _ _ hk (withBody_none (decodeNoticeSet_none h)))⟩
  · intro hk
    have unknown : knownRequest kind = false := by simpa [knownRequest] using hk
    have handled : s.handleKind l (fun kind => !knownRequest kind) (fun _ => (Reply.bare .badRequest, s)) =
        answer .badRequest [] := by
      rw [State.handleKind, pending]
      simp only [unknown, Bool.not_false, if_true]
      rfl
    exact congrArg _ handled
  · rintro rfl
    refine congrArg _ ((State.handle_pending pending).trans ?_)
    by_cases hb : body = []
    · rw [if_pos hb, hb]
      rfl
    · rw [if_neg hb, noBody_bad hb]
      rfl
  · rintro rfl rfl
    exact congrArg _ (State.handle_pending pending)
  · rintro rfl
    refine ⟨?_, ?_⟩
    · rintro e x rfl
      refine congrArg _ ((State.handle_pending pending).trans ?_)
      rw [withBody_some (decodeLineBody_lineCode e x)]
      rfl
    · rintro b rfl hb
      refine congrArg _ ((State.handle_pending pending).trans ?_)
      rw [withBody_none (decodeLineBody_range hb)]
      rfl
  · rintro rfl rfl
    refine congrArg _ ((State.handle_pending pending).trans ?_)
    rw [noBody_nil, s.counterBytes_eq]
    rfl
  · rintro rfl rfl
    exact congrArg _ (State.handle_pending pending)
  · rintro rfl b rfl
    refine congrArg _ ((State.handle_pending pending).trans ?_)
    have reads : ∀ r, d.read b.toNat = r →
        (withBody s decodeByte (fun b => (s.directory.read b.toNat, s)) [b]).2.reply l
          (withBody s decodeByte (fun b => (s.directory.read b.toNat, s)) [b]).1 = s.reply l r :=
      fun r hr => by
        rw [← hr]
        rfl
    split
    · rename_i hb
      exact reads _ (Directory.read_range hb)
    rename_i hb
    split
    · rename_i hg
      exact reads _ (Directory.read_absent hb hg)
    rename_i hg
    obtain ⟨summary, entry, outside⟩ := Directory.read_present hb hg
    split
    · rename_i h0
      exact reads _ (summary h0)
    rename_i h0
    split
    · rename_i n hn
      exact reads _ (entry n h0 hn)
    · rename_i hn
      exact reads _ (outside h0 hn)
  · intro named hn
    refine ⟨?_, ?_⟩
    · rintro rfl
      refine congrArg _ ((State.handle_pending pending).trans ?_)
      rw [withBody_some hn]
      cases l <;> rfl
    · rintro rfl
      refine congrArg _ ((State.handle_pending pending).trans ?_)
      rw [withBody_some hn]
      cases l <;> rfl
end

section
/-! PROOF. A COMMIT at the node that holds its candidate. -/

namespace Sys2Proof.Machine

open Sys2Proof

variable {s : State} {e : EndId} {x : LineId} {f : RawFrame}

/-- A COMMIT carries a nonzero generation (11.3). -/
theorem decodeCommit_generation {body : List Byte} {a : AttemptId} {g c : Word}
    (h : decodeCommit body = some (a, g, c)) : g ≠ 0 := by
  unfold decodeCommit at h
  obtain ⟨⟨b, rest⟩, -, h⟩ := Option.bind_eq_some_iff.1 h
  dsimp only at h
  split at h
  · split at h
    · simp at h
    · rename_i hg
      simp only [Option.some.injEq, Prod.mk.injEq] at h
      obtain ⟨-, rfl, -⟩ := h
      exact hg
  · simp at h

/-- A commit leaves the ends. -/
theorem State.commitList_endUnit (s : State) (ns : List ListedEntry) (c g : Word) (e : EndId) :
    (s.commitList ns c g).endUnit e = s.endUnit e := by
  unfold State.commitList
  dsimp only
  split <;> cases e <;> rfl

/-- A commit of a list with two claims announces the conflict to both lanes (R64). -/
theorem State.commitList_conflict (s : State) (ns : List ListedEntry) (c g : Word)
    (h : (recordOf s.ownTag ns c g).claimConflict = true) (l : LaneId) :
    ((s.commitList ns c g).lane l).notices &&& Notice.claimConflict.mark = Notice.claimConflict.mark := by
  unfold State.commitList
  simp only [h, if_true]
  exact State.mark_raiseBoth _ (by decide) l

/-- A control frame placed at an end leaves the other. -/
theorem State.sendControl_away (s : State) (e : EndId) (g : ControlFrame) :
    (s.sendControl e.other g).endUnit e = s.endUnit e := by
  unfold State.sendControl
  split <;> cases e <;> rfl

/-- The end a control frame is placed at: it joins the queue, or is dropped and counted (R20, R128). -/
theorem State.sendControl_endUnit (s : State) (e : EndId) (g : ControlFrame) : (s.sendControl e g).endUnit e =
    if (s.endUnit e).queues.control.length < 4 then (s.endUnit e).withControl g
    else { s.endUnit e with counters := { (s.endUnit e).counters with
      controlDrops := satInc (s.endUnit e).counters.controlDrops } } := by
  by_cases h : (s.endUnit e).queues.control.length < 4
  · rw [State.sendControl_room h, if_pos h, State.endUnit_modEnd_self]
  · rw [State.sendControl_full h, if_neg h, State.endUnit_count_self]
    rfl

@[simp] theorem State.endUnit_enterQuiet (s : State) (e : EndId) : s.enterQuiet.endUnit e = s.endUnit e := by
  cases e <;> rfl
@[simp] theorem State.lane_enterQuiet (s : State) (l : LaneId) : s.enterQuiet.lane l = s.lane l := by cases l <;> rfl

/-- A COMMIT for another attempt than the candidate's is dropped. -/
theorem State.onCommit_dropped {a : AttemptId} {g c : Word} (h : ∀ k, s.candidate = some k → k.attempt ≠ a) :
    s.onCommit e a g c = s := by
  unfold State.onCommit
  split
  · rfl
  split
  · rfl
  · rename_i k hk
    rw [if_pos (h k hk)]

/-- A COMMIT that does not match the candidate of its attempt is answered DISSENT (R41). -/
theorem State.onCommit_dissents {k : Candidate} {g c : Word} (hi : s.identified e = true)
    (hk : s.candidate = some k) (h : k.check ≠ c ∨ g = s.directory.generation) :
    s.onCommit e k.attempt g c = s.sendControl e (.dissent k.attempt .checkMismatch) := by
  simp only [State.onCommit, hi, hk, Bool.not_true, Bool.false_eq_true, if_false, ne_eq, not_true]
  exact if_pos (by tauto)

/-- A COMMIT that matches: the list is committed, the COMMIT goes on where cars stand beyond, and the engine is QUIET
(R40). -/
theorem State.onCommit_commits {k : Candidate} {g : Word} (hi : s.identified e = true) (hk : s.candidate = some k)
    (h0 : g ≠ 0) (hg : g ≠ s.directory.generation) : s.onCommit e k.attempt g k.check =
      State.enterQuiet (if k.ownPosition < k.entries.length then
        (s.commitList k.entries k.check g).sendControl e.other (.commit k.attempt g k.check)
      else s.commitList k.entries k.check g) := by
  simp only [State.onCommit, hi, hk, Bool.not_true, Bool.false_eq_true, if_false, ne_eq, not_true]
  exact if_neg (by tauto)

/-- The own position of a sound candidate is that of the record it becomes. -/
theorem Candidate.Sound.ownPosition {own : Tag} {k : Candidate} (h : k.Sound own) {g : Word} (hg : g ≠ 0) :
    (recordOf own k.entries k.check g).Sound own ∧
    (recordOf own k.entries k.check g).ownPosition = some k.ownPosition := by
  obtain ⟨list, check, n, hn, ht, hp⟩ := h
  have sound := recordOf_sound list hg
  rw [← check] at sound
  obtain ⟨-, -, ⟨m, hm, hmt, position, -⟩, -⟩ := id sound
  have same : m = n.entry := list.tag_inj hm (List.mem_map_of_mem hn) (hmt.trans ht.symm)
  exact ⟨sound, by rw [position, same, hp]⟩

end Sys2Proof.Machine

open Sys2Proof Sys2Proof.Machine in
/-- Settles O40: the node behind a COMMIT that matches is that of `State.commitList`, with the COMMIT passed on. -/
theorem commitsInstallTheCandidate : Obligations.CommitsInstallTheCandidate := by
  intro s e x f a generation check hears free new body identified s'
  have runs : exec (.commit e x f) s = .next (s'.onCommit e a generation check) :=
    congrArg _ (State.controlArrives_new hears free new body)
  have candidate : s'.candidate = s.candidate := State.accepted_candidate _
  have hi : s'.identified e = true := (State.accepted_identified _ e).trans identified
  rw [runs]
  refine ⟨fun h => ?_, ?_⟩
  · rw [State.onCommit_dropped (by rwa [candidate])]
  rintro c hc rfl
  rw [← candidate] at hc
  refine ⟨fun h room => ?_, ?_⟩
  · rw [State.onCommit_dissents hi hc (by rwa [State.accepted_directory]), State.sendControl_room]
    simpa [s', EndUnit.ControlRoom] using room
  rintro rfl hg sound
  have h0 := decodeCommit_generation body
  rw [State.onCommit_commits hi hc h0 (by rwa [State.accepted_directory])]
  obtain ⟨-, directory, none, engine, announced⟩ := s'.commitList_spec c.entries c.check generation
  have unit := s'.commitList_endUnit c.entries c.check generation
  have conflict := s'.commitList_conflict c.entries c.check generation
  obtain ⟨record, position⟩ := sound.ownPosition h0
  rw [← State.accepted_ownTag (e := e) (x := x) (frameBit f)] at record position
  rw [← directory] at record position conflict
  have fields : (s'.commitList c.entries c.check generation).directory.generation = generation ∧
      (s'.commitList c.entries c.check generation).directory.entries = c.entries.map ListedEntry.entry ∧
      (s'.commitList c.entries c.check generation).directory.check = c.check := by
    rw [directory]
    exact ⟨rfl, rfl, rfl⟩
  generalize s'.commitList c.entries c.check generation = q at *
  generalize hr : (if c.ownPosition < c.entries.length then
    q.sendControl e.other (.commit c.attempt generation c.check) else q) = r
  have passed : q.CoreFrame r ∧ r.endUnit e = q.endUnit e ∧ r.endUnit e.other =
      if c.ownPosition < c.entries.length then
        (q.sendControl e.other (.commit c.attempt generation c.check)).endUnit e.other else q.endUnit e.other := by
    rw [← hr]
    split
    · exact ⟨(State.CoreFrame.refl q).sendControl, q.sendControl_away e _, rfl⟩
    · exact ⟨.refl q, rfl, rfl⟩
  obtain ⟨frame, near, far⟩ := passed
  have hd : r.enterQuiet.directory = q.directory := frame.directory
  refine ⟨_, rfl, ?_⟩
  rw [hd, State.endUnit_enterQuiet, State.endUnit_enterQuiet, near, unit]
  refine ⟨fields.1, fields.2.1, fields.2.2, position, ?_, frame.candidate.trans none, ?_, fun l => ⟨?_, fun h => ?_⟩,
    rfl, ?_⟩
  · rwa [State.accepted_ownTag] at record
  · unfold State.enterQuiet
    rw [frame.engine, engine, State.accepted_engine]
    rfl
  · rw [State.lane_enterQuiet]
    exact frame.toSteady.mark (announced l)
  · rw [State.lane_enterQuiet]
    exact frame.toSteady.mark (conflict h l)
  · rw [far, State.sendControl_endUnit, unit, State.accepted_other]
end

section
/-! PROOF. How a node takes a change up, and a CLOSURE at its relays and at its starter. -/

namespace Sys2Proof.Machine

open Sys2Proof

variable {s t : State} {e : EndId} {n : Nat}

/-! ## A change taken up (R22, R25 to R28, R31) -/

/-- A node that takes a change up with an attempt count: alone it commits itself, otherwise it sends an ALERT and enters
ALERTED. -/
def State.takeUp (s : State) (restart : Bool) (n : Nat) : State :=
  if (s.setCount n).lone then (s.setCount n).selfCommit else ((s.setCount n).alertAll restart .alerted).enterAlerted

/-- A retry below the fifth holds the change under inhibit, and otherwise takes it up. -/
theorem State.retry_below (h : s.engine.count < 4) : s.retry =
    if s.inhibited then (s.setCount (s.engine.count + 1)).enterMismatch .localCause
    else s.takeUp false (s.engine.count + 1) := by
  have next : min Config.maxAttempts (s.engine.count + 1) = s.engine.count + 1 := by
    simp only [Config.maxAttempts]
    omega
  have below : ¬ Config.maxAttempts ≤ (s.setCount (s.engine.count + 1)).engine.count := by
    simp only [Config.maxAttempts, State.setCount]
    omega
  unfold State.retry
  simp only [next, if_neg below]
  rfl

/-- The fifth retry fails (R22). -/
theorem State.retry_fails (h : s.engine.count = 4) : s.retry = State.raiseBoth
    { s with candidate := none, engine := Engine.leaving { s.engine with count := 5 } .failed none }
    .inaugurationFailed := by
  have fails : s.retry = (s.setCount 5).enterFailed := by simp [State.retry, h, State.setCount, Config.maxAttempts]
  exact fails

/-- Under inhibit a retry below the fifth holds the node in MISMATCH (R59). -/
theorem State.retry_held (h : s.engine.count < 4) (hi : s.inhibited = true) : s.retry = State.raiseBoth
    { s with
      candidate := none
      engine := Engine.leaving { s.engine with count := s.engine.count + 1 } .mismatch (some .localCause) }
    .mismatch := by
  rw [State.retry_below h, if_pos hi]
  rfl

/-- The entry of a node with a tag is a sound list of one. -/
theorem State.ownEntry_sound (h : s.ownTag ≠ 0) (o : Orientation) :
    ListSound s.ownTag ([s.ownEntry 1 o].map ListedEntry.entry) := by
  refine ⟨by simp, by simp, rfl, by simp, ?_, ?_, ?_⟩
  · simpa [State.ownEntry] using h
  · intro n hn hk
    obtain rfl : n = (s.ownEntry 1 o).entry := by simpa using hn
    have hk : s.store.working.kind = .intermediate := hk
    simp [State.ownEntry, hk]
  · exact ⟨(s.ownEntry 1 o).entry, by simp, rfl⟩

/-- A node with a tag that commits itself (R26). -/
theorem State.selfCommit_eq (h : s.ownTag ≠ 0) : s.selfCommit =
    (s.commitList [s.ownEntry 1 .direct] (checkValue ([s.ownEntry 1 .direct].map ListedEntry.entry))
      (successor s.directory.generation)).enterQuiet := by
  unfold State.selfCommit
  simp only [storeCheck_stored.2 (State.ownEntry_sound h .direct)]

/-- A frame sent out of both identified ends. -/
theorem State.sendEach_both {f : ControlFrame} (h₁ : s.identified .end1 = true) (h₂ : s.identified .end2 = true)
    (r₁ : s.end1.ControlRoom) (r₂ : s.end2.ControlRoom) :
    s.sendEach f = { s with end1 := s.end1.withControl f, end2 := s.end2.withControl f } := by
  unfold State.sendEach
  simp only [h₁, if_true]
  rw [State.sendControl_room (e := .end1) r₁]
  have h₂ : (s.modEnd .end1 (EndUnit.withControl f)).identified .end2 = true := h₂
  simp only [h₂, if_true]
  exact State.sendControl_room (s := s.modEnd .end1 (EndUnit.withControl f)) (e := .end2) r₂

/-- A frame sent out of the one identified end. -/
theorem State.sendEach_one {f : ControlFrame} (h : s.identified e = true) (k : s.identified e.other = false)
    (r : (s.endUnit e).ControlRoom) : s.sendEach f = s.modEnd e (EndUnit.withControl f) := by
  unfold State.sendEach
  cases e with
  | end1 =>
    have hk : (s.modEnd .end1 (EndUnit.withControl f)).identified .end2 = false := k
    simp only [h, if_true]
    rw [State.sendControl_room r]
    simp only [hk, Bool.false_eq_true, if_false]
  | end2 =>
    have k : s.identified .end1 = false := k
    simp only [h, k, Bool.false_eq_true, if_false, if_true]
    exact State.sendControl_room r

/-- A middle node that is ALERTED waits, and an extremity starts a tally (R27). -/
theorem State.actAlerted_middle (h₁ : s.identified .end1 = true) (h₂ : s.identified .end2 = true) :
    s.actAlerted = s := by
  simp [State.actAlerted, h₁, h₂]

theorem State.actAlerted_extremity (hi : s.inhibited = false) (h : s.identified e = true)
    (k : s.identified e.other = false) : s.actAlerted = s.startTally e := by
  cases e with
  | end1 =>
    have k : s.identified .end2 = false := k
    simp [State.actAlerted, hi, h, k]
  | end2 =>
    have k : s.identified .end1 = false := k
    simp [State.actAlerted, hi, h, k]

@[simp] theorem State.identified_setCount (s : State) (n : Nat) (e : EndId) :
    (s.setCount n).identified e = s.identified e := by cases e <;> rfl
@[simp] theorem State.endUnit_setCount (s : State) (n : Nat) (e : EndId) :
    (s.setCount n).endUnit e = s.endUnit e := by cases e <;> rfl
@[simp] theorem State.identified_withControl (s : State) (e d : EndId) (f : ControlFrame) :
    (s.modEnd e (EndUnit.withControl f)).identified d = s.identified d := by cases e <;> cases d <;> rfl

theorem State.lone_eq (s : State) (e : EndId) :
    s.lone = (!s.identified e && !s.identified e.other) := by
  cases e
  · rfl
  · simp [State.lone, EndId.other, Bool.and_comm]

/-- A change taken up with effective inhibit off, by the ends identified. -/
theorem State.takeUp_takesUp (hi : s.inhibited = false) (re : Bool) (n : Nat) : s.TakesUp re n (s.takeUp re n) := by
  let q := s.setCount n
  refine ⟨fun h₁ h₂ r₁ r₂ => ?_, fun e h k r => ?_, fun h₁ h₂ ht => ?_⟩
  · have alone : q.lone = false := by simp [q, State.lone, h₁]
    unfold State.takeUp State.alertAll
    rw [alone, if_neg (by decide), State.sendEach_both (s := q) h₁ h₂ r₁ r₂]
    exact State.actAlerted_middle h₁ h₂
  · have alone : q.lone = false := by simp [q, State.lone_eq _ e, h]
    have room : (q.endUnit e).ControlRoom := by
      simp only [EndUnit.ControlRoom, q, State.endUnit_setCount]
      omega
    unfold State.takeUp State.alertAll
    rw [alone, if_neg (by decide), State.sendEach_one (s := q) (by simpa [q] using h) (by simpa [q] using k) room]
    let w := q.modEnd e (EndUnit.withControl (.alert q.ownTag 1 re .alerted))
    let a : State := { w with engine := { w.engine with state := .alerted, deadline := deadlineStarted, cause := none } }
    have acts : w.enterAlerted = a.startTally e := by
      refine State.actAlerted_extremity (e := e) ?_ ?_ ?_
      · cases e <;> exact hi
      · cases e <;> exact h
      · cases e <;> exact k
    have room : (a.endUnit e).ControlRoom := by
      cases e with
      | end1 =>
        change (s.end1.queues.control ++ [_]).length < 4
        change s.end1.queues.control.length ≤ 2 at r
        rw [List.length_append, List.length_singleton]
        omega
      | end2 =>
        change (s.end2.queues.control ++ [_]).length < 4
        change s.end2.queues.control.length ≤ 2 at r
        rw [List.length_append, List.length_singleton]
        omega
    rw [acts]
    unfold State.startTally
    dsimp only
    rw [State.sendControl_room room]
    cases e <;> rfl
  · have alone : q.lone = true := by simp [q, State.lone, h₁, h₂]
    unfold State.takeUp
    rw [if_pos alone, State.selfCommit_eq (s := q) ht]
    obtain ⟨-, directory, none, engine, announced⟩ := q.commitList_spec [q.ownEntry 1 .direct]
      (checkValue ([q.ownEntry 1 .direct].map ListedEntry.entry)) (successor q.directory.generation)
    refine ⟨?_, none, congrArg Directory.generation directory, congrArg Directory.entries directory, fun l => ?_⟩
    · unfold State.enterQuiet
      rw [engine]
      rfl
    · rw [State.lane_enterQuiet]
      exact announced l

/-! ## Listed entries from the line -/

/-- Positions of a decoded list run on from the first (R183). -/
theorem decodeListed_positions {k at_ : Nat} {bytes left : List Byte} {ns : List ListedEntry}
    (h : decodeListed k at_ bytes = some (ns, left)) :
    ns.map (fun n => n.entry.position) = (List.range k).map (· + at_) := by
  induction k generalizing at_ bytes ns left with
  | zero =>
    simp only [decodeListed, Option.some.injEq, Prod.mk.injEq] at h
    simp [h.1.symm]
  | succ k ih =>
    unfold decodeListed at h
    split at h
    · simp_all
    · rename_i same
      obtain rfl := Nat.succ.inj same
      simp only at h
      split at h
      · simp at h
      · obtain ⟨o, -, h⟩ := Option.bind_eq_some_iff.1 h
        obtain ⟨u, -, h⟩ := Option.bind_eq_some_iff.1 h
        obtain ⟨kc, -, h⟩ := Option.bind_eq_some_iff.1 h
        obtain ⟨⟨more, rest⟩, hm, h⟩ := Option.bind_eq_some_iff.1 h
        simp only [Option.some.injEq, Prod.mk.injEq] at h
        obtain ⟨rfl, -⟩ := h
        rw [List.map_cons, ih hm, List.range_succ_eq_map, List.map_cons, List.map_map]
        simp [Function.comp_def, Nat.add_comm, Nat.add_left_comm]
    · simp at h

/-- No two entries of a CLOSURE stand at one position. -/
theorem decodeClosure_positions {body : List Byte} {a : AttemptId} {ns : List ListedEntry} {check : Word}
    (h : decodeClosure body = some (a, ns, check)) : (ns.map (fun n => n.entry.position)).Nodup := by
  unfold decodeClosure at h
  obtain ⟨⟨b, rest⟩, -, h⟩ := Option.bind_eq_some_iff.1 h
  dsimp only at h
  split at h
  · simp at h
  split at h
  · simp at h
  obtain ⟨⟨es, left⟩, listed, h⟩ := Option.bind_eq_some_iff.1 h
  dsimp only at h
  split at h
  · simp only [Option.some.injEq, Prod.mk.injEq] at h
    obtain ⟨-, rfl, -⟩ := h
    rw [decodeListed_positions listed]
    exact List.Nodup.map (fun a b k => by simpa using k) List.nodup_range
  · simp at h

/-- Where positions do not repeat, the entry at a position is the one that stands there. -/
theorem carriesAt_iff {ns : List ListedEntry} (h : (ns.map (fun n => n.entry.position)).Nodup) {k : Nat} {t : Tag} :
    carriesAt ns k t = true ↔ ∃ n ∈ ns, n.entry.position = k ∧ n.entry.tag = t := by
  unfold carriesAt
  cases found : ns.find? (fun n => n.entry.position == k) with
  | none =>
    have none_there := List.find?_eq_none.1 found
    simp only [Bool.false_eq_true, false_iff]
    rintro ⟨n, hn, hp, -⟩
    exact none_there n hn (by simpa using hp)
  | some m =>
    have mem := List.mem_of_find?_eq_some found
    have pos : m.entry.position = k := by simpa using List.find?_some found
    refine ⟨fun ht => ⟨m, mem, pos, by simpa using ht⟩, fun ⟨n, hn, hp, ht⟩ => ?_⟩
    obtain rfl := List.inj_on_of_nodup_map h mem hn (pos.trans hp.symm)
    simpa using ht

/-- A well formed list passes the checks of R9 other than that no tag appears twice. -/
theorem formHolds_of_formed {own : Tag} {ns : List ListedEntry} (h : ListFormed own (ns.map ListedEntry.entry)) :
    formHolds own ns = true := by
  obtain ⟨least, most, positions, tags, claims, mine⟩ := h
  simp only [List.length_map, List.map_map, List.forall_mem_map] at least most positions tags claims
  obtain ⟨_, hm, ht⟩ := mine
  obtain ⟨n, hn, rfl⟩ := List.mem_map.1 hm
  simp only [formHolds, Bool.and_eq_true, decide_eq_true_eq, List.all_eq_true, List.any_eq_true]
  refine ⟨⟨⟨⟨⟨least, most⟩, positions⟩, fun m hm => ?_⟩, fun m hm => ?_⟩, n, hn, by simpa using ht⟩
  · simpa using tags m hm
  · cases hk : m.entry.kind
    case intermediate => simp [claims m hm hk]
    all_goals simp

/-- A well formed list with a tag twice is refused for that (R9). -/
theorem storeCheck_duplicate {own : Tag} {ns : List ListedEntry} (h : ListFormed own (ns.map ListedEntry.entry))
    (twice : ¬ ((ns.map ListedEntry.entry).map Entry.tag).Nodup) : storeCheck own ns = .duplicateTag := by
  have dup : duplicateTags ns = true := by
    rw [List.map_map] at twice
    simpa [duplicateTags, Function.comp_def] using twice
  simp [storeCheck, formHolds_of_formed h, dup]

/-! ## A CLOSURE at a relay (R36) -/

section
variable {a : AttemptId} {ns : List ListedEntry} {check : Word} {k : Nat}

/-- A sound list offered as a candidate is held. -/
theorem State.storeCandidate_sound (h : ListSound s.ownTag (ns.map ListedEntry.entry)) :
    s.storeCandidate a ns = (.stored, { s with candidate := some (candidateOf s.ownTag a ns) }) := by
  simp only [State.storeCandidate, storeCheck_stored.2 h]

/-- A list with a tag twice is refused, and the candidate empty. -/
theorem State.storeCandidate_duplicate (h : ListFormed s.ownTag (ns.map ListedEntry.entry))
    (twice : ¬ ((ns.map ListedEntry.entry).map Entry.tag).Nodup) :
    s.storeCandidate a ns = (.duplicateTag, { s with candidate := none }) := by
  simp only [State.storeCandidate, storeCheck_duplicate h twice]

/-- A CLOSURE that no context fits is dropped. -/
theorem State.onClosure_dropped (h : ∀ c, s.engine.context = some c → c.attempt ≠ a) :
    s.onClosure e a ns check = s := by
  unfold State.onClosure
  split
  · rfl
  split
  · rfl
  · rename_i c hc
    rw [if_pos (h c hc)]

/-- A CLOSURE that fits a relay's context. -/
theorem State.onClosure_relay (hi : s.identified e = true) (ht : a.tag ≠ s.ownTag) (hs : s.engine.state = .relaying)
    (hc : s.engine.context = some { attempt := a, role := .relay, tallyEnd := some e.other, ownPosition := k }) :
    s.onClosure e a ns check = s.relayClosure e.other k a ns check := by
  simp [State.onClosure, hi, hc, ht, hs]

/-- A CLOSURE that fits the context of its starter. -/
theorem State.onClosure_starter (hi : s.identified e = true) (ht : a.tag = s.ownTag) (hs : s.engine.state = .leading)
    (hc : s.engine.context = some { attempt := a, role := .starter, tallyEnd := none, ownPosition := k }) :
    s.onClosure e a ns check = s.starterClosure e a ns check := by
  simp [State.onClosure, hi, hc, ht, hs]

/-- A CLOSURE without the relay's entry. -/
theorem State.relayClosure_absent (h : ¬ carriesAt ns k s.ownTag = true) :
    s.relayClosure e k a ns check = s.sendControl e (.dissent a .entryMismatch) := by
  simp [State.relayClosure, h]

/-- A CLOSURE that a relay holds and passes on. -/
theorem State.relayClosure_held (h : carriesAt ns k s.ownTag = true)
    (sound : ListSound s.ownTag (ns.map ListedEntry.entry)) (agrees : checkValue (ns.map ListedEntry.entry) = check) :
    s.relayClosure e k a ns check =
      let q := State.sendControl { s with candidate := some (candidateOf s.ownTag a ns) } e (.closure a ns check)
      { q with engine := { q.engine with state := .closed, deadline := deadlineStarted, cause := none } } := by
  simp [State.relayClosure, h, State.storeCandidate_sound sound, agrees]

/-- A CLOSURE whose check differs, at a relay. -/
theorem State.relayClosure_differs (h : carriesAt ns k s.ownTag = true)
    (sound : ListSound s.ownTag (ns.map ListedEntry.entry)) (differs : checkValue (ns.map ListedEntry.entry) ≠ check) :
    s.relayClosure e k a ns check =
      State.sendControl { s with candidate := none } e (.dissent a .checkMismatch) := by
  simp [State.relayClosure, h, State.storeCandidate_sound sound, differs]

/-- A CLOSURE with a tag twice, at a relay. -/
theorem State.relayClosure_duplicate (h : carriesAt ns k s.ownTag = true)
    (formed : ListFormed s.ownTag (ns.map ListedEntry.entry))
    (twice : ¬ ((ns.map ListedEntry.entry).map Entry.tag).Nodup) :
    s.relayClosure e k a ns check =
      (State.sendControl { s with candidate := none } e (.dissent a .duplicateTag)).enterFailed := by
  simp [State.relayClosure, h, State.storeCandidate_duplicate formed twice]

/-! ## A CLOSURE at its starter (R37 to R39) -/

/-- A CLOSURE without the starter's entry at position 1. -/
theorem State.starterClosure_absent (h : ¬ carriesAt ns 1 s.ownTag = true) :
    s.starterClosure e a ns check = s.retry := by
  simp [State.starterClosure, h]

/-- A CLOSURE that its starter commits. -/
theorem State.starterClosure_commits (h : carriesAt ns 1 s.ownTag = true)
    (sound : ListSound s.ownTag (ns.map ListedEntry.entry)) (agrees : checkValue (ns.map ListedEntry.entry) = check) :
    s.starterClosure e a ns check =
      let generation := newGeneration (ns.map ListedEntry.prior)
      let q := (State.commitList { s with candidate := some (candidateOf s.ownTag a ns) } ns check
        generation).sendControl e (.commit a generation check)
      { q with engine := { q.engine with state := .quiet, deadline := none, cause := none } } := by
  simp [State.starterClosure, h, State.storeCandidate_sound sound, agrees]

/-- A CLOSURE whose check differs, at its starter. -/
theorem State.starterClosure_differs (h : carriesAt ns 1 s.ownTag = true)
    (sound : ListSound s.ownTag (ns.map ListedEntry.entry)) (differs : checkValue (ns.map ListedEntry.entry) ≠ check) :
    s.starterClosure e a ns check = State.retry { s with candidate := none } := by
  simp [State.starterClosure, h, State.storeCandidate_sound sound, differs]

/-- A CLOSURE with a tag twice, at its starter. -/
theorem State.starterClosure_duplicate (h : carriesAt ns 1 s.ownTag = true)
    (formed : ListFormed s.ownTag (ns.map ListedEntry.entry))
    (twice : ¬ ((ns.map ListedEntry.entry).map Entry.tag).Nodup) :
    s.starterClosure e a ns check = State.enterFailed { s with candidate := none } := by
  simp [State.starterClosure, h, State.storeCandidate_duplicate formed twice]

/-- A sound list starts at position 1. -/
theorem ListSound.first {own : Tag} {n : Entry} {rest : List Entry} (h : ListSound own (n :: rest)) : n.position = 1 := by
  obtain ⟨-, -, positions, -⟩ := h
  rw [List.map_cons, List.length_cons, List.range_succ_eq_map] at positions
  exact (List.cons.inj positions).1

/-- The record of a sound list that starts with this node's entry (R4). -/
theorem recordOf_first {own : Tag} {n : ListedEntry} {rest : List ListedEntry} (ht : n.entry.tag = own)
    (sound : ListSound own ((n :: rest).map ListedEntry.entry)) (generation : Word) :
    recordOf own (n :: rest) check generation =
      { generation := generation, entries := (n :: rest).map ListedEntry.entry, referenceTag := own,
        ownPosition := some 1, ownOrientation := some n.entry.orientation, check := check,
        claimConflict := decide (2 ≤ ((n :: rest).filter (fun n => n.entry.claim)).length) } := by
  have first : n.entry.position = 1 := sound.first
  have claims : ((n :: rest).map ListedEntry.entry).filter Entry.claim =
      ((n :: rest).filter (fun n => n.entry.claim)).map ListedEntry.entry := List.filter_map ..
  simp only [recordOf, claimConflictOf, claims, List.length_map]
  simp [ht, first]

/-- A commit with a frame placed and the engine QUIET, by the record it forms (R11, R38, R64). -/
theorem State.commitList_sent {generation : Word} {d : Directory} (h : recordOf s.ownTag ns check generation = d)
    (u : EndUnit → EndUnit) :
    (let t := (s.commitList ns check generation).modEnd e u
     { t with engine := { t.engine with state := .quiet, deadline := none, cause := none } }) =
      let q := State.raiseBoth (State.modEnd
        { s with
          directory := d, candidate := none
          engine := { s.engine with state := .quiet, deadline := none, cause := none } } e u) .directoryChanged
      if d.claimConflict then q.raiseBoth .claimConflict else q := by
  unfold State.commitList
  rw [h]
  obtain ⟨_, _, _, _, _, _, conflict⟩ := d
  cases conflict <;> cases e <;> rfl

/-- A CLOSURE committed at its starter: the record, what is announced, and the COMMIT sent back (R11, R38, R64). -/
theorem State.starterClosure_commit {n : ListedEntry} {rest : List ListedEntry}
    (sound : ListSound s.ownTag ((n :: rest).map ListedEntry.entry)) (ht : n.entry.tag = s.ownTag)
    (h : carriesAt (n :: rest) 1 s.ownTag = true) (agrees : checkValue ((n :: rest).map ListedEntry.entry) = check)
    (room : (s.endUnit e).ControlRoom) :
    let generation := newGeneration ((n :: rest).map ListedEntry.prior)
    let conflict := decide (2 ≤ ((n :: rest).filter (fun n => n.entry.claim)).length)
    let committed := State.raiseBoth (State.modEnd
      { s with
        directory := { generation := generation, entries := (n :: rest).map ListedEntry.entry,
                       referenceTag := s.ownTag, ownPosition := some 1,
                       ownOrientation := some n.entry.orientation, check := check, claimConflict := conflict }
        candidate := none
        engine := { s.engine with state := .quiet, deadline := none, cause := none } }
      e (EndUnit.withControl (.commit a generation check))) .directoryChanged
    s.starterClosure e a (n :: rest) check = if conflict then committed.raiseBoth .claimConflict else committed := by
  intro generation conflict committed
  rw [State.starterClosure_commits h sound agrees]
  dsimp only
  rw [State.sendControl_room (by rw [State.commitList_endUnit]; cases e <;> exact room)]
  exact State.commitList_sent (s := { s with candidate := some (candidateOf s.ownTag a (n :: rest)) })
    (recordOf_first ht sound generation) _

end

end Sys2Proof.Machine

open Sys2Proof Sys2Proof.Machine in
/-- Settles O39: by the node's part in the attempt, and then by what the list of the CLOSURE is. -/
theorem closuresAreHeldAndCommitted : Obligations.ClosuresAreHeldAndCommitted := by
  intro s e x f a entries check hears free new body s' emptied g list agrees carries failed
  have runs : exec (.closure e x f) s = .next (s'.onClosure e a entries check) :=
    congrArg _ (State.controlArrives_new hears free new body)
  have engine : s'.engine = s.engine := State.accepted_engine _
  have tag : s'.ownTag = s.ownTag := State.accepted_ownTag _
  have at_position : ∀ k, carriesAt entries k s'.ownTag = true ↔ carries k := fun k => by
    rw [tag]
    exact carriesAt_iff (decodeClosure_positions body)
  rw [runs]
  refine ⟨fun h => ?_, fun k hi ht hs hc room => ?_, fun hi ht hs hc => ?_⟩
  · rw [State.onClosure_dropped (by rwa [engine])]
  · have room : (s'.endUnit e.other).ControlRoom := by rwa [State.accepted_other]
    rw [State.onClosure_relay (k := k) (by rwa [State.accepted_identified]) (by rwa [tag]) (by rwa [engine])
      (by rwa [engine])]
    refine ⟨fun absent => ?_, fun there => ⟨fun sound agree => ?_, fun sound differ => ?_, fun formed twice => ?_⟩⟩
    · rw [State.relayClosure_absent (by rwa [at_position]), State.sendControl_room room]
    · have own : candidateOf s'.ownTag a entries =
          { attempt := a, entries := entries, check := check, ownPosition := k } := by
        obtain ⟨n, hn, hp, ht⟩ := there
        unfold candidateOf
        rw [tag, positionOf_eq sound hn ht, hp]
        exact congrArg (fun c => Candidate.mk a entries c k) agree.symm
      rw [State.relayClosure_held (by rwa [at_position]) (by rwa [tag]) agree.symm, own]
      dsimp only
      rw [State.sendControl_room (by cases e <;> exact room)]
      cases e <;> rfl
    · rw [State.relayClosure_differs (by rwa [at_position]) (by rwa [tag]) (Ne.symm differ),
        State.sendControl_room (by cases e <;> exact room)]
    · rw [State.relayClosure_duplicate (by rwa [at_position]) (by rwa [tag]) twice,
        State.sendControl_room (by cases e <;> exact room)]
      cases e <;> rfl
  · rw [State.onClosure_starter (k := 1) (by rwa [State.accepted_identified]) (by rwa [tag]) (by rwa [engine])
      (by rwa [engine])]
    refine ⟨fun n rest room sound agree split ht => ?_, fun there formed twice => ?_, fun r cases => ?_⟩
    · subst split
      have there : carries 1 := ⟨n, List.mem_cons_self .., sound.first, ht⟩
      rw [State.starterClosure_commit (by rwa [tag]) (by rwa [tag]) (by rwa [at_position]) agree.symm
        (by rwa [EndUnit.ControlRoom, State.accepted_queues]), tag, engine]
    · rw [State.starterClosure_duplicate (by rwa [at_position]) (by rwa [tag]) twice]
      cases e <;> rfl
    · have retried : s'.starterClosure e a entries check = r.retry := by
        rcases cases with ⟨absent, rfl⟩ | ⟨there, rfl, sound, differ⟩
        · exact State.starterClosure_absent (by rwa [at_position])
        · exact State.starterClosure_differs (by rwa [at_position]) (by rwa [tag]) (Ne.symm differ)
      have same : r.engine = s.engine := by
        rcases cases with ⟨-, rfl⟩ | ⟨-, rfl, -⟩ <;> exact engine
      rw [retried]
      refine ⟨fun h => ?_, fun h => ⟨fun off => ⟨_, rfl, ?_⟩, fun on => ?_⟩⟩
      · rw [State.retry_fails (by rwa [same]), same]
      · have off : r.inhibited = false := by rwa [State.inhibited, same]
        rw [State.retry_below (by rwa [same]), if_neg (by simp [off]), same]
        exact State.takeUp_takesUp off _ _
      · rw [State.retry_held (by rwa [same]) (by rwa [State.inhibited, same]), same]
end

section
/-! PROOF. A scrub, and what the start of an engagement leaves: the ends and the lanes, each followed through its steps. -/

namespace Sys2Proof.Machine

open Sys2Proof

variable {s : State} {u v w : EndUnit} {e : EndId} {x : LineId} {l : LaneId}

/-! ## An end that is engaged (R81, R88, R102, R147) -/

/-- What the steps of an engagement keep of an end: its counters, the records of its class queues, the windows of its lines,
and that its sender holds no frame. -/
structure EndUnit.Fades (u v : EndUnit) : Prop where
  counters : v.counters = u.counters
  records : v.records = u.records
  window : ∀ x, (v.line x).record.window = (u.line x).record.window
  frame : u.sender.frame = none → v.sender.frame = none

theorem EndUnit.Fades.refl (u : EndUnit) : u.Fades u := ⟨rfl, rfl, fun _ => rfl, id⟩

theorem EndUnit.Fades.trans (h : u.Fades v) (k : v.Fades w) : u.Fades w :=
  ⟨k.counters.trans h.counters, k.records.trans h.records, fun x => (k.window x).trans (h.window x), k.frame ∘ h.frame⟩

/-- A change of one line that keeps its window. -/
theorem EndUnit.Fades.modLine (h : u.Fades v) {f : LineUnit → LineUnit}
    (k : (f (v.line x)).record.window = (v.line x).record.window) : u.Fades (v.modLine x f) := by
  refine h.trans ⟨by cases x <;> rfl, by cases x <;> rfl, fun y => ?_, by cases x <;> exact id⟩
  rcases LineId.eq_or_partner x y with rfl | rfl
  · simpa using k
  · simp

theorem EndUnit.Fades.senderIdle (h : u.Fades v) {o : FrameOutcome} : u.Fades (v.senderIdle o) := by
  have drop : ∀ (w : EndUnit) (x : LineId),
      w.Fades (w.modLine x (fun n => { n with tx := { n.tx with frameDue := false } })) :=
    fun w x => (EndUnit.Fades.refl w).modLine rfl
  have withdrawn : u.Fades v.withdraw := h.trans ((drop v .lineA).trans (drop _ .lineB))
  exact withdrawn.trans ⟨rfl, rfl, fun x => by cases x <;> rfl, fun _ => rfl⟩

theorem EndUnit.Fades.abandonRecentre (h : u.Fades v) : u.Fades (v.abandonRecentre x) := by
  unfold EndUnit.abandonRecentre
  split
  · exact h
  · refine (h.modLine rfl).trans ⟨rfl, rfl, fun y => by cases y <;> rfl, fun idle => ?_⟩
    exact congrArg (Option.map (HeldFrame.orphan x)) idle

theorem EndUnit.Fades.reportRecentre (h : u.Fades v) {f : HeldFrame} : u.Fades (v.reportRecentre .bypass f) := by
  unfold EndUnit.reportRecentre
  split
  · rw [if_neg (by decide)]
    exact h.abandonRecentre
  · exact h

theorem EndUnit.Fades.freeTrainer (h : u.Fades v) : u.Fades (v.freeTrainer x) := by
  unfold EndUnit.freeTrainer
  split
  · exact h.trans ⟨rfl, rfl, fun y => by cases y <;> rfl, id⟩
  · exact h

theorem EndUnit.Fades.enterDark (h : u.Fades v) : u.Fades (v.enterDark x) := h.abandonRecentre.freeTrainer.modLine rfl

theorem EndUnit.enterDark_state (u : EndUnit) (x : LineId) : ((u.enterDark x).line x).state = .dark := by
  simp [EndUnit.enterDark, EndUnit.lineTo, LineUnit.leaveFor]

/-- A line that leaves its state leaves its partner. -/
theorem EndUnit.enterDark_partner (u : EndUnit) (x : LineId) :
    (u.enterDark x).line x.partner = u.line x.partner := by
  have trainer : ∀ v : EndUnit, (v.freeTrainer x).line x.partner = v.line x.partner := fun v => by
    unfold EndUnit.freeTrainer
    split <;> cases x <;> rfl
  have recentre : (u.abandonRecentre x).line x.partner = u.line x.partner := by
    unfold EndUnit.abandonRecentre
    split <;> cases x <;> rfl
  simp [EndUnit.enterDark, EndUnit.lineTo, trainer, recentre]

/-- An end at the start of an engagement, where its sender holds no frame. -/
def EndUnit.Engaged (u v : EndUnit) : Prop :=
  v.state = .opened ∧ v.peer = none ∧ v.receiver = none ∧ v.sender.frame = none ∧ v.queues = EndQueues.empty ∧
  v.counters = u.counters ∧ ∀ x, (v.line x).state = .dark ∧ (v.line x).record.window = (u.line x).record.window

theorem EndUnit.Fades.engage (h : u.Fades v) (idle : v.sender.frame = none) : u.Engaged v.engage := by
  have fades : u.Fades ((v.enterDark .lineA).enterDark .lineB) := h.enterDark.enterDark
  have frame := ((EndUnit.Fades.refl v).enterDark (x := .lineA)).enterDark (x := .lineB) |>.frame idle
  have dark : ∀ x, (((v.enterDark .lineA).enterDark .lineB).line x).state = .dark := fun x => by
    cases x with
    | lineA =>
      have away := (v.enterDark .lineA).enterDark_partner .lineB
      exact (congrArg LineUnit.state away).trans (v.enterDark_state .lineA)
    | lineB => exact (v.enterDark .lineA).enterDark_state .lineB
  refine ⟨rfl, rfl, rfl, frame, rfl, fades.counters, fun x => ?_⟩
  cases x with
  | lineA => exact ⟨dark .lineA, fades.window .lineA⟩
  | lineB => exact ⟨dark .lineB, fades.window .lineB⟩

/-! ## The losses of a lane (R139, R140) -/

/-- A lane that lost some messages to the bypass, and was told of a change of an end or not. -/
def LanePort.shed (lost : Nat) (told : Bool) (p : LanePort) : LanePort :=
  { p with
    losses := Nat.iterate (fun c => { c with bypass := satInc c.bypass }) lost p.losses
    notices := p.notices ||| (if lost = 0 then 0 else Notice.sendLoss.mark) |||
      (if told then Notice.endChange.mark else 0) }

@[simp] theorem LanePort.shed_zero (p : LanePort) : p.shed 0 false = p := by simp [LanePort.shed]

/-- Losses add up, and what was told stays told. -/
theorem LanePort.shed_shed (j k : Nat) (a b : Bool) (p : LanePort) : (p.shed j a).shed k b = p.shed (j + k) (a || b) := by
  have losses : ∀ m : BitVec 12, (if k + j = 0 then 0 else m) = (if j = 0 then 0 else m) ||| (if k = 0 then 0 else m) :=
    fun m => by by_cases hj : j = 0 <;> by_cases hk : k = 0 <;> simp [hj, hk]
  have tellings : ∀ m : BitVec 12, (if a || b then m else 0) = (if a then m else 0) ||| (if b then m else 0) :=
    fun m => by cases a <;> cases b <;> simp
  simp only [LanePort.shed, Nat.add_comm j k, Function.iterate_add_apply, losses, tellings]
  congr 1
  ac_rfl

theorem LanePort.lose_bypass (p : LanePort) : p.lose .bypass = p.shed 1 false := by
  simp [LanePort.lose, LanePort.shed, LanePort.raise, LossCounters.count]

theorem LanePort.raise_endChange (p : LanePort) : p.raise .endChange = p.shed 0 true := by
  simp [LanePort.raise, LanePort.shed]

theorem State.lane_lose (s : State) (r : LossReason) (k l : LaneId) :
    (s.lose r k).lane l = if k = l then (s.lane l).lose r else s.lane l := by
  cases k <;> cases l <;> rfl

theorem State.lane_loseRecord (s : State) (d : DataRecord) (l : LaneId) :
    (s.loseRecord .bypass d).lane l = (s.lane l).shed (d.isOf l).toNat false := by
  unfold State.loseRecord DataRecord.isOf
  cases d.origin with
  | through => simp
  | local_ k _ _ =>
    dsimp only
    rw [State.lane_lose]
    by_cases same : k = l
    · simp [same, LanePort.lose_bypass]
    · simp [same, beq_false_of_ne same]

theorem State.lane_loseRecords (rs : List DataRecord) (s : State) (l : LaneId) :
    (rs.foldl (fun s d => s.loseRecord .bypass d) s).lane l = (s.lane l).shed (rs.countP (DataRecord.isOf l)) false := by
  induction rs generalizing s with
  | nil => simp
  | cons d rs ih =>
    rw [List.foldl_cons, ih, State.lane_loseRecord, LanePort.shed_shed, List.countP_cons]
    cases d.isOf l <;> simp [Nat.add_comm]

@[simp] theorem State.endUnit_loseRecord (s : State) (r : LossReason) (d : DataRecord) (e : EndId) :
    (s.loseRecord r d).endUnit e = s.endUnit e := by
  unfold State.loseRecord
  split <;> simp

@[simp] theorem State.endUnit_loseHeld (s : State) (r : LossReason) (f : HeldFrame) (e : EndId) :
    (s.loseHeld r f).endUnit e = s.endUnit e := by
  unfold State.loseHeld
  split <;> simp

theorem State.endUnit_loseRecords (rs : List DataRecord) (s : State) (r : LossReason) (e : EndId) :
    (rs.foldl (fun s d => s.loseRecord r d) s).endUnit e = s.endUnit e := by
  induction rs generalizing s with
  | nil => rfl
  | cons d rs ih => rw [List.foldl_cons, ih, State.endUnit_loseRecord]

/-! ## The frame of a sender ended by the bypass (R101, R139) -/

theorem State.lane_endFrame (s : State) (e : EndId) (l : LaneId) :
    (s.endFrame .bypass e).lane l = (s.lane l).shed ((s.endUnit e).heldOf l) false := by
  unfold State.endFrame EndUnit.heldOf
  split
  · rename_i h
    simp [h]
  · rename_i f h
    dsimp only [FrameOutcome.loss]
    cases f with
    | control c => simp [State.loseHeld, h, HeldFrame.messagesOf, State.count]
    | data d => simp [State.loseHeld, h, HeldFrame.messagesOf, State.count, State.lane_loseRecord]

theorem State.endUnit_endFrame_other (s : State) (e : EndId) :
    (s.endFrame .bypass e).endUnit e.other = s.endUnit e.other := by
  unfold State.endFrame
  split
  · rfl
  · simp [FrameOutcome.loss]

/-- The end behind its sender's frame: what fades, and no frame held. -/
theorem State.endFrame_fades (s : State) (e : EndId) : (s.endUnit e).Fades ((s.endFrame .bypass e).endUnit e) ∧
    ((s.endFrame .bypass e).endUnit e).sender.frame = none := by
  unfold State.endFrame
  split
  · rename_i h
    exact ⟨.refl _, h⟩
  · rename_i f h
    have ended : (((s.modEnd e (fun u => (u.senderIdle .bypass).reportRecentre .bypass f)).count e
        (FrameOutcome.count .bypass)).loseHeld .bypass f).endUnit e =
        ((s.endUnit e).senderIdle .bypass).reportRecentre .bypass f := by
      rw [State.endUnit_loseHeld, State.endUnit_count_self, State.endUnit_modEnd_self]
      rfl
    dsimp only [FrameOutcome.loss]
    rw [ended]
    exact ⟨(EndUnit.Fades.refl _).senderIdle.reportRecentre, (EndUnit.Fades.refl _).reportRecentre.frame rfl⟩

/-! ## The start of an engagement (R146, R147) -/

/-- The messages of a lane that an end holds. -/
def EndUnit.messagesOf (l : LaneId) (u : EndUnit) : Nat := u.heldOf l + u.records.countP (DataRecord.isOf l)

theorem State.lane_engageEnd (s : State) (e : EndId) (l : LaneId) : (s.engageEnd e).lane l =
    (s.lane l).shed ((s.endUnit e).messagesOf l) (decide ((s.endUnit e).state ≠ .opened)) := by
  have records : ((s.endFrame .bypass e).endUnit e).queues.classRecords = (s.endUnit e).records :=
    (s.endFrame_fades e).1.records
  unfold State.engageEnd
  dsimp only
  rw [records]
  split
  · rename_i h
    simp [State.lane_loseRecords, State.lane_endFrame, LanePort.raise_endChange, LanePort.shed_shed, EndUnit.messagesOf, h]
  · rename_i h
    simp [State.lane_loseRecords, State.lane_endFrame, LanePort.shed_shed, EndUnit.messagesOf, h]

theorem State.engageEnd_engaged (s : State) (e : EndId) : (s.endUnit e).Engaged ((s.engageEnd e).endUnit e) := by
  obtain ⟨fades, idle⟩ := s.endFrame_fades e
  unfold State.engageEnd
  dsimp only
  split <;> simp only [State.endUnit_raiseBoth, State.endUnit_modEnd_self, State.endUnit_loseRecords] <;>
    exact fades.engage idle

theorem State.endUnit_engageEnd_other (s : State) (e : EndId) : (s.engageEnd e).endUnit e.other = s.endUnit e.other := by
  unfold State.engageEnd
  dsimp only
  split <;> simp only [State.endUnit_raiseBoth, State.endUnit_modEnd_other, State.endUnit_loseRecords,
    State.endUnit_endFrame_other]

/-- Losses of one lane, one for each member of a list. -/
theorem State.lane_loseEach {α : Type} (as : List α) (s : State) (l : LaneId) :
    (as.foldl (fun s _ => s.lose .bypass l) s).lane l = (s.lane l).shed as.length false ∧
    (as.foldl (fun s _ => s.lose .bypass l) s).lane l.other = s.lane l.other ∧
    ∀ e, (as.foldl (fun s _ => s.lose .bypass l) s).endUnit e = s.endUnit e := by
  induction as generalizing s with
  | nil => simp
  | cons a as ih =>
    obtain ⟨self, other, ends⟩ := ih (s.lose .bypass l)
    refine ⟨?_, other.trans (State.lane_lose_other ..), fun e => (ends e).trans (State.endUnit_lose ..)⟩
    rw [List.foldl_cons, self, State.lane_lose_self, LanePort.lose_bypass, LanePort.shed_shed, List.length_cons,
      Nat.add_comm]
    rfl

/-- The engagement at a lane's send queue: each message is lost, the other lane and the ends are left. -/
theorem State.engageLane_spec (s : State) (l : LaneId) :
    (s.engageLane l).lane l = { (s.lane l).shed (s.lane l).sendQueue.length false with sendQueue := [] } ∧
    (s.engageLane l).lane l.other = s.lane l.other ∧ ∀ e, (s.engageLane l).endUnit e = s.endUnit e := by
  obtain ⟨self, other, ends⟩ := s.lane_loseEach (s.lane l).sendQueue l
  unfold State.engageLane
  refine ⟨?_, ?_, fun e => ?_⟩
  · rw [State.lane_modLane_self, self]
  · rw [State.lane_modLane_other, other]
  · rw [State.endUnit_modLane, ends]

/-- Both ends engaged. -/
theorem State.engageEnds_spec (s : State) :
    (∀ e, (s.endUnit e).Engaged (((s.engageEnd .end1).engageEnd .end2).endUnit e)) ∧
    ∀ l, ((s.engageEnd .end1).engageEnd .end2).lane l =
      (s.lane l).shed (s.end1.messagesOf l + s.end2.messagesOf l)
        (decide (s.end1.state ≠ .opened) || decide (s.end2.state ≠ .opened)) := by
  have second : (s.engageEnd .end1).endUnit .end2 = s.end2 := s.endUnit_engageEnd_other .end1
  refine ⟨fun e => ?_, fun l => ?_⟩
  · cases e with
    | end1 =>
      have kept : ((s.engageEnd .end1).engageEnd .end2).endUnit .end1 = (s.engageEnd .end1).endUnit .end1 :=
        (s.engageEnd .end1).endUnit_engageEnd_other .end2
      rw [kept]
      exact s.engageEnd_engaged .end1
    | end2 =>
      have engaged := (s.engageEnd .end1).engageEnd_engaged .end2
      rwa [second] at engaged
  · rw [State.lane_engageEnd, State.lane_engageEnd, LanePort.shed_shed, second]
    rfl

/-- Both send queues engaged. -/
theorem State.engageLanes_spec (s : State) :
    (∀ e, ((s.engageLane .laneA).engageLane .laneB).endUnit e = s.endUnit e) ∧
    ∀ l, ((s.engageLane .laneA).engageLane .laneB).lane l =
      { (s.lane l).shed (s.lane l).sendQueue.length false with sendQueue := [] } := by
  obtain ⟨selfA, otherA, endsA⟩ := s.engageLane_spec .laneA
  obtain ⟨selfB, otherB, endsB⟩ := (s.engageLane .laneA).engageLane_spec .laneB
  refine ⟨fun e => (endsB e).trans (endsA e), fun l => ?_⟩
  cases l with
  | laneA => exact otherB.trans selfA
  | laneB =>
    have kept : (s.engageLane .laneA).lane .laneB = s.lane .laneB := otherA
    rw [selfB, kept]

/-- An operation that leaves the bypass record, done for every member of a list. -/
theorem State.bypass_foldl {α : Type} {f : State → α → State} (h : ∀ s a, (f s a).bypass = s.bypass) (as : List α)
    (s : State) : (as.foldl f s).bypass = s.bypass := by
  induction as generalizing s with
  | nil => rfl
  | cons a as ih => exact (ih _).trans (h s a)

@[simp] theorem State.bypass_loseRecord (s : State) (r : LossReason) (d : DataRecord) :
    (s.loseRecord r d).bypass = s.bypass := by
  unfold State.loseRecord
  split <;> simp

@[simp] theorem State.bypass_endFrame (s : State) (e : EndId) : (s.endFrame .bypass e).bypass = s.bypass := by
  unfold State.endFrame
  split
  · rfl
  · rename_i f _
    cases f <;> simp [FrameOutcome.loss, State.loseHeld]

@[simp] theorem State.bypass_engageEnd (s : State) (e : EndId) : (s.engageEnd e).bypass = s.bypass := by
  unfold State.engageEnd
  dsimp only
  split <;> simp [State.bypass_foldl (fun s d => State.bypass_loseRecord s .bypass d)]

@[simp] theorem State.bypass_engageLane (s : State) (l : LaneId) : (s.engageLane l).bypass = s.bypass := by
  unfold State.engageLane
  simp [State.bypass_foldl (fun s _ => State.bypass_lose s .bypass l)]

/-- What the ends, the lanes and the bypass record of a node pass through at the start of an engagement, before its directory
is cleared and its engine QUIET. -/
theorem State.engage_parts (s : State) : ∃ r : State, s.engage = { r.clearDirectory with engine := r.engine.engage } ∧
    r.bypass = { s.bypass with state := .engaging, transition := some 15000 } ∧
    (∀ e, (s.endUnit e).Engaged (r.endUnit e)) ∧
    ∀ l, r.lane l = { ((s.lane l).raise .bypassChange).shed
        (s.end1.messagesOf l + s.end2.messagesOf l + (s.lane l).sendQueue.length)
        (decide (s.end1.state ≠ .opened) || decide (s.end2.state ≠ .opened)) with sendQueue := [] } := by
  let q : State := { s with bypass := { s.bypass with state := .engaging, transition := some Config.relayTime } }
  have unit : ∀ e, q.endUnit e = s.endUnit e := fun e => by cases e <;> rfl
  have lane : ∀ l, q.lane l = s.lane l := fun l => by cases l <;> rfl
  obtain ⟨engaged, lost⟩ := (q.raiseBoth .bypassChange).engageEnds_spec
  obtain ⟨ends, lanes⟩ := (((q.raiseBoth .bypassChange).engageEnd .end1).engageEnd .end2).engageLanes_spec
  refine ⟨_, rfl, ?_, fun e => ?_, fun l => ?_⟩
  · simp only [State.bypass_engageLane, State.bypass_engageEnd, State.bypass_raiseBoth]
    rfl
  · rw [ends]
    simpa only [State.endUnit_raiseBoth, unit] using engaged e
  · rw [lanes, lost, LanePort.shed_shed, State.lane_raiseBoth, lane, Bool.or_false]
    rfl

/-- The start of an engagement, at every part of the node. -/
theorem State.engages_engage (s : State) : s.Engages s.engage := by
  obtain ⟨r, engage, bypass, ends, lanes⟩ := s.engage_parts
  have down := s.engage_stoodDown
  refine ⟨by rw [engage]; exact bypass, down.directory, down.candidate, down.engine, fun e => ?_, fun l => ?_⟩
  · have engaged := ends e
    rw [engage]
    cases e <;> exact engaged
  · have lane : s.engage.lane l = r.lane l := by rw [engage]; cases l <;> rfl
    have lost : s.end1.messagesOf l + s.end2.messagesOf l + (s.lane l).sendQueue.length =
        (s.lane l).sendQueue.length + s.end1.records.countP (DataRecord.isOf l) + s.end1.heldOf l +
          s.end2.records.countP (DataRecord.isOf l) + s.end2.heldOf l := by
      unfold EndUnit.messagesOf
      omega
    rw [lane, lanes, lost]
    by_cases h₁ : s.end1.state = .opened <;> by_cases h₂ : s.end2.state = .opened <;>
      simp [LanePort.shed, LanePort.raise, h₁, h₂]

/-- A cause latched where none is: recorded and announced, and in OFF the node engages (R146, R153). -/
theorem State.latch_first (h : s.bypass.latched = .none) (c : LatchedCause) : s.latch c =
    let q := State.raiseBoth { s with bypass := { s.bypass with latched := c } } .bypassChange
    if s.bypass.state = .off then q.engage else q := if_neg (by simp [h])

end Sys2Proof.Machine

open Sys2Proof Sys2Proof.Machine in
/-- Settles O50: by what the scrub finds, and whether a cause is latched and the node is in OFF. -/
theorem scrubLatchesAndEngages : Obligations.ScrubLatchesAndEngages := by
  intro s scrubs badDirectory badSettings
  have runs : exec .scrub s = .next s.scrubbed := congrArg Host.Outcome.next (if_pos scrubs)
  have directory : s.directorySpoilt = true ↔ badDirectory := bne_iff_ne
  have settings : s.settingsSpoilt = true ↔ badSettings := bne_iff_ne
  rw [runs]
  refine ⟨fun sound whole => ?_, fun latched => ?_, fun cause found free => ?_⟩
  · rw [State.scrubbed, if_neg (directory.not.2 sound), if_neg (settings.not.2 whole)]
  · simp only [State.scrubbed, State.latch, if_pos latched, ite_self]
  · have latches : s.scrubbed = s.latch cause := by
      unfold State.scrubbed
      rcases found with ⟨bad, rfl⟩ | ⟨good, bad, rfl⟩
      · rw [if_pos (directory.2 bad)]
      · rw [if_neg (directory.not.2 good), if_pos (settings.2 bad)]
    rw [latches, State.latch_first free]
    refine ⟨fun away => ?_, fun off => ⟨_, rfl, ?_⟩⟩
    · rw [if_neg away]
    · rw [if_pos off]
      exact State.engages_engage _
end

section
/-! PROOF. The new generation of a starter: the first successor of the greatest prior generation that none of them is. -/

namespace Sys2Proof.Machine

open Sys2Proof

/-! ## Successors (R6) -/

theorem successor_toNat (g : Word) : (successor g).toNat = if g.toNat = 65535 then 1 else g.toNat + 1 := by
  have top : g = 65535 ↔ g.toNat = 65535 := by bv_omega
  unfold successor
  by_cases h : g.toNat = 65535
  · rw [if_pos (top.2 h), if_pos h]
    rfl
  · rw [if_neg (fun k => h (top.1 k)), if_neg h]
    bv_omega

/-- Successors count on, and go round from 65535 to 1. -/
theorem iterate_successor_toNat (g : Word) {j : Nat} (h : j ≤ 65535) : (successor^[j] g).toNat =
    if g.toNat + j ≤ 65535 then g.toNat + j else g.toNat + j - 65535 := by
  have hg := g.isLt
  induction j with
  | zero =>
    rw [Function.iterate_zero_apply, Nat.add_zero, if_pos (by omega)]
  | succ j ih =>
    rw [Function.iterate_succ_apply', successor_toNat, ih (by omega)]
    split <;> split <;> split <;> omega

/-- No successor comes twice in one round. -/
theorem iterate_successor_inj (g : Word) {i j : Nat} (hi : i < 65535) (hj : j < 65535)
    (h : successor^[i] g = successor^[j] g) : i = j := by
  have same := congrArg BitVec.toNat h
  rw [iterate_successor_toNat g (Nat.le_of_lt hi), iterate_successor_toNat g (Nat.le_of_lt hj)] at same
  split at same <;> split at same <;> omega

/-! ## The greatest prior generation (R38) -/

/-- The greatest prior generation stands in the list and none in it is greater. -/
theorem greatest_mem {priors : List Word} (h : priors ≠ []) :
    greatest priors ∈ priors ∧ ∀ p ∈ priors, p.toNat ≤ (greatest priors).toNat := by
  have fold : ∀ (ps : List Word) (a : Word),
      let r := ps.foldl (fun a b => if a.toNat < b.toNat then b else a) a
      (r = a ∨ r ∈ ps) ∧ a.toNat ≤ r.toNat ∧ ∀ p ∈ ps, p.toNat ≤ r.toNat := by
    intro ps
    induction ps with
    | nil => exact fun a => ⟨.inl rfl, Nat.le_refl _, by simp⟩
    | cons b ps ih =>
      intro a
      rw [List.foldl_cons]
      by_cases less : a.toNat < b.toNat
      · obtain ⟨from_, above, all⟩ := ih b
        simp only [if_pos less]
        exact ⟨.inr (from_.elim (fun k => by simp [k]) (List.mem_cons_of_mem b)), by omega,
          List.forall_mem_cons.2 ⟨above, all⟩⟩
      · obtain ⟨from_, above, all⟩ := ih a
        simp only [if_neg less]
        exact ⟨from_.imp id (List.mem_cons_of_mem b), above, List.forall_mem_cons.2 ⟨by omega, all⟩⟩
  obtain ⟨from_, -, all⟩ := fold priors 0
  refine ⟨from_.elim (fun zero => ?_) id, all⟩
  obtain ⟨p, ps, rfl⟩ := List.exists_cons_of_ne_nil h
  have least : p.toNat ≤ (greatest (p :: ps)).toNat := all p (List.mem_cons_self ..)
  have zero : greatest (p :: ps) = 0 := zero
  have : p = 0 := BitVec.eq_of_toNat_eq (by rw [zero] at least; simpa using least)
  rw [zero, ← this]
  exact List.mem_cons_self ..

/-! ## The first fresh successor (R38) -/

/-- The successors formed, up to the first that is fresh or the end of the repetitions. -/
theorem freshFrom_iterate (priors : List Word) (fuel : Nat) (g : Word) :
    ∃ k ≤ fuel, freshFrom priors fuel g = successor^[k] g ∧ (∀ j < k, successor^[j] g ∈ priors) ∧
      (k < fuel → successor^[k] g ∉ priors) := by
  induction fuel generalizing g with
  | zero => exact ⟨0, Nat.le_refl _, rfl, by simp, by simp⟩
  | succ fuel ih =>
    unfold freshFrom
    by_cases h : g ∈ priors
    · obtain ⟨k, hk, result, used, fresh⟩ := ih (successor g)
      refine ⟨k + 1, by omega, ?_, fun j hj => ?_, fun k' => fresh (by omega)⟩
      · rw [if_pos (by simpa using h)]
        exact result
      · cases j with
        | zero => exact h
        | succ j => exact used j (by omega)
    · exact ⟨0, Nat.zero_le _, by rw [if_neg (by simpa using h)]; rfl, by simp, fun _ => h⟩

/-- Among the first 25 of a round of successors one is no prior generation of a list of 24. -/
theorem exists_fresh {priors : List Word} (h : priors.length ≤ 24) (g : Word)
    (used : ∀ j < 25, successor^[j] g ∈ priors) : False := by
  have distinct : ((List.range 25).map (fun j => successor^[j] g)).Nodup :=
    List.Nodup.map_on (fun i hi j hj same => iterate_successor_inj g
      (by have := List.mem_range.1 hi; omega) (by have := List.mem_range.1 hj; omega) same) List.nodup_range
  have inside : (List.range 25).map (fun j => successor^[j] g) ⊆ priors := fun p hp => by
    obtain ⟨j, hj, rfl⟩ := List.mem_map.1 hp
    exact used j (List.mem_range.1 hj)
  have := (List.subperm_of_subset distinct inside).length_le
  simp only [List.length_map, List.length_range] at this
  omega

end Sys2Proof.Machine

open Sys2Proof Sys2Proof.Machine in
/-- Settles O20: a list of at most 24 leaves one of 25 successors fresh, since no two of them are the same. -/
theorem newGenerationIsFresh : Obligations.NewGenerationIsFresh := by
  refine ⟨successor_toNat, fun priors some_ few => ?_⟩
  obtain ⟨member, all⟩ := greatest_mem some_
  obtain ⟨k, hk, result, used, fresh⟩ := freshFrom_iterate priors Config.maxConsist (successor (greatest priors))
  have used : ∀ j < k + 1, successor^[j] (greatest priors) ∈ priors := fun j hj => by
    cases j with
    | zero => exact member
    | succ j => exact used j (by omega)
  have hk : k ≤ 24 := hk
  have early : k < 24 := by
    rcases Nat.lt_or_ge k 24 with h | h
    · exact h
    · exact (exists_fresh few _ (fun j hj => used j (by omega))).elim
  have formed : newGeneration priors = successor^[k + 1] (greatest priors) := result
  refine ⟨greatest priors, k + 1, member, all, by omega, by omega, formed, ?_, fun j _ hj => used j hj,
    newGeneration_ne_zero priors⟩
  rw [formed]
  exact fresh early
end

section
/-! PROOF. The engine at its deadline, at START-INAUGURATION and at the control frames that rouse it, relay an attempt or end
one: each operation by an equation for each of its cases. -/

namespace Sys2Proof.Machine

open Sys2Proof

variable {s : State} {e : EndId} {a : AlertBody}

/-! ## What the engine reads of a state after its own writes -/

@[simp] theorem State.identified_abandon (s : State) (e : EndId) : s.abandon.identified e = s.identified e := by
  cases e <;> rfl
@[simp] theorem State.endUnit_abandon (s : State) (e : EndId) : s.abandon.endUnit e = s.endUnit e := by cases e <;> rfl
@[simp] theorem State.inhibited_abandon (s : State) : s.abandon.inhibited = s.inhibited := rfl
@[simp] theorem State.inhibited_setCount (s : State) (n : Nat) : (s.setCount n).inhibited = s.inhibited := rfl
@[simp] theorem State.ownTag_abandon (s : State) : s.abandon.ownTag = s.ownTag := rfl
@[simp] theorem State.identified_enterMismatch (s : State) (c : MismatchCause) (e : EndId) :
    (s.enterMismatch c).identified e = s.identified e := by cases e <;> rfl
@[simp] theorem State.endUnit_enterMismatch (s : State) (c : MismatchCause) (e : EndId) :
    (s.enterMismatch c).endUnit e = s.endUnit e := by cases e <;> rfl

/-- An end identified and its opposite too are both ends. -/
theorem State.both_identified (h : s.identified e = true) (k : s.identified e.other = true) :
    s.identified .end1 = true ∧ s.identified .end2 = true := by
  cases e
  · exact ⟨h, k⟩
  · exact ⟨k, h⟩

/-! ## ALERTED, FAILED and MISMATCH (R23, R27, R31, R46, R53) -/

/-- A middle node waits in ALERTED with the deadline running. -/
theorem State.enterAlerted_middle (h : s.identified e = true) (k : s.identified e.other = true) : s.enterAlerted =
    { s with engine := s.engine.entering .alerted s.engine.context s.engine.count } := by
  obtain ⟨h₁, h₂⟩ := State.both_identified h k
  exact State.actAlerted_middle
    (s := { s with engine := s.engine.entering .alerted s.engine.context s.engine.count }) h₁ h₂

/-- An extremity that enters ALERTED starts its own tally. -/
theorem State.enterAlerted_extremity (hi : s.inhibited = false) (h : s.identified e = true)
    (k : s.identified e.other = false) (room : (s.endUnit e).ControlRoom) : s.enterAlerted =
      let attempt : AttemptId :=
        { tag := s.ownTag, claim := s.engine.effective.claim, number := s.engine.number + 1 }
      State.modEnd { s with engine := { s.engine.entering .leading
        (some { attempt := attempt, role := .starter, tallyEnd := none, ownPosition := 1 }) s.engine.count with
          number := s.engine.number + 1 } } e
        (EndUnit.withControl (.tally attempt [s.ownEntry 1 (orientationByDeparture e)])) := by
  let q : State := { s with engine := s.engine.entering .alerted s.engine.context s.engine.count }
  have acts : s.enterAlerted = q.startTally e :=
    State.actAlerted_extremity (s := q) hi (by cases e <;> exact h) (by cases e <;> exact k)
  have room : (q.endUnit e).ControlRoom := by cases e <;> exact room
  rw [acts]
  unfold State.startTally
  dsimp only
  rw [State.sendControl_room room]
  cases e <;> rfl

/-- The fifth retry and any after it fail (R22). -/
theorem State.retry_exhausted (h : 4 ≤ s.engine.count) : s.retry = State.raiseBoth
    { s with candidate := none, engine := Engine.leaving { s.engine with count := 5 } .failed none }
    .inaugurationFailed := by
  have last : min Config.maxAttempts (s.engine.count + 1) = 5 := by
    simp only [Config.maxAttempts]
    omega
  have fails : s.retry = (s.setCount 5).enterFailed := by
    simp only [State.retry, last]
    exact if_pos (Nat.le_refl 5)
  exact fails

/-! ## ALERT (R28 to R30, R56) -/

/-- An ALERT goes on with one hop more where the other end is identified and its hops allow (R28). -/
theorem State.forwardAlert_passes {st : EngineState} (h : s.identified e.other = true) (k : a.hops < 24)
    (room : (s.endUnit e.other).ControlRoom) : s.forwardAlert e a st =
      s.modEnd e.other (EndUnit.withControl (.alert a.originator (a.hops + 1) a.restart st)) := by
  unfold State.forwardAlert
  rw [if_pos (by simp [h, k, Config.maxHops]), State.sendControl_room room]

theorem State.forwardAlert_stops {st : EngineState} (h : ¬ (s.identified e.other = true ∧ a.hops < 24)) :
    s.forwardAlert e a st = s := by
  unfold State.forwardAlert
  exact if_neg (fun go => h ((Bool.and_eq_true_iff.1 go).imp id of_decide_eq_true))

/-- A middle node takes an ALERT (R29, R30). -/
theorem State.takeAlert_middle (h : s.identified e = true) (k : s.identified e.other = true) :
    let roused : State := { s with candidate := none, engine := s.engine.entering .alerted none 1 }
    (a.hops < 24 → (s.endUnit e.other).ControlRoom → s.takeAlert e a =
      roused.modEnd e.other (EndUnit.withControl (.alert a.originator (a.hops + 1) a.restart .alerted))) ∧
    (24 ≤ a.hops → s.takeAlert e a = roused) := by
  refine ⟨fun hops room => ?_, fun hops => ?_⟩
  · unfold State.takeAlert
    rw [State.forwardAlert_passes (by simpa using k) hops (by simpa using room),
      State.enterAlerted_middle (e := e) (by simpa using h) (by simpa using k)]
    cases e <;> rfl
  · unfold State.takeAlert
    rw [State.forwardAlert_stops (by omega), State.enterAlerted_middle (e := e) (by simpa using h) (by simpa using k)]
    rfl

/-- An extremity takes an ALERT and starts its own tally (R31). -/
theorem State.takeAlert_extremity (hi : s.inhibited = false) (h : s.identified e = true)
    (k : s.identified e.other = false) (room : (s.endUnit e).ControlRoom) : s.takeAlert e a =
      let attempt : AttemptId :=
        { tag := s.ownTag, claim := s.engine.effective.claim, number := s.engine.number + 1 }
      State.modEnd { s with
        candidate := none
        engine := { s.engine.entering .leading
          (some { attempt := attempt, role := .starter, tallyEnd := none, ownPosition := 1 }) 1 with
            number := s.engine.number + 1 } } e
        (EndUnit.withControl (.tally attempt [s.ownEntry 1 (orientationByDeparture e)])) := by
  unfold State.takeAlert
  rw [State.forwardAlert_stops (by simp [k]), State.enterAlerted_extremity (e := e) (by simpa using hi) (by simpa using h)
    (by simpa using k) (by simpa using room)]
  rfl

/-- An ALERT held by inhibit puts the node into MISMATCH with count 1 (R56; log 45). -/
theorem State.holdAlert_eq (s : State) (e : EndId) (a : AlertBody) : s.holdAlert e a =
    (State.raiseBoth { s with
      candidate := none
      engine := Engine.leaving { s.engine with count := 1 } .mismatch (some .localCause) } .mismatch).forwardAlert e a
        .mismatch := rfl

/-- An ALERT that the node ignores. -/
theorem State.onAlert_ignored (h : s.identified e = false ∨ a.originator = s.ownTag ∨ s.engine.state = .alerted ∨
    (a.restart = false ∧
      (s.engine.state = .leading ∨ s.engine.state = .relaying ∨ s.engine.state = .closed)) ∨
    (s.engine.state = .mismatch ∧ s.engine.effective.inhibit = true)) : s.onAlert e a = s := by
  unfold State.onAlert
  split
  · rfl
  · next heard =>
    simp only [Bool.or_eq_true, Bool.not_eq_true', beq_iff_eq, not_or] at heard
    rcases h with h | h | h | ⟨plain, h | h | h⟩ | ⟨h, on⟩
    · exact absurd h heard.1
    · exact absurd h heard.2
    · simp [h]
    · simp [h, plain]
    · simp [h, plain]
    · simp [h, plain]
    · simp [h, State.inhibited, on]

section
variable (h : s.identified e = true) (k : a.originator ≠ s.ownTag)
include h k

/-- An ALERT that is heard is taken by the engine's state. -/
theorem State.onAlert_takes (hi : s.inhibited = false)
    (rouses : s.engine.state = .quiet ∨ s.engine.state = .failed ∨ (a.restart = true ∧ s.engine.state ≠ .alerted)) :
    s.onAlert e a = s.takeAlert e a := by
  unfold State.onAlert
  rw [if_neg (by simp [h, k])]
  rcases rouses with hs | hs | ⟨restart, hs⟩
  · simp [hs, hi]
  · simp [hs, hi]
  · split <;> simp_all

theorem State.onAlert_holds (hi : s.inhibited = true)
    (held : s.engine.state = .quiet ∨ s.engine.state = .failed ∨ (s.engine.state = .closed ∧ a.restart = true)) :
    s.onAlert e a = s.holdAlert e a := by
  unfold State.onAlert
  rw [if_neg (by simp [h, k])]
  rcases held with hs | hs | ⟨hs, restart⟩
  · simp [hs, hi]
  · simp [hs, hi]
  · simp [hs, hi, restart]

theorem State.onAlert_forwards (hi : s.inhibited = false) (hs : s.engine.state = .mismatch)
    (plain : a.restart = false) : s.onAlert e a = s.forwardAlert e a .mismatch := by
  unfold State.onAlert
  rw [if_neg (by simp [h, k])]
  simp [hs, hi, plain]

end

end Sys2Proof.Machine

open Sys2Proof Sys2Proof.Machine in
/-- Settles O48: the node gives up what it holds and retries, by its count, its inhibit and its ends. -/
theorem deadlineRetriesOrFails : Obligations.DeadlineRetriesOrFails := by
  intro s runs g n alert
  have expired : exec .deadlineExpiry s = .next s.abandon.retry := congrArg Host.Outcome.next (if_pos runs)
  rw [expired]
  refine ⟨fun h => ?_, fun h on => ?_, fun h off => ?_⟩
  · rw [State.retry_exhausted (s := s.abandon) h]
    rfl
  · have next : n = g.count + 1 := by omega
    rw [State.retry_held (s := s.abandon) h on, next]
    rfl
  · have next : n = g.count + 1 := by omega
    have inhibit : s.inhibited = false := off
    have retried : s.abandon.retry = s.abandon.takeUp false n := by
      rw [State.retry_below (s := s.abandon) h, if_neg (by simpa using inhibit), next]
      rfl
    obtain ⟨middle, extremity, lone⟩ := State.takeUp_takesUp (s := s.abandon) off false n
    rw [retried]
    refine ⟨fun h₁ h₂ r₁ r₂ => congrArg _ (middle h₁ h₂ r₁ r₂), fun e he ho r => ?_, fun h₁ h₂ ht => ?_⟩
    · have started := extremity e (by simpa using he) (by simpa using ho) (by simpa using r)
      rw [started]
      cases e <;> rfl
    · obtain ⟨engine, candidate, generation, entries, -⟩ := lone h₁ h₂ ht
      exact ⟨_, rfl, by rw [engine]; rfl, by rw [engine], generation, entries, candidate⟩

open Sys2Proof Sys2Proof.Machine in
/-- Settles O57: a topology change at a node in OFF with inhibit off is taken up by the ends identified. -/
theorem startInaugurationIsATopologyChange : Obligations.StartInaugurationIsATopologyChange := by
  intro s l slot answer alert
  have handled : (s.lane l).attached = true →
      exec (.startInauguration l) s = .next (s.startInauguration.2.reply l s.startInauguration.1) := fun here =>
    congrArg Host.Outcome.next (State.handleAttached_attached slot here)
  refine ⟨fun away => ?_, fun here on => ?_, fun here off => ?_⟩
  · exact congrArg Host.Outcome.next (State.handleAttached_detached slot away)
  · have held : s.startInauguration = (Reply.bare .inhibited, s) := if_pos on
    rw [handled here, held]
    rfl
  · have taken : s.startInauguration = (Reply.bare .done, s.topologyChange) :=
      if_neg (by simp [State.inhibited, off])
    have runs : exec (.startInauguration l) s = .next (answer .done s.topologyChange) := by
      rw [handled here, taken]
      rfl
    refine ⟨runs, fun hb h₁ h₂ r₁ r₂ => ?_⟩
    have changed : s.topologyChange = s.abandon.takeUp true 1 := by
      unfold State.topologyChange
      rw [if_neg (by simp [hb]), if_neg (by simp [State.inhibited, off])]
      rfl
    rw [runs, changed, (State.takeUp_takesUp (s := s.abandon) off true 1).1 h₁ h₂ r₁ r₂]
    rfl

open Sys2Proof Sys2Proof.Machine in
/-- Settles O37: by what the ALERT finds, the node ignores it, takes it, is held by inhibit or passes it on. -/
theorem alertsRouseTheNode : Obligations.AlertsRouseTheNode := by
  intro s e x f a hears free new body s' g rouses onward passes
  have runs : exec (.alert e x f) s = .next (s'.onAlert e a) :=
    congrArg _ (State.controlArrives_new hears free new body)
  have engine : s'.engine = g := State.accepted_engine _
  have tag : s'.ownTag = s.ownTag := State.accepted_ownTag _
  have ends : ∀ d, s'.identified d = s.identified d := State.accepted_identified _
  have queues : ∀ d, (s.endUnit d).ControlRoom → (s'.endUnit d).ControlRoom := fun d room => by
    rwa [EndUnit.ControlRoom, State.accepted_queues]
  have entry : ∀ k o, s'.ownEntry k o = s.ownEntry k o := fun k o => by cases e <;> rfl
  rw [runs]
  refine ⟨fun h => ?_, fun h k => ?_⟩
  · rw [State.onAlert_ignored (by rwa [ends, tag, engine])]
  have heard : s'.identified e = true := by rwa [ends]
  have others : a.originator ≠ s'.ownTag := by rwa [tag]
  refine ⟨fun rouse off => ?_, fun held on => ?_, fun mismatch off plain => ?_⟩
  · have hi : s'.inhibited = false := by rwa [State.inhibited, engine]
    rw [State.onAlert_takes heard others hi (by rwa [engine])]
    refine ⟨fun middle => ?_, fun extremity room => ?_⟩
    · obtain ⟨pass, stop⟩ := State.takeAlert_middle (a := a) heard (by rwa [ends])
      rw [engine] at pass stop
      exact ⟨fun hops room => congrArg _ (pass hops (queues _ room)), fun hops => congrArg _ (stop hops)⟩
    · rw [State.takeAlert_extremity hi heard (by rwa [ends]) (queues _ room), engine, tag, entry]
      cases e <;> rfl
  · rw [State.onAlert_holds heard others (by rwa [State.inhibited, engine]) (by rwa [engine]), State.holdAlert_eq,
      engine]
    refine ⟨fun pass room => ?_, fun stop => ?_⟩
    · rw [State.forwardAlert_passes ?_ pass.2 (by cases e <;> exact queues _ room)]
      exact (ends _).trans pass.1
    · rw [State.forwardAlert_stops]
      exact fun go => stop ⟨(ends _).symm.trans go.1, go.2⟩
  · rw [State.onAlert_forwards heard others (by rwa [State.inhibited, engine]) (by rwa [engine]) plain]
    refine ⟨fun pass room => ?_, fun stop => ?_⟩
    · rw [State.forwardAlert_passes (by rw [ends]; exact pass.1) pass.2 (queues _ room)]
    · rw [State.forwardAlert_stops (by rwa [ends])]
end

section
/-! PROOF. A TALLY at the engine, and the DISSENTs and DEFERs that travel back to its starter. -/

namespace Sys2Proof.Machine

open Sys2Proof

variable {s : State} {e : EndId} {a : AttemptId} {ns : List ListedEntry}

/-! ## A TALLY taken (R32 to R35) -/

/-- A list that leaves room for the own entry is relayed or closed by the ends identified. -/
theorem State.takeTally_short (short : ns.length < 24) : s.takeTally e a ns =
    if s.abandon.identified e.other then s.abandon.relayTally e a ns else s.abandon.closeTally e a ns :=
  if_neg (Nat.not_le.2 short)

/-- A middle node adds its entry and passes the TALLY on (R34). -/
theorem State.takeTally_relays (short : ns.length < 24) (h : s.identified e.other = true)
    (room : (s.endUnit e.other).ControlRoom) : s.takeTally e a ns = State.modEnd { s with
      candidate := none
      engine := s.engine.entering .relaying
        (some { attempt := a, role := .relay, tallyEnd := some e, ownPosition := ns.length + 1 }) s.engine.count }
      e.other (EndUnit.withControl (.tally a (ns ++ [s.ownEntry (ns.length + 1) (orientationByArrival e)]))) := by
  rw [State.takeTally_short short, if_pos (by simpa using h)]
  unfold State.relayTally
  dsimp only
  rw [State.sendControl_room (by simpa using room)]
  cases e <;> rfl

/-- The far extremity whose list the directory holds closes the TALLY. -/
theorem State.closeTally_stored {all : List ListedEntry} {t : State}
    (listed : all = ns ++ [s.ownEntry (ns.length + 1) (orientationByArrival e)]) (single : duplicateTags all = false)
    (stored : s.storeCandidate a all = (.stored, t)) : s.closeTally e a ns =
      let q := t.sendControl e (.closure a all (checkValue (all.map ListedEntry.entry)))
      { q with
        engine := q.engine.entering .closed
          (some { attempt := a, role := .closer, tallyEnd := some e, ownPosition := all.length }) q.engine.count } := by
  subst listed
  simp only [State.closeTally, single, Bool.false_eq_true, if_false, stored]
  rfl

/-- The far extremity holds a list that is sound with its own entry, and closes it (R35). -/
theorem State.takeTally_closes {all : List ListedEntry}
    (listed : all = ns ++ [s.ownEntry (ns.length + 1) (orientationByArrival e)])
    (sound : ListSound s.ownTag (all.map ListedEntry.entry)) (h : s.identified e.other = false)
    (room : (s.endUnit e).ControlRoom) : s.takeTally e a ns =
      let check := checkValue (all.map ListedEntry.entry)
      State.modEnd { s with
        candidate := some { attempt := a, entries := all, check := check, ownPosition := all.length }
        engine := s.engine.entering .closed
          (some { attempt := a, role := .closer, tallyEnd := some e, ownPosition := all.length }) s.engine.count }
        e (EndUnit.withControl (.closure a all check)) := by
  have short : ns.length < 24 := by
    have most := sound.2.1
    rw [List.length_map, listed, List.length_append, List.length_singleton] at most
    omega
  have single : duplicateTags all = false := by
    have nodup := sound.2.2.2.1
    rw [List.map_map] at nodup
    simpa [duplicateTags, Function.comp_def] using nodup
  have place : positionOf s.ownTag all = all.length := by
    rw [positionOf_eq sound (n := s.ownEntry (ns.length + 1) (orientationByArrival e)) (by simp [listed]) rfl, listed,
      List.length_append]
    rfl
  have own : candidateOf s.ownTag a all =
      { attempt := a, entries := all, check := checkValue (all.map ListedEntry.entry), ownPosition := all.length } :=
    congrArg (Candidate.mk a all _) place
  rw [State.takeTally_short short, if_neg (by simpa using h),
    State.closeTally_stored (s := s.abandon) listed single (State.storeCandidate_sound (s := s.abandon) sound)]
  dsimp only
  rw [State.sendControl_room (by cases e <;> exact room), State.ownTag_abandon, own]
  cases e <;> rfl

/-- A list of 24 entries is OVERLENGTH, and the node fails (R32, R44). -/
theorem State.takeTally_overlong (long : ns.length = 24) (room : (s.endUnit e).ControlRoom) : s.takeTally e a ns =
    State.raiseBoth (State.modEnd
      { s with candidate := none, engine := s.engine.leaving .failed none } e
      (EndUnit.withControl (.dissent a .overlength))) .inaugurationFailed := by
  have fails : s.takeTally e a ns = (s.abandon.sendControl e (.dissent a .overlength)).enterFailed :=
    if_pos (Nat.le_of_eq long.symm)
  rw [fails, State.sendControl_room (by simpa using room)]
  cases e <;> rfl

/-! ## A TALLY at the engine (R33, R57) -/

/-- A TALLY that the node drops. -/
theorem State.onTally_dropped (h : s.identified e = false ∨ s.engine.state = .failed ∨
    ((s.engine.state = .leading ∨ s.engine.state = .relaying ∨ s.engine.state = .closed) ∧ s.inhibited = false ∧
      ∃ c, s.engine.context = some c ∧ c.attempt.better a = true)) : s.onTally e a ns = s := by
  unfold State.onTally
  rcases h with h | h | ⟨hs, off, c, context, better⟩
  · simp [h]
  · simp [h]
  · have worse : s.engine.notWorse a = false := by simp [Engine.notWorse, context, better]
    rcases hs with hs | hs | hs <;> simp [hs, off, worse]

section
variable (h : s.identified e = true)
include h

/-- A TALLY that the node takes, counting from 1 again in QUIET (R22). -/
theorem State.onTally_taken (off : s.inhibited = false)
    (taken : s.engine.state = .quiet ∨ s.engine.state = .alerted ∨
      ((s.engine.state = .leading ∨ s.engine.state = .relaying ∨ s.engine.state = .closed) ∧
        ∀ c, s.engine.context = some c → c.attempt.better a = false)) : s.onTally e a ns =
      (s.setCount (if s.engine.state = .quiet then 1 else s.engine.count)).takeTally e a ns := by
  have same : s.setCount s.engine.count = s := rfl
  unfold State.onTally
  rcases taken with hs | hs | ⟨hs, best⟩
  · simp [h, hs, off]
  · simp [h, hs, off, same]
  · have notWorse : s.engine.notWorse a = true := by
      unfold Engine.notWorse
      split
      · next c context => simp [best c context]
      · rfl
    rcases hs with hs | hs | hs <;> simp [h, hs, off, notWorse, same]

/-- A TALLY that inhibit turns back at a node in QUIET (R57). -/
theorem State.onTally_held (hs : s.engine.state = .quiet) (on : s.inhibited = true) : s.onTally e a ns =
    (s.turnBack e a).enterMismatch .localCause := by
  simp [State.onTally, h, hs, on]

/-- A TALLY turned back in MISMATCH (R57). -/
theorem State.onTally_mismatch (hs : s.engine.state = .mismatch) : s.onTally e a ns = s.turnBack e a := by
  simp [State.onTally, h, hs]

end

/-! ## DISSENT (R42 to R44) -/

variable {reason : DissentReason}

theorem DissentReason.structural_iff : reason.structural = true ↔ reason = .overlength ∨ reason = .duplicateTag := by
  cases reason <;> simp [DissentReason.structural]

/-- A frame passed on where the other end is identified and has room. -/
theorem State.passOn_room {f : ControlFrame} (room : (s.endUnit e.other).ControlRoom) : s.passOn e f =
    if s.identified e.other then s.modEnd e.other (EndUnit.withControl f) else s := by
  unfold State.passOn
  rw [State.sendControl_room room]

/-- The context of the starter of an attempt. -/
theorem Engine.starts_of {g : Engine} {c : AttemptContext} (context : g.context = some c) (role : c.role = .starter)
    (attempt : c.attempt = a) : g.starts a = true := by
  simp [Engine.starts, context, role, attempt]

section
variable (h : s.identified e = true)
include h

/-- A DISSENT at a node that is not its starter. -/
theorem State.onDissent_passes (away : a.tag ≠ s.ownTag) : s.onDissent e a reason =
    if reason.structural && (s.passOn e (.dissent a reason)).engine.state != .failed then
      (s.passOn e (.dissent a reason)).enterFailed
    else s.passOn e (.dissent a reason) := by
  simp only [State.onDissent, h, away, Bool.not_true, Bool.false_eq_true, if_false]

/-- A DISSENT at its starter. -/
theorem State.onDissent_starter (home : a.tag = s.ownTag) (starts : s.engine.starts a = true)
    (waits : s.engine.state = .leading ∨ s.engine.state = .quiet) :
    s.onDissent e a reason = if reason.structural then s.enterFailed else s.retry := by
  have waits : (s.engine.state == .leading || s.engine.state == .quiet) = true := by simpa using waits
  simp only [State.onDissent, h, home, starts, waits, Bool.not_true, Bool.false_eq_true, if_false, if_true,
    Bool.and_self]

/-! ## DEFER (R58) -/

variable {by_ : Tag}

/-- A DEFER at a node that is not its starter. -/
theorem State.onDefer_passes (away : a.tag ≠ s.ownTag) : s.onDefer e a by_ =
    if (s.passOn e (.defer a by_)).engine.relays a then (s.passOn e (.defer a by_)).enterMismatch .remoteCause
    else s.passOn e (.defer a by_) := by
  simp only [State.onDefer, h, away, Bool.not_true, Bool.false_eq_true, if_false]

/-- A DEFER at its starter. -/
theorem State.onDefer_starter (home : a.tag = s.ownTag) (starts : s.engine.starts a = true)
    (leads : s.engine.state = .leading) : s.onDefer e a by_ = s.enterMismatch .remoteCause := by
  simp [State.onDefer, h, home, starts, leads]

end

end Sys2Proof.Machine

open Sys2Proof Sys2Proof.Machine in
/-- Settles O38: by the engine's state, its inhibit and its attempt, and then by the ends and the list of the TALLY. -/
theorem talliesAreRelayedOrClosed : Obligations.TalliesAreRelayedOrClosed := by
  intro s e x f a entries hears free new body s' g count mine all taken
  have runs : exec (.tally e x f) s = .next (s'.onTally e a entries) :=
    congrArg _ (State.controlArrives_new hears free new body)
  have engine : s'.engine = g := State.accepted_engine _
  have tag : s'.ownTag = s.ownTag := State.accepted_ownTag _
  have ends : ∀ d, s'.identified d = s.identified d := State.accepted_identified _
  have queues : ∀ d, (s.endUnit d).ControlRoom → (s'.endUnit d).ControlRoom := fun d room => by
    rwa [EndUnit.ControlRoom, State.accepted_queues]
  have inhibit : s'.inhibited = g.effective.inhibit := congrArg (fun g => g.effective.inhibit) engine
  have entry : (s'.setCount count).ownEntry (entries.length + 1) (orientationByArrival e) = mine := by
    cases e <;> rfl
  rw [runs]
  refine ⟨fun drop => ?_, fun h take off => ?_, fun h quiet on room => ?_, fun h mismatch room => ?_⟩
  · rw [State.onTally_dropped (by rwa [ends, engine, inhibit])]
  · have heard : s'.identified e = true := by rwa [ends]
    rw [State.onTally_taken heard (by rwa [inhibit]) (by rwa [engine]), engine]
    have counted : ∀ d, (s.endUnit d).ControlRoom → ((s'.setCount count).endUnit d).ControlRoom := fun d room => by
      simpa using queues d room
    have counts : (s'.setCount count).engine = { g with count := count } :=
      congrArg (fun g => { g with count := count }) engine
    refine ⟨fun short far room => ?_, ?_, fun long room => ?_⟩
    · rw [State.takeTally_relays short (by simpa [ends] using far) (counted _ room), entry, counts]
      rfl
    · intro sound near room check
      have closes := State.takeTally_closes (s := s'.setCount count) (e := e) (a := a) (ns := entries) (all := all)
        (by rw [entry]) (by rw [← tag] at sound; exact sound) (by simpa [ends] using near) (counted _ room)
      rw [counts] at closes
      exact congrArg _ closes
    · rw [State.takeTally_overlong long (counted _ room), counts]
      rfl
  · rw [State.onTally_held (by rwa [ends]) (by rwa [engine]) (by rwa [inhibit]), State.turnBack,
      State.sendControl_room (queues _ room), tag]
    cases e <;> rfl
  · rw [State.onTally_mismatch (by rwa [ends]) (by rwa [engine]), State.turnBack,
      State.sendControl_room (queues _ room), tag]

open Sys2Proof Sys2Proof.Machine in
/-- Settles O41: by whether the node is the starter, and then by the reason, the attempt count and inhibit. -/
theorem dissentsAndDefersTravelToTheStarter : Obligations.DissentsAndDefersTravelToTheStarter := by
  intro s e x f a free new h s' g failed remote
  have engine : s'.engine = g := State.accepted_engine _
  have tag : s'.ownTag = s.ownTag := State.accepted_ownTag _
  have ends : ∀ d, s'.identified d = s.identified d := State.accepted_identified _
  have heard : s'.identified e = true := by rwa [ends]
  have passed : ∀ fr, (s.endUnit e.other).ControlRoom → s'.passOn e fr =
      if s.identified e.other then s'.modEnd e.other (EndUnit.withControl fr) else s' := fun fr room => by
    rw [State.passOn_room (by rwa [EndUnit.ControlRoom, State.accepted_queues]), ends]
  have same : ∀ fr, (if s.identified e.other then s'.modEnd e.other (EndUnit.withControl fr) else s').engine = g :=
    fun fr => by split <;> simp [engine]
  refine ⟨?_, ?_⟩
  · intro reason hears body structural
    have runs : exec (.dissent e x f) s = .next (s'.onDissent e a reason) :=
      congrArg _ (State.controlArrives_new hears free new body)
    rw [runs]
    refine ⟨?_, fun c home context role attempt waits => ?_⟩
    · intro away t room
      have state : t.engine = g := same _
      rw [State.onDissent_passes heard (by rwa [tag]), passed _ room]
      change (¬ _ → Host.Outcome.next (if _ && t.engine.state != .failed then t.enterFailed else t) = _) ∧
        (_ → _ → Host.Outcome.next (if _ && t.engine.state != .failed then t.enterFailed else t) = _)
      refine ⟨fun plain => ?_, fun struct active => ?_⟩
      · rw [if_neg]
        simp [DissentReason.structural_iff.not.2 plain]
      · rw [if_pos (by simpa [state, DissentReason.structural_iff.2 struct] using active)]
        unfold State.enterFailed State.abandon
        rw [state]
        rfl
    · rw [State.onDissent_starter heard (by rwa [tag]) (by rw [engine]; exact Engine.starts_of context role attempt)
        (by rwa [engine])]
      refine ⟨fun struct => ?_, fun plain last => ?_, fun plain more => ?_⟩
      · rw [if_pos (DissentReason.structural_iff.2 struct)]
        unfold State.enterFailed State.abandon
        rw [engine]
        rfl
      · rw [if_neg (DissentReason.structural_iff.not.2 plain), State.retry_fails (by rwa [engine]), engine]
      · rw [if_neg (DissentReason.structural_iff.not.2 plain)]
        refine ⟨fun off => ⟨_, rfl, ?_⟩, fun on => ?_⟩
        · have off : s'.inhibited = false := by rwa [State.inhibited, engine]
          rw [State.retry_below (by rwa [engine]), if_neg (by simp [off]), engine]
          exact State.takeUp_takesUp off _ _
        · rw [State.retry_held (by rwa [engine]) (by rwa [State.inhibited, engine]), engine]
  · intro by_ hears body
    have runs : exec (.defer e x f) s = .next (s'.onDefer e a by_) :=
      congrArg _ (State.controlArrives_new hears free new body)
    rw [runs]
    refine ⟨?_, fun c home context role attempt leads => ?_⟩
    · intro away t room
      have state : t.engine = g := same _
      rw [State.onDefer_passes heard (by rwa [tag]), passed _ room]
      change (∀ c, _ → _ → _ → Host.Outcome.next (if t.engine.relays a then t.enterMismatch .remoteCause else t) = _) ∧
        (_ → Host.Outcome.next (if t.engine.relays a then t.enterMismatch .remoteCause else t) = _)
      refine ⟨fun c context attempt relays => ?_, fun other => ?_⟩
      · rw [if_pos (by simp [Engine.relays, state, context, attempt, relays])]
        unfold State.enterMismatch State.abandon
        rw [state]
        rfl
      · rw [if_neg (by simp [Engine.relays, state, other])]
    · rw [State.onDefer_starter heard (by rwa [tag]) (by rw [engine]; exact Engine.starts_of context role attempt)
        (by rwa [engine])]
      unfold State.enterMismatch State.abandon
      rw [engine]
      rfl
end

section
/-! PROOF. What an event at one end leaves of the other side of the node, and what the requests and transactions of one lane
leave of the other lane. -/

namespace Sys2Proof.Machine

open Sys2Proof

variable {s t r : State} {e : EndId} {x : LineId} {kind : Byte} {f : RawFrame}

/-! ## Arrivals (R90 to R104) -/

/-- A frame that arrives is not taken, is counted, or goes on. -/
theorem State.EventFrame.arrive {valid : State → State}
    (h : ∀ r, State.EndFrame e s r → State.EventFrame e s (valid r)) :
    State.EventFrame e s (s.arrive e x kind f valid) := by
  unfold State.arrive
  split
  · exact .refl e s
  · split
    · exact (State.EndFrame.refl e s).countCheckError.event
    · exact h _ (State.EndFrame.refl e s).restartSilence

theorem State.EventFrame.takeAwaiting {β : Type} {decode : List Byte → Option β} {handle : β → State → State}
    (k : State.EndFrame e s t) (h : ∀ b, State.EventFrame e s (handle b t)) :
    State.EventFrame e s (t.takeAwaiting e x f decode handle) := by
  have fresh : State.EventFrame e s (match decode f.body with
      | none => t.earn e x (.plain (frameBit f) (.refuse .malformed))
      | some b => handle b t) := by
    split
    · exact k.earn.event
    · exact h _
  unfold State.takeAwaiting
  dsimp only
  split
  · exact fresh
  · split
    · exact k.answer.event
    · exact fresh

theorem State.EventFrame.takeUnanswered {β : Type} {decode : List Byte → Option β} {handle : β → State → State}
    (k : State.EndFrame e s t) (h : ∀ b, State.EventFrame e s (handle b t)) :
    State.EventFrame e s (t.takeUnanswered e x f decode handle) := by
  unfold State.takeUnanswered
  split
  · exact k.countCheckError.event
  · exact h _

/-- A control frame of the engine. -/
theorem State.EventFrame.controlArrives {β : Type} {decode : List Byte → Option β} {engine : β → State → State}
    (h : ∀ b r, State.EngineFrame r (engine b r)) :
    State.EventFrame e s (s.controlArrives e x kind f decode engine) :=
  .arrive fun _ k => .takeAwaiting k fun b => k.earn.event.then_engine (h b _)

theorem State.EventFrame.onReply {bit : Bool} {handle : State → State} (k : State.EndFrame e s t)
    (h : ∀ r, State.EndFrame e s r → State.EndFrame e s (handle r)) :
    State.EventFrame e s (t.onReply e bit handle) := by
  unfold State.onReply
  split
  · exact (h _ k.endRun).event
  · exact k.event

/-- A reply that arrives at the sender. -/
theorem State.EventFrame.replyArrives {β : Type} {decode : List Byte → Option β} {handle : State → State}
    (h : ∀ r, State.EndFrame e s r → State.EndFrame e s (handle r)) : State.EventFrame e s
      (s.arrive e x kind f (fun s => s.takeUnanswered e x f decode (fun _ s => s.onReply e (frameBit f) handle))) :=
  .arrive fun _ k => .takeUnanswered k fun _ => .onReply k h

/-! ## The arbiter (R131, R132) -/

/-- What the arbiter takes leaves the control queue no longer. -/
theorem EndQueues.offer_control {q q' : EndQueues} {admitted : Bool} {limitProcess limitBulk : Nat} {h : HeldFrame}
    (k : q.offer admitted limitProcess limitBulk = some (h, q')) : q'.control.length ≤ q.control.length := by
  have replaced : ∀ (q : EndQueues) c rs, (q.setClassQueue c rs).control = q.control := fun q c rs => by cases c <;> rfl
  have counted : ∀ (q : EndQueues) a b c, (q.countRelief a b c).control = q.control := fun q a b c => by cases c <;> rfl
  unfold EndQueues.offer at k
  split at k
  · next first rest control =>
    obtain ⟨-, rfl⟩ := Prod.mk.injEq .. ▸ Option.some.inj k
    simp [control]
  · split at k
    · simp at k
    · split at k
      · simp at k
      · split at k
        · simp at k
        · next taken =>
          obtain ⟨-, rfl⟩ := Prod.mk.injEq .. ▸ Option.some.inj k
          unfold EndQueues.takeHead at taken
          split at taken
          · simp at taken
          · obtain ⟨-, rfl⟩ := Prod.mk.injEq .. ▸ Option.some.inj taken
            rw [counted, replaced]

theorem State.EndFrame.offerFrame (s : State) (e : EndId) : State.EndFrame e s (s.offerFrame e) := by
  unfold State.offerFrame
  dsimp only
  split
  · split
    · exact .refl e s
    · next offered =>
      exact ((State.EndFrame.refl e s).modEnd
        ((EndUnit.Keeps.refl _).inner (EndQueues.offer_control offered))).takeFrame
  · exact .refl e s

/-! ## Inputs (R65) -/

theorem State.EndEventFrame.trans (h : s.EndEventFrame e t) (k : t.EndEventFrame e r) : s.EndEventFrame e r :=
  ⟨h.1.trans k.1, h.2.1.trans k.2.1, fun l => (h.2.2 l).trans (k.2.2 l)⟩

/-- Any change of the end itself. -/
theorem State.EndEventFrame.modEnd (s : State) (e : EndId) (g : EndUnit → EndUnit) : s.EndEventFrame e (s.modEnd e g) := by
  refine ⟨⟨?_, ?_, ?_, ?_, ?_, ?_, ?_, ?_⟩, ?_, fun l => ?_⟩
  case refine_9 => rw [State.endUnit_modEnd_other]; exact .refl _
  case refine_10 => rw [State.lane_modEnd]; exact .refl _
  all_goals simp

theorem State.EndEventFrame.senseChange (s : State) (e : EndId) (coupled : Bool) :
    s.EndEventFrame e (s.senseChange e coupled) := by
  have input := State.EndEventFrame.modEnd s e (fun u => { u with sense := coupled })
  unfold State.senseChange
  split
  · exact (State.EventFrame.refl e s).frame
  · dsimp only
    split
    · exact input
    · exact input.trans ((State.EndFrame.refl e _).modEnd (EndUnit.Keeps.refl _).senseChanged).event.afterLines.frame

theorem State.EndEventFrame.carrierChange (s : State) (e : EndId) (x : LineId) (present : Bool) :
    s.EndEventFrame e (s.carrierChange e x present) := by
  have input := State.EndEventFrame.modEnd s e (fun u => u.modLine x (fun n => { n with carrier := present }))
  unfold State.carrierChange
  split
  · exact (State.EventFrame.refl e s).frame
  · dsimp only
    split
    · exact input
    · exact input.trans ((State.EndFrame.refl e _).modEnd (EndUnit.Keeps.refl _).inputChanged).event.afterLines.frame

/-! ## An event at one end -/

theorem State.EventFrame.ite {p : Prop} [Decidable p] (h : State.EventFrame e s t) :
    State.EventFrame e s (if p then t else s) := by
  split
  · exact h
  · exact .refl e s

/-- An event at one end, but for a change of an input, keeps to the frame of `State.EventFrame`. -/
theorem exec_eventFrame {c : Instr} (at_ : endOf c = some e) (input : ∀ b, c ≠ .couplerSenseChange e b)
    (inputs : ∀ x b, c ≠ .carrierChange e x b) : ∃ t, exec c s = .next t ∧ State.EventFrame e s t := by
  have none_ := State.EndFrame.refl e s
  have all := State.EventFrame.refl e s
  cases c
  all_goals cases at_
  case couplerSenseChange b => exact absurd rfl (input b)
  case carrierChange x b => exact absurd rfl (inputs x b)
  case settleTimerExpiry x => exact ⟨_, rfl, .ite (none_.modEnd (EndUnit.Keeps.refl _).settleExpired).event.afterLines⟩
  case fullSweepStart => exact ⟨_, rfl, (none_.modEnd (EndUnit.Keeps.refl _).trainerTakes).event⟩
  case fullSweepEnd runs =>
    refine ⟨_, rfl, ?_⟩
    split
    · exact all.fullSweepEnded
    · exact all
    · exact all
  case trainingPauseEnd x => exact ⟨_, rfl, .ite (none_.modLine ⟨rfl, BitVec.le_refl _⟩).event⟩
  case silenceTimerExpiry x => exact ⟨_, rfl, .ite all.lineSilent⟩
  case recentreSweepEnd runs =>
    refine ⟨_, rfl, ?_⟩
    split
    · exact all.recentreEnded
    · exact all
    · exact all
  case patternHoldEnd x => exact ⟨_, rfl, .ite none_.holdEnded.event⟩
  case beaconDue x => exact ⟨_, rfl, .ite none_.queueBeacon.event⟩
  case transmissionEnd x => exact ⟨_, rfl, none_.endTransmission.event⟩
  case unknownFrameKind x kind f => exact ⟨_, rfl, .arrive fun _ k => k.answer.event⟩
  case beacon x f => exact ⟨_, rfl, .arrive fun _ k => .takeUnanswered k fun _ => k.event.takeBeacon⟩
  case patternRequest x f => exact ⟨_, rfl, .arrive fun _ k => .takeAwaiting k fun _ => k.earn.event⟩
  case alert x f => exact ⟨_, rfl, .controlArrives fun _ _ => (State.EngineFrame.refl _).onAlert⟩
  case tally x f => exact ⟨_, rfl, .controlArrives fun _ _ => (State.EngineFrame.refl _).onTally⟩
  case closure x f => exact ⟨_, rfl, .controlArrives fun _ _ => (State.EngineFrame.refl _).onClosure⟩
  case commit x f => exact ⟨_, rfl, .controlArrives fun _ _ => (State.EngineFrame.refl _).onCommit⟩
  case dissent x f => exact ⟨_, rfl, .controlArrives fun _ _ => (State.EngineFrame.refl _).onDissent⟩
  case defer x f => exact ⟨_, rfl, .controlArrives fun _ _ => (State.EngineFrame.refl _).onDefer⟩
  case accept x f => exact ⟨_, rfl, .replyArrives fun _ k => k.endFrame⟩
  case hold x f => exact ⟨_, rfl, .replyArrives fun _ k => k.onHold⟩
  case refuse x f => exact ⟨_, rfl, .replyArrives fun _ k => k.endFrame⟩
  case replyTimeout => exact ⟨_, rfl, .ite all.replyTimedOut⟩
  case holdWaitEnd => exact ⟨_, rfl, .ite none_.sendHeld.event⟩
  case pendingSend => exact ⟨_, rfl, .ite none_.firstSend.event⟩
  case arbiterOffer => exact ⟨_, rfl, (State.EndFrame.offerFrame s e).event⟩

/-- All that an event at one end leaves. -/
theorem exec_endEventFrame {c : Instr} (at_ : endOf c = some e) (k : exec c s = .next t) : s.EndEventFrame e t := by
  by_cases input : ∃ b, c = .couplerSenseChange e b
  · obtain ⟨b, rfl⟩ := input
    obtain rfl : s.senseChange e b = t := Host.Outcome.next.inj k
    exact .senseChange s e b
  by_cases carrier : ∃ x b, c = .carrierChange e x b
  · obtain ⟨x, b, rfl⟩ := carrier
    obtain rfl : s.carrierChange e x b = t := Host.Outcome.next.inj k
    exact .carrierChange s e x b
  obtain ⟨r, runs, frame⟩ := exec_eventFrame (s := s) at_ (fun b h => input ⟨b, h⟩) (fun x b h => carrier ⟨x, b, h⟩)
  obtain rfl : r = t := Host.Outcome.next.inj (runs.symm.trans k)
  exact frame.frame

/-! ## One lane beside the requests of the other (R138, R161, R164, R165, R171) -/

/-- What a lane keeps while the node acts for others: attach state, votes, reply slot, mask, input, frame errors, the bytes
last sent, and every notice. -/
structure LanePort.Stands (p q : LanePort) : Prop where
  attached : q.attached = p.attached
  votes : q.votes = p.votes
  slot : q.slot = p.slot
  mask : q.mask = p.mask
  lrst : q.lrst = p.lrst
  frameErrors : q.frameErrors = p.frameErrors
  dataOut : q.dataOut = p.dataOut
  notices : p.notices &&& q.notices = p.notices

theorem LanePort.Stands.refl (p : LanePort) : p.Stands p := ⟨rfl, rfl, rfl, rfl, rfl, rfl, rfl, BitVec.and_self⟩

theorem LanePort.Stands.trans {p q r : LanePort} (h : p.Stands q) (k : q.Stands r) : p.Stands r where
  attached := k.attached.trans h.attached
  votes := k.votes.trans h.votes
  slot := k.slot.trans h.slot
  mask := k.mask.trans h.mask
  lrst := k.lrst.trans h.lrst
  frameErrors := k.frameErrors.trans h.frameErrors
  dataOut := k.dataOut.trans h.dataOut
  notices := by rw [← h.notices, BitVec.and_assoc, k.notices]

/-- A lane whose queues, notices and counts alone change, with no notice cleared. -/
theorem LanePort.Stands.of_eq {p q : LanePort} (h : q = { p with
      sendQueue := q.sendQueue, receiveQueue := q.receiveQueue, notices := q.notices, losses := q.losses
      receiveDrops := q.receiveDrops, receiveDisplacements := q.receiveDisplacements })
    (k : p.notices &&& q.notices = p.notices) : p.Stands q := by
  rw [h] at k ⊢
  exact ⟨rfl, rfl, rfl, rfl, rfl, rfl, rfl, k⟩

/-- A lane of the node stands. -/
def State.LaneStands (l : LaneId) (s t : State) : Prop := (s.lane l).Stands (t.lane l)

variable {l : LaneId}

theorem State.EventFrame.laneStands (h : State.EventFrame e s t) (l : LaneId) : State.LaneStands l s t := by
  have reports := h.frame.2.2 l
  exact .of_eq (by rw [reports]) (h.marks l)

theorem State.EngineFrame.laneStands (h : s.EngineFrame t) (l : LaneId) : State.LaneStands l s t :=
  (h.event .end1).laneStands l

/-- A change of one lane leaves the other. -/
theorem State.modLane_laneStands (s : State) (l : LaneId) (g : LanePort → LanePort) :
    State.LaneStands l.other s (s.modLane l g) := by
  unfold State.LaneStands
  rw [State.lane_modLane_other]
  exact .refl _

theorem LanePort.Stands.deliver (p : LanePort) (a : ReceiveEntry) : p.Stands (p.deliver a) := by
  have keeps := p.notices_deliver a
  refine .of_eq ?_ (by rw [keeps, BitVec.and_self])
  unfold LanePort.deliver
  split
  · unfold LanePort.receive
    split
    · rfl
    · split <;> rfl
  · rfl

theorem State.deliver_laneStands (s : State) (a : ReceiveEntry) (l : LaneId) : State.LaneStands l s (s.deliver a) := by
  unfold State.deliver State.LaneStands
  split
  · cases l with
    | laneA => exact .deliver s.laneA a
    | laneB => exact .deliver s.laneB a
  · cases l <;> exact .refl _

theorem State.LaneStands.trans (h : State.LaneStands l s t) (k : State.LaneStands l t r) : State.LaneStands l s r :=
  LanePort.Stands.trans h k

/-- An engagement gives up what a lane has queued, and clears no notice (R139). -/
theorem State.engage_laneStands (s : State) (l : LaneId) : State.LaneStands l s s.engage := by
  obtain ⟨-, -, -, -, -, lanes⟩ := s.engages_engage
  unfold State.LaneStands
  rw [lanes l]
  exact .of_eq rfl (by simp only [BitVec.or_assoc, and_or_absorb])

theorem State.testRelease_lane (s : State) (l : LaneId) : s.testRelease.lane l = s.lane l := by
  unfold State.testRelease
  split <;> cases l <;> rfl

theorem State.votesAtEngine_engineFrame (s : State) (old : Votes) : s.EngineFrame (s.votesAtEngine old) := by
  have h := State.EngineFrame.refl s
  unfold State.votesAtEngine
  split
  · exact h.topologyChange
  · split
    · split
      · exact h.inhibitOn
      · exact h.inhibitOff
    · exact h

theorem State.bypassRequestChanged_laneStands (s : State) (l : LaneId) :
    State.LaneStands l s s.bypassRequestChanged := by
  have same : State.LaneStands l s s := .refl _
  unfold State.bypassRequestChanged
  split
  · split
    · exact s.engage_laneStands l
    · exact same
  · unfold State.LaneStands
    rw [State.testRelease_lane]
    exact .refl _

/-- A recombination of the votes leaves every lane standing (R49, R50). -/
theorem State.recombine_laneStands (s : State) (l : LaneId) : State.LaneStands l s s.recombine := by
  let v := s.withVotes (effectiveVotes s.laneA s.laneB)
  have given : State.LaneStands l s v := by cases l <;> exact .refl _
  have at_engine : ∀ r : State, State.LaneStands l r (r.votesAtEngine s.engine.effective) := fun r =>
    (r.votesAtEngine_engineFrame _).laneStands l
  unfold State.recombine
  dsimp only
  split
  · exact given.trans ((v.bypassRequestChanged_laneStands l).trans (at_engine _))
  · exact given.trans (at_engine _)

/-! ## The requests and the transactions of a lane -/

/-- A request handled: what its effect leaves of the other lane, the reply leaves too. -/
theorem State.handleKind_laneStands {is : Byte → Bool} {g : List Byte → Reply × State}
    (h : ∀ body, State.LaneStands l.other s (g body).2) : State.LaneStands l.other s (s.handleKind l is g) := by
  have same : State.LaneStands l.other s s := .refl _
  unfold State.handleKind
  split
  · split
    · exact (h _).trans (State.modLane_laneStands _ l _)
    · exact same
  · exact same
  · exact same

theorem State.handleAttached_laneStands {code : Byte} {g : List Byte → Reply × State}
    (h : ∀ body, State.LaneStands l.other s (g body).2) :
    State.LaneStands l.other s (s.handleAttached l code g) := by
  refine State.handleKind_laneStands fun body => ?_
  split
  · exact h body
  · exact .refl _

theorem noBody_laneStands {p : Reply × State} (h : State.LaneStands l s p.2) (body : List Byte) :
    State.LaneStands l s (noBody s p body).2 := by
  unfold noBody
  split
  · exact h
  · exact .refl _

theorem withBody_laneStands {β : Type} {decode : List Byte → Option β} {g : β → Reply × State}
    (h : ∀ b, State.LaneStands l s (g b).2) (body : List Byte) :
    State.LaneStands l s (withBody s decode g body).2 := by
  unfold withBody
  split
  · exact h _
  · exact .refl _

theorem State.judgeSend_laneStands (s : State) (l : LaneId) (m : Message) :
    State.LaneStands l.other s (s.judgeSend l m).2 := by
  have same : State.LaneStands l.other s s := .refl _
  have queued : ∀ (r : State) d, State.LaneStands l.other r (r.queueSend l d) := fun r d => r.modLane_laneStands l _
  unfold State.judgeSend
  dsimp only
  split
  · split
    · exact same
    · split
      · exact s.deliver_laneStands _ _
      · split
        · exact same
        · exact (s.deliver_laneStands _ _).trans (queued _ _)
  · split
    · exact same
    · exact same
    · exact same
    · exact s.deliver_laneStands _ _
    · split
      · exact same
      · exact queued s _

theorem State.fetchEntry_laneStands (s : State) (l : LaneId) : State.LaneStands l.other s (s.fetchEntry l).2 := by
  unfold State.fetchEntry
  split
  · exact .refl _
  · exact s.modLane_laneStands l _

theorem State.attachLane_laneStands (s : State) (l : LaneId) : State.LaneStands l.other s (s.attachLane l) := by
  unfold State.attachLane
  split
  · exact .refl _
  · exact (s.modLane_laneStands l _).trans (State.recombine_laneStands _ _)

theorem State.detachRequest_laneStands (s : State) (l : LaneId) : State.LaneStands l.other s (s.detachRequest l) := by
  unfold State.detachRequest
  split
  · exact (s.modLane_laneStands l _).trans (State.recombine_laneStands _ _)
  · exact .refl _

theorem State.startInauguration_laneStands (s : State) (l : LaneId) : State.LaneStands l s s.startInauguration.2 := by
  unfold State.startInauguration
  split
  · exact .refl _
  · exact (State.EngineFrame.refl s).topologyChange.laneStands l

theorem State.retrainLine_laneStands (s : State) (e : EndId) (x : LineId) (l : LaneId) :
    State.LaneStands l s (s.retrainLine e x) := by
  unfold State.retrainLine
  split
  · exact ((State.EndFrame.refl e s).modLine ⟨rfl, BitVec.le_refl _⟩).event.afterLines.laneStands l
  · exact .refl _

/-- The store begins an operation, or the request is refused; the lanes stand. -/
theorem State.store_laneStands (s : State) (w : Store) (l : LaneId) : State.LaneStands l s { s with store := w } := by
  cases l <;> exact .refl _

theorem State.writeSetting_laneStands (s : State) (m l : LaneId) (w : SettingWrite) :
    State.LaneStands l s (s.writeSetting m w).2 := by
  have same : State.LaneStands l s s := .refl _
  unfold State.writeSetting
  split
  · exact same
  · split
    · exact same
    · split
      · exact same
      · exact s.store_laneStands _ l

theorem State.lockCommissioning_laneStands (s : State) (m l : LaneId) :
    State.LaneStands l s (s.lockCommissioning m).2 := by
  have same : State.LaneStands l s s := .refl _
  unfold State.lockCommissioning
  split
  · exact same
  · split
    · exact same
    · split
      · exact same
      · exact s.store_laneStands _ l

/-- A request or transaction of one lane leaves the other lane standing. -/
theorem exec_laneStands {c : Instr} (at_ : laneOf c = some l) : ∃ t, exec c s = .next t ∧ State.LaneStands l.other s t := by
  have same : State.LaneStands l.other s s := .refl _
  cases c
  all_goals cases at_
  case laneTransaction span bytes =>
    refine ⟨_, rfl, ?_⟩
    split
    · exact same
    · exact s.modLane_laneStands l _
  case unknownRequest => exact ⟨_, rfl, State.handleKind_laneStands fun _ => same⟩
  case null => exact ⟨_, rfl, State.handleKind_laneStands (noBody_laneStands same)⟩
  case attach => exact ⟨_, rfl, State.handleKind_laneStands (noBody_laneStands (s.attachLane_laneStands l))⟩
  case detach => exact ⟨_, rfl, State.handleKind_laneStands (noBody_laneStands (s.detachRequest_laneStands l))⟩
  case setVotes =>
    exact ⟨_, rfl, State.handleAttached_laneStands (withBody_laneStands fun _ =>
      (s.modLane_laneStands l _).trans (State.recombine_laneStands _ _))⟩
  case send => exact ⟨_, rfl, State.handleAttached_laneStands (withBody_laneStands (s.judgeSend_laneStands l))⟩
  case fetch => exact ⟨_, rfl, State.handleAttached_laneStands (noBody_laneStands (s.fetchEntry_laneStands l))⟩
  case readDirectory => exact ⟨_, rfl, State.handleKind_laneStands (withBody_laneStands fun _ => same)⟩
  case readNode => exact ⟨_, rfl, State.handleKind_laneStands (noBody_laneStands same)⟩
  case readLines => exact ⟨_, rfl, State.handleKind_laneStands (withBody_laneStands fun _ => same)⟩
  case readCounters => exact ⟨_, rfl, State.handleKind_laneStands (noBody_laneStands same)⟩
  case readNotices => exact ⟨_, rfl, State.handleKind_laneStands (noBody_laneStands same)⟩
  case clearNotices =>
    exact ⟨_, rfl, State.handleKind_laneStands (withBody_laneStands fun _ => s.modLane_laneStands l _)⟩
  case setMask => exact ⟨_, rfl, State.handleKind_laneStands (withBody_laneStands fun _ => s.modLane_laneStands l _)⟩
  case startInauguration =>
    exact ⟨_, rfl, State.handleAttached_laneStands (noBody_laneStands (s.startInauguration_laneStands _))⟩
  case retrainLine =>
    exact ⟨_, rfl, State.handleAttached_laneStands (withBody_laneStands fun _ => s.retrainLine_laneStands _ _ _)⟩
  case readSetting => exact ⟨_, rfl, State.handleKind_laneStands (withBody_laneStands fun _ => same)⟩
  case writeSetting =>
    exact ⟨_, rfl, State.handleAttached_laneStands (withBody_laneStands (s.writeSetting_laneStands l _))⟩
  case lockCommissioning =>
    exact ⟨_, rfl, State.handleAttached_laneStands (noBody_laneStands (s.lockCommissioning_laneStands l _))⟩

end Sys2Proof.Machine

open Sys2Proof Sys2Proof.Machine in
/-- Settles O3: every event at an end is made of operations of that end's unit and of the engine, and every request of a lane
of changes of that lane and of operations that leave each lane standing. -/
theorem eventsKeepToTheirSide : Obligations.EventsKeepToTheirSide := by
  refine ⟨fun c e s t at_ k => exec_endEventFrame at_ k, fun c l s t at_ k => ?_⟩
  obtain ⟨r, runs, h⟩ := exec_laneStands (s := s) at_
  obtain rfl : r = t := Host.Outcome.next.inj (runs.symm.trans k)
  exact ⟨h.attached, h.votes, h.slot, h.mask, h.lrst, h.frameErrors, h.dataOut, h.notices⟩
end

section
/-! PROOF. What a change of the votes sets off: the recombination by an equation for each way the effective values change,
and the reply that follows it. -/

namespace Sys2Proof.Machine

open Sys2Proof

variable {s t : State} {l : LaneId} {r : Reply}

/-! ## The recombination (R49, R50; log 12) -/

theorem State.votesAtEngine_same {old : Votes} (claim : s.engine.effective.claim = old.claim)
    (inhibit : s.engine.effective.inhibit = old.inhibit) : s.votesAtEngine old = s := by
  simp [State.votesAtEngine, claim, inhibit]

section
variable {v : State} (given : v = s.withVotes (effectiveVotes s.laneA s.laneB))
include given

/-- What a recombination hands on: the bypass request first, then claim and inhibit as one event. -/
theorem State.recombine_eq : s.recombine =
    (if v.engine.effective.bypass ≠ s.engine.effective.bypass then v.bypassRequestChanged
      else v).votesAtEngine s.engine.effective := by
  rw [given]
  rfl

theorem State.recombine_engine : s.recombine.engine.effective = v.engine.effective := by
  obtain ⟨q, changed, eq⟩ := s.recombine_cases
  rw [← given] at changed
  have passed : q.engine.effective = v.engine.effective := by
    rcases changed with h | h
    · rw [h.engine]
    · rw [h.engine]
      rfl
  rw [eq, ← passed]
  rcases q.votesAtEngine_turns s.engine.effective with h | ⟨-, h⟩
  · rw [h]
  · exact h.effective

/-- No effective value changes. -/
theorem State.recombine_same (same : s.engine.effective = v.engine.effective) : s.recombine = v := by
  rw [State.recombine_eq given, if_neg (by simp [same]), State.votesAtEngine_same (by rw [same]) (by rw [same])]

/-- The bypass request alone changes. -/
theorem State.recombine_bypass (bypass : s.engine.effective.bypass ≠ v.engine.effective.bypass)
    (claim : s.engine.effective.claim = v.engine.effective.claim)
    (inhibit : s.engine.effective.inhibit = v.engine.effective.inhibit) : s.recombine = v.bypassRequestChanged := by
  have kept : v.bypassRequestChanged.engine.effective = v.engine.effective := by
    unfold State.bypassRequestChanged
    split
    · split
      · rw [v.engage_stoodDown.engine]
        rfl
      · rfl
    · unfold State.testRelease
      split <;> rfl
  rw [State.recombine_eq given, if_pos (Ne.symm bypass), State.votesAtEngine_same (by rw [kept, claim])
    (by rw [kept, inhibit])]

/-- A bypass request in OFF engages, and the engine of the node that engages takes nothing more (R146). -/
theorem State.recombine_engages (was : s.engine.effective.bypass = false) (now : v.engine.effective.bypass = true)
    (off : v.bypass.state = .off) : s.recombine = v.engage := by
  have asked : v.bypassRequestChanged = v.engage := by
    unfold State.bypassRequestChanged
    rw [if_pos now, if_pos off]
  have down := v.engage_stoodDown
  rw [State.recombine_eq given, if_pos (by simp [was, now]), asked]
  unfold State.votesAtEngine State.topologyChange State.inhibitOn State.inhibitOff
  rw [if_pos down.engaged, down.engine]
  simp [Engine.engage]

/-- The claim changes and the bypass request does not: a topology change (R25, R63). -/
theorem State.recombine_claim (bypass : s.engine.effective.bypass = v.engine.effective.bypass)
    (claim : s.engine.effective.claim ≠ v.engine.effective.claim) : s.recombine = v.topologyChange := by
  rw [State.recombine_eq given, if_neg (by simp [bypass])]
  exact if_pos (Ne.symm claim)

/-- Inhibit alone changes (R55, R61). -/
theorem State.recombine_inhibit (bypass : s.engine.effective.bypass = v.engine.effective.bypass)
    (claim : s.engine.effective.claim = v.engine.effective.claim)
    (inhibit : s.engine.effective.inhibit ≠ v.engine.effective.inhibit) :
    s.recombine = if v.engine.effective.inhibit then v.inhibitOn else v.inhibitOff := by
  rw [State.recombine_eq given, if_neg (by simp [bypass])]
  unfold State.votesAtEngine
  rw [if_neg (by simp [claim]), if_pos (Ne.symm inhibit)]

end

/-! ## Changes under inhibit (R54, R55) -/

/-- A topology change with inhibit off is taken up at once (R25). -/
theorem State.topologyChange_takeUp (off : s.bypass.state = .off) (free : s.inhibited = false) :
    s.topologyChange = s.abandon.takeUp true 1 := by
  unfold State.topologyChange
  rw [if_neg (by simp [off]), if_neg (by simp [free])]
  rfl

/-- A frame sent out of each identified end, where each has room. -/
theorem State.sendEach_room {f : ControlFrame} (room : ∀ e, s.identified e = true → (s.endUnit e).ControlRoom) :
    s.sendEach f = { s with
      end1 := if s.identified .end1 then s.end1.withControl f else s.end1
      end2 := if s.identified .end2 then s.end2.withControl f else s.end2 } := by
  cases h₁ : s.identified .end1 <;> cases h₂ : s.identified .end2
  · simp [State.sendEach, h₁, h₂]
  · rw [State.sendEach_one (e := .end2) h₂ h₁ (room _ h₂)]
    rfl
  · rw [State.sendEach_one (e := .end1) h₁ h₂ (room _ h₁)]
    rfl
  · rw [State.sendEach_both h₁ h₂ (room _ h₁) (room _ h₂)]
    rfl

/-- A topology change under inhibit: held in MISMATCH, and told to the neighbours (R54). -/
theorem State.topologyChange_held (off : s.bypass.state = .off) (on : s.inhibited = true)
    (room : ∀ e, s.identified e = true → (s.endUnit e).ControlRoom) : s.topologyChange =
      let alert : ControlFrame := .alert s.ownTag 1 true .mismatch
      let alerting : State := { s with
        end1 := if s.identified .end1 then s.end1.withControl alert else s.end1
        end2 := if s.identified .end2 then s.end2.withControl alert else s.end2 }
      if s.engine.state = .mismatch then { alerting with engine := { s.engine with cause := some .localCause } }
      else State.raiseBoth { alerting with
        candidate := none, engine := s.engine.leaving .mismatch (some .localCause) } .mismatch := by
  have held : s.topologyChange = s.holdChange := by
    unfold State.topologyChange
    rw [if_neg (by simp [off]), if_pos on]
  rw [held]
  unfold State.holdChange State.alertAll
  by_cases mismatch : s.engine.state = .mismatch
  · simp only [if_pos mismatch]
    rw [State.sendEach_room (s := { s with engine := { s.engine with cause := some .localCause } }) room]
    rfl
  · simp only [if_neg mismatch]
    rw [State.sendEach_room (by simpa using room)]
    rfl

/-- A node without an attempt of its own that inhibit turned on does not touch (R55). -/
theorem State.inhibitOn_quiet
    (h : s.engine.state = .quiet ∨ s.engine.state = .closed ∨ s.engine.state = .failed) : s.inhibitOn = s := by
  rcases h with h | h | h <;> simp [State.inhibitOn, h]

theorem State.inhibitOn_mismatch (h : s.engine.state = .mismatch) :
    s.inhibitOn = { s with engine := { s.engine with cause := some .localCause } } := by
  simp [State.inhibitOn, h]

/-- A node that is ALERTED or LEADING holds its change. -/
theorem State.inhibitOn_starter (h : s.engine.state = .alerted ∨ s.engine.state = .leading) :
    s.inhibitOn = s.enterMismatch .localCause := by
  rcases h with h | h <;> simp [State.inhibitOn, h]

/-- A relay turns its attempt back to the starter. -/
theorem State.inhibitOn_relay {k : AttemptContext} {e : EndId} (h : s.engine.state = .relaying)
    (context : s.engine.context = some k) (tally : k.tallyEnd = some e) (room : (s.endUnit e).ControlRoom) :
    s.inhibitOn = State.enterMismatch (s.modEnd e (EndUnit.withControl (.defer k.attempt s.ownTag))) .localCause := by
  simp only [State.inhibitOn, h, context, tally, State.sendControl_room room]

/-- Inhibit turned off takes up a held change of the node's own, and nothing else (R61). -/
theorem State.inhibitOff_held (h : s.engine.state = .mismatch) (cause : s.engine.cause = some .localCause) :
    s.inhibitOff = s.restart := if_pos ⟨h, cause⟩

theorem State.inhibitOff_free (h : s.engine.state ≠ .mismatch ∨ s.engine.cause ≠ some .localCause) :
    s.inhibitOff = s := if_neg (by tauto)

/-! ## The reply that follows (R158) -/

/-- A notice raised to both lanes stands beside a reply. -/
theorem State.reply_raiseBoth (s : State) (n : Notice) (l : LaneId) (r : Reply) :
    (s.raiseBoth n).reply l r = (s.reply l r).raiseBoth n := by
  have port : ∀ p : LanePort, { p.raise n with slot := .ready r } = LanePort.raise n { p with slot := .ready r } :=
    fun p => by
      unfold LanePort.raise
      split <;> rfl
  cases l <;>
    simp only [State.reply, State.raiseBoth, State.raise, State.modLane, State.setLane, State.lane, port]

/-- An engagement with the reply behind it. -/
theorem State.Engages.reply (h : s.Engages t) (l : LaneId) (r : Reply) : (s.reply l r).Engages (t.reply l r) := by
  obtain ⟨bypass, directory, candidate, engine, ends, lanes⟩ := h
  cases l with
  | laneA =>
    refine ⟨bypass, directory, candidate, engine, ends, fun m => ?_⟩
    cases m with
    | laneA => exact congrArg (fun p : LanePort => { p with slot := .ready r }) (lanes .laneA)
    | laneB => exact lanes .laneB
  | laneB =>
    refine ⟨bypass, directory, candidate, engine, ends, fun m => ?_⟩
    cases m with
    | laneA => exact lanes .laneA
    | laneB => exact congrArg (fun p : LanePort => { p with slot := .ready r }) (lanes .laneB)

/-- A change taken up with the reply behind it. -/
theorem State.TakesUp.reply {restart : Bool} {n : Nat} (h : s.TakesUp restart n t) (l : LaneId) (r : Reply) :
    (s.reply l r).TakesUp restart n (t.reply l r) := by
  obtain ⟨middle, extremity, lone⟩ := h
  refine ⟨fun h₁ h₂ r₁ r₂ => ?_, fun e h k room => ?_, fun h₁ h₂ own => ?_⟩
  · rw [middle (by cases l <;> exact h₁) (by cases l <;> exact h₂) (by cases l <;> exact r₁)
      (by cases l <;> exact r₂)]
    cases l <;> rfl
  · rw [extremity e (by cases l <;> cases e <;> exact h) (by cases l <;> cases e <;> exact k)
      (by cases l <;> cases e <;> exact room)]
    cases l <;> cases e <;> rfl
  · obtain ⟨engine, candidate, generation, entries, told⟩ :=
      lone (by cases l <;> exact h₁) (by cases l <;> exact h₂) (by cases l <;> exact own)
    refine ⟨?_, ?_, ?_, ?_, fun m => ?_⟩
    · cases l <;> exact engine
    · cases l <;> exact candidate
    · cases l <;> exact generation
    · cases l <;> exact entries
    · cases l <;> cases m <;> first | exact told .laneA | exact told .laneB

/-! ## ATTACH, DETACH and SET-VOTES (R47, R48, R159 to R161) -/

/-- The bytes of three votes are read as they are. -/
theorem decodeVotes_boolBytes (v : Votes) :
    decodeVotes [boolByte v.inhibit, boolByte v.claim, boolByte v.bypass] = some v := by
  obtain ⟨inhibit, claim, bypass⟩ := v
  cases inhibit <;> cases claim <;> cases bypass <;> rfl

theorem byteBool_range {b : Byte} (h : 1 < b.toNat) : byteBool b = none := by
  unfold byteBool
  rw [if_neg (by rintro rfl; simp at h), if_neg (by rintro rfl; simp at h)]

/-- A body of another length, or with a byte that is neither yes nor no, names no votes. -/
theorem decodeVotes_none {body : List Byte} (h : body.length ≠ 3 ∨ ∃ b ∈ body, 1 < b.toNat) :
    decodeVotes body = none := by
  unfold decodeVotes
  split
  · next i c b =>
    obtain ⟨d, member, large⟩ := h.resolve_left (by simp)
    have none_ := byteBool_range large
    simp only [List.mem_cons, List.not_mem_nil, or_false] at member
    rcases member with rfl | rfl | rfl
    · simp [none_]
    · cases byteBool i <;> simp [none_]
    · cases byteBool i <;> cases byteBool c <;> simp [none_]
  · rfl

/-- The effective values of a lane and the other one, whichever it is. -/
theorem effectiveVotes_lanes (s : State) (l : LaneId) (q : LanePort) :
    effectiveVotes (s.setLane l q).laneA (s.setLane l q).laneB = effectiveVotes q (s.lane l.other) := by
  have swap : ∀ p q vote, allAttached p q vote = allAttached q p vote := fun p q vote => by
    unfold allAttached
    rw [Bool.or_comm p.attached, Bool.and_right_comm]
  cases l with
  | laneA => rfl
  | laneB =>
    change effectiveVotes s.laneA q = effectiveVotes q s.laneA
    unfold effectiveVotes
    rw [swap, swap s.laneA, Bool.or_comm]

/-- A request that replaces its lane's port and recombines. -/
def State.VoteChange (s : State) (l : LaneId) (c : Instr) (q : LanePort) : Prop :=
  let p := s.lane l
  (p.slot = .pending codeAttach [] ∧ c = .attach l ∧ p.attached = false ∧ q = { p with attached := true }) ∨
  (p.slot = .pending codeDetach [] ∧ c = .detach l ∧ p.attached = true ∧
    q = { p with attached := false, votes := Votes.none, sendQueue := [], receiveQueue := [] }) ∨
  ∃ v : Votes, p.slot = .pending codeSetVotes [boolByte v.inhibit, boolByte v.claim, boolByte v.bypass] ∧
    c = .setVotes l ∧ p.attached = true ∧
    q = { p with votes := { v with claim := v.claim && s.store.working.kind == .cab } }

/-- Such a request: the port is replaced, the votes recombine, and it is answered DONE. -/
theorem State.VoteChange.exec {c : Instr} {q : LanePort} (h : s.VoteChange l c q) :
    exec c s = .next ((s.setLane l q).recombine.reply l (Reply.bare .done)) := by
  rcases h with ⟨slot, rfl, away, rfl⟩ | ⟨slot, rfl, here, rfl⟩ | ⟨v, slot, rfl, here, rfl⟩
  · have attached : s.attachLane l = (s.setLane l { s.lane l with attached := true }).recombine :=
      if_neg (by simp [away])
    rw [← attached]
    exact congrArg Host.Outcome.next (State.handle_pending slot)
  · have detached : s.detachRequest l = (s.setLane l (s.lane l).detached).recombine := if_pos here
    change _ = Host.Outcome.next ((s.setLane l (s.lane l).detached).recombine.reply l _)
    rw [← detached]
    exact congrArg Host.Outcome.next (State.handle_pending slot)
  · refine congrArg Host.Outcome.next ((State.handleAttached_attached slot here).trans ?_)
    rw [withBody_some (decodeVotes_boolBytes v)]
    rfl

end Sys2Proof.Machine

open Sys2Proof Sys2Proof.Machine in
/-- Settles O54: by which of the effective values the recombination changes. -/
theorem votesRecombine : Obligations.VotesRecombine := by
  refine ⟨?_, ?_, ?_⟩
  · intro s l p answer
    refine ⟨fun slot here => ?_, fun slot away => ?_, fun body bad => ⟨fun slot => ?_, fun slot => ?_⟩⟩
    · have stays : s.attachLane l = s := if_pos here
      refine congrArg Host.Outcome.next ((State.handle_pending slot).trans ?_)
      rw [noBody_nil, stays]
      rfl
    · have stays : s.detachRequest l = s := if_neg (by simpa [p] using away)
      refine congrArg Host.Outcome.next ((State.handle_pending slot).trans ?_)
      rw [noBody_nil, stays]
      rfl
    · refine congrArg Host.Outcome.next ((State.handle_pending slot).trans ?_)
      rw [noBody_bad bad]
      rfl
    · refine congrArg Host.Outcome.next ((State.handle_pending slot).trans ?_)
      rw [noBody_bad bad]
      rfl
  · intro s l body slot answer
    refine ⟨fun away => congrArg Host.Outcome.next (State.handleAttached_detached slot away), fun here bad => ?_⟩
    refine congrArg Host.Outcome.next ((State.handleAttached_attached slot here).trans ?_)
    rw [withBody_none (decodeVotes_none bad)]
    rfl
  · intro s l c q p o every effective ready change was g voted freed mismatched
    have runs := State.VoteChange.exec (s := s) (l := l) (c := c) (q := q) change
    let y := s.setLane l q
    let v := y.withVotes effective
    have given : v = y.withVotes (effectiveVotes y.laneA y.laneB) := by rw [effectiveVotes_lanes]; rfl
    have before : y.engine.effective = was := by cases l <;> rfl
    have engine : v.engine = g := by cases l <;> rfl
    have answered : v.reply l (Reply.bare .done) = voted := by cases l <;> rfl
    have bypass : v.bypass = s.bypass := by cases l <;> rfl
    have ends : ∀ e, v.endUnit e = s.endUnit e := fun e => by cases l <;> cases e <;> rfl
    have own : v.ownTag = s.ownTag := by cases l <;> rfl
    have mismatches : ∀ t : State, t.engine = g →
        (t.enterMismatch .localCause).reply l (Reply.bare .done) = mismatched (t.reply l (Reply.bare .done)) :=
      fun t ht => by
        unfold State.enterMismatch State.abandon
        dsimp only
        rw [State.reply_raiseBoth, ht]
        cases l <;> rfl
    have inhibit : v.inhibited = effective.inhibit := congrArg (fun g => g.effective.inhibit) engine
    have taken : v.inhibited = false → ∃ t, Host.Outcome.next ((v.abandon.takeUp true 1).reply l (Reply.bare .done)) =
        Host.Outcome.next (φ := Fault) (ρ := Refusal) t ∧ freed.TakesUp true 1 t := fun free => by
      refine ⟨_, rfl, ?_⟩
      have up := (State.takeUp_takesUp (s := v.abandon) free true 1).reply l (Reply.bare .done)
      cases l <;> exact up
    rw [runs]
    refine ⟨⟨_, rfl, ?_⟩, fun same => ?_, fun no yes off => ⟨_, rfl, ?_⟩, fun bypassed claim inhibited => ?_,
      fun bypassed claimed => ?_, fun bypassed claim => ⟨fun no yes => ?_, fun yes no => ?_⟩⟩
    · have stands := State.recombine_laneStands y l
      have port : y.lane l = q := State.lane_setLane_self s l q
      rw [State.LaneStands, port] at stands
      have values := State.recombine_engine given
      rw [engine] at values
      unfold State.reply
      rw [State.lane_modLane_self]
      exact ⟨by cases l <;> exact values, stands.attached, stands.votes, rfl⟩
    · rw [State.recombine_same given (by rw [before, engine]; exact same), answered]
    · rw [State.recombine_engages given (by rw [before]; exact no) (by rw [engine]; exact yes) (by rw [bypass]; exact off),
        ← answered]
      exact v.engages_engage.reply l _
    · rw [State.recombine_bypass given (by rw [before, engine]; exact bypassed) (by rw [before, engine]; exact claim)
        (by rw [before, engine]; exact inhibited)]
      unfold State.bypassRequestChanged
      rw [engine, bypass]
      refine ⟨fun yes away => ?_, fun no => ?_⟩
      · rw [if_pos yes, if_neg away, answered]
      · have may : v.mayRelease = true ↔
            s.bypass.state = .engaged ∧ s.bypass.startUpComplete = true ∧ s.bypass.latched = .none := by
          unfold State.mayRelease
          rw [engine, bypass]
          simp [g, no, and_assoc]
        rw [if_neg (by simp [g, no])]
        unfold State.testRelease
        by_cases release : v.mayRelease = true
        · rw [if_pos release, if_pos (may.1 release), ← answered, bypass]
          cases l <;> rfl
        · rw [if_neg release, if_neg (may.not.1 release), answered]
    · rw [State.recombine_claim given (by rw [before, engine]; exact bypassed) (by rw [before, engine]; exact claimed)]
      refine ⟨fun away => ?_, fun off free => ?_, fun off on room => ?_⟩
      · have stays : v.topologyChange = v := if_pos (by rw [bypass]; exact away)
        rw [stays, answered]
      · rw [State.topologyChange_takeUp (by rw [bypass]; exact off) (by rw [inhibit]; exact free)]
        exact taken (by rw [inhibit]; exact free)
      · have identified : ∀ e, v.identified e = s.identified e := fun e => by unfold State.identified; rw [ends]
        intro told alerting
        rw [State.topologyChange_held (by rw [bypass]; exact off) (by rw [inhibit]; exact on)
          (fun e h => by rw [ends]; exact room e (by rwa [identified] at h)), identified, identified, own, engine]
        by_cases mismatch : g.state = .mismatch
        · simp only [if_pos mismatch]
          cases l <;> rfl
        · simp only [if_neg mismatch]
          rw [State.reply_raiseBoth]
          cases l <;> rfl
    · rw [State.recombine_inhibit given (by rw [before, engine]; exact bypassed) (by rw [before, engine]; exact claim)
        (by rw [before, engine]; simp [no, g, yes]), if_pos (by rw [engine]; exact yes)]
      refine ⟨fun quiet => ?_, fun mismatch => ?_, fun starts => ?_, fun k e relays context tally room => ?_⟩
      · rw [State.inhibitOn_quiet (by rwa [engine]), answered]
      · rw [State.inhibitOn_mismatch (by rwa [engine]), engine]
        cases l <;> rfl
      · rw [State.inhibitOn_starter (by rwa [engine]), mismatches v engine, answered]
      · rw [State.inhibitOn_relay (by rwa [engine]) (by rwa [engine]) tally (by rwa [ends]),
          mismatches _ (by rw [State.engine_modEnd, engine]), own, ← answered]
        cases l <;> cases e <;> rfl
    · rw [State.recombine_inhibit given (by rw [before, engine]; exact bypassed) (by rw [before, engine]; exact claim)
        (by rw [before, engine]; simp [no, g, yes]), if_neg (by rw [engine]; simp [g, no])]
      refine ⟨fun free => ?_, fun mismatch cause => ?_⟩
      · rw [State.inhibitOff_free (by rwa [engine]), answered]
      · rw [State.inhibitOff_held (by rwa [engine]) (by rwa [engine])]
        exact taken (by rw [inhibit]; exact no)
end

section
/-! PROOF. An end state decided again, said once: the end and the lanes behind it, and what the engine makes of the change. -/

namespace Sys2Proof.Machine

open Sys2Proof

variable {s t : State} {e : EndId} {n : Nat} {l : LaneId}

/-! ## The end and the lanes (R83, R86, R138) -/

/-- The node whose end state has been decided again, before the engine takes the change: the state, what a departing end loses,
and END-CHANGE. -/
def State.decided (e : EndId) (s : State) : State :=
  let old := (s.endUnit e).state
  let new := s.endStateOf e
  let heard := s.modEnd e (fun u => { u with state := new })
  let left := if old = .admitted ∧ new ≠ .admitted then heard.departed e else heard
  if old = new then left else left.raiseBoth .endChange

/-- A notice raised to both lanes and what a departing end loses come in either order. -/
theorem State.departed_raiseBoth (s : State) (e : EndId) (m : Notice) :
    (s.raiseBoth m).departed e = (s.departed e).raiseBoth m := by
  have port : ∀ (k : Nat) (f : LossCounters → LossCounters) (p : LanePort),
      (p.raise m).charged k f = (p.charged k f).raise m := fun k f p => by
    unfold LanePort.raise LanePort.charged
    split
    · rfl
    · split
      · rfl
      · simp only [BitVec.or_assoc, BitVec.or_comm m.mark]
  have ports : ∀ k j f, State.modEnd { s.raiseBoth m with
        laneA := (s.laneA.raise m).charged k f, laneB := (s.laneB.raise m).charged j f } e =
      State.modEnd { s.raiseBoth m with
        laneA := (s.laneA.charged k f).raise m, laneB := (s.laneB.charged j f).raise m } e := fun k j f => by
    rw [port, port]
  unfold State.departed
  dsimp only
  change State.modEnd { s.raiseBoth m with
    laneA := (s.laneA.raise m).charged _ _, laneB := (s.laneB.raise m).charged _ _ } e _ = _
  rw [ports]
  cases e <;> rfl

/-- The end state decided again is handed to the engine. -/
theorem State.decideEnd_eq (s : State) (e : EndId) (tag : Bool) :
    s.decideEnd e tag = (s.decided e).engineEndChange (s.endUnit e).state (s.endStateOf e) tag := by
  unfold State.decideEnd State.decided
  simp only [State.departurePurge_eq]
  by_cases same : (s.endUnit e).state = s.endStateOf e
  · simp only [if_neg (not_not.2 same), if_pos same]
  · by_cases departs : (s.endUnit e).state = .admitted ∧ s.endStateOf e ≠ .admitted
    · simp only [if_pos same, if_neg same, if_pos departs, State.departed_raiseBoth]
    · simp only [if_pos same, if_neg same, if_neg departs]

/-- What the end itself is then. -/
theorem State.decided_endUnit (s : State) (e : EndId) : (s.decided e).endUnit e =
    if (s.endUnit e).state = .admitted ∧ s.endStateOf e ≠ .admitted then
      { s.endUnit e with
        state := s.endStateOf e
        queues := { EndQueues.empty with control := (s.endUnit e).queues.control }
        counters := { (s.endUnit e).counters with
          noAnswer := Nat.iterate satInc ((s.endUnit e).records.countP DataRecord.isThrough)
            (s.endUnit e).counters.noAnswer } }
    else { s.endUnit e with state := s.endStateOf e } := by
  have raised : ∀ (p : Prop) [Decidable p] (r : State), (if p then r else r.raiseBoth .endChange).endUnit e =
      r.endUnit e := fun p _ r => by split <;> simp
  unfold State.decided
  dsimp only
  rw [raised]
  split <;> cases e <;> rfl

theorem State.decided_other (s : State) (e : EndId) : (s.decided e).endUnit e.other = s.endUnit e.other := by
  have raised : ∀ (p : Prop) [Decidable p] (r : State), (if p then r else r.raiseBoth .endChange).endUnit e.other =
      r.endUnit e.other := fun p _ r => by split <;> simp
  unfold State.decided
  dsimp only
  rw [raised]
  split <;> cases e <;> rfl

/-- What each lane is then: the losses of a departing end, and END-CHANGE where the end changes state. -/
theorem State.decided_lane (s : State) (e : EndId) (l : LaneId) : (s.decided e).lane l =
    let lost := if (s.endUnit e).state = .admitted ∧ s.endStateOf e ≠ .admitted then
      (s.endUnit e).records.countP (DataRecord.isOf l) else 0
    let p := (s.lane l).charged lost LossCounters.addLinkDown
    if (s.endUnit e).state = s.endStateOf e then p else p.raise .endChange := by
  have raised : ∀ (p : Prop) [Decidable p] (r : State), (if p then r else r.raiseBoth .endChange).lane l =
      if p then r.lane l else (r.lane l).raise .endChange := fun p _ r => by split <;> simp
  have left : (if (s.endUnit e).state = .admitted ∧ s.endStateOf e ≠ .admitted then
      State.departed e (s.modEnd e (fun u => { u with state := s.endStateOf e }))
      else s.modEnd e (fun u => { u with state := s.endStateOf e })).lane l =
      (s.lane l).charged (if (s.endUnit e).state = .admitted ∧ s.endStateOf e ≠ .admitted then
        (s.endUnit e).records.countP (DataRecord.isOf l) else 0) LossCounters.addLinkDown := by
    split <;> cases e <;> cases l <;> rfl
  unfold State.decided
  dsimp only
  rw [raised, left]

theorem State.decided_core (s : State) (e : EndId) : s.CoreFrame (s.decided e) := by
  have moved := (State.CoreFrame.refl s).modEnd (e := e) (f := fun u => { u with state := s.endStateOf e })
  have left : s.CoreFrame (if (s.endUnit e).state = .admitted ∧ s.endStateOf e ≠ .admitted then
      State.departed e (s.modEnd e (fun u => { u with state := s.endStateOf e }))
      else s.modEnd e (fun u => { u with state := s.endStateOf e })) := by
    split
    · rw [← State.departurePurge_eq]
      exact moved.trans ((State.EndFrame.refl e _).departurePurge).core
    · exact moved
  unfold State.decided
  dsimp only
  split
  · exact left
  · exact left.raiseBoth

theorem State.decided_state (s : State) (e : EndId) : ((s.decided e).endUnit e).state = s.endStateOf e := by
  rw [State.decided_endUnit]
  split <;> rfl

theorem State.decided_identified (s : State) (e : EndId) :
    (s.decided e).identified e = (s.endStateOf e).identified := congrArg EndState.identified (s.decided_state e)

theorem State.decided_identified_other (s : State) (e : EndId) :
    (s.decided e).identified e.other = s.identified e.other :=
  congrArg (fun u => u.state.identified) (s.decided_other e)

/-- A change of the end state is announced to both lanes (R86). -/
theorem State.decided_endChange (changed : (s.endUnit e).state ≠ s.endStateOf e) (l : LaneId) :
    ((s.decided e).lane l).notices &&& Notice.endChange.mark = Notice.endChange.mark := by
  rw [State.decided_lane]
  simp only [if_neg changed]
  rw [LanePort.raise, if_neg (by decide), BitVec.or_comm, BitVec.and_comm]
  exact and_or_absorb _ _

/-! ## What the engine makes of it (R24, R27; log 8, log 51) -/

theorem State.engineEndChange_changes {old new : EndState} {tag : Bool}
    (h : tag = true ∨ (new = .unadmitted ∧ old ≠ .unadmitted) ∨ (old = .admitted ∧ new ≠ .admitted)) :
    s.engineEndChange old new tag = s.topologyChange := if_pos h

theorem State.engineEndChange_stays {old new : EndState} {tag : Bool}
    (h : ¬ (tag = true ∨ (new = .unadmitted ∧ old ≠ .unadmitted) ∨ (old = .admitted ∧ new ≠ .admitted)))
    (k : s.engine.state ≠ .alerted ∨ old.identified = new.identified) : s.engineEndChange old new tag = s := by
  unfold State.engineEndChange
  rw [if_neg h, if_neg (by tauto)]

theorem State.engineEndChange_engineFrame (s : State) (old new : EndState) (tag : Bool) :
    s.EngineFrame (s.engineEndChange old new tag) := by
  unfold State.engineEndChange
  split
  · exact (State.EngineFrame.refl s).topologyChange
  · split
    · exact (State.EngineFrame.refl s).actAlerted
    · exact .refl s

/-! ## The engine of a node that takes a change up -/

theorem State.startTally_engine (s : State) (e : EndId) :
    (s.startTally e).engine.state = .leading ∧ (s.startTally e).engine.count = s.engine.count := by
  have sent : ∀ f, (s.sendControl e f).engine = s.engine := fun f => ((State.CoreFrame.refl s).sendControl).engine
  refine ⟨rfl, ?_⟩
  unfold State.startTally
  dsimp only
  rw [sent]

theorem State.selfCommit_engine (s : State) :
    s.selfCommit.engine.state = .quiet ∧ s.selfCommit.engine.count = s.engine.count := by
  refine ⟨rfl, ?_⟩
  unfold State.selfCommit
  dsimp only
  split
  · change (s.commitList _ _ _).engine.count = _
    rw [(s.commitList_spec _ _ _).2.2.2.1]
  · rfl

/-- An ALERTED node with inhibit off: it waits as a middle node, leads as an extremity, and is QUIET alone. -/
theorem State.enterAlerted_engine (free : s.inhibited = false) (e : EndId) :
    s.enterAlerted.engine.count = s.engine.count ∧ s.enterAlerted.engine.state =
      (if s.identified e = true then if s.identified e.other = true then .alerted else .leading
        else if s.identified e.other = true then .leading else .quiet) := by
  let q : State := { s with engine := { s.engine with state := .alerted, deadline := deadlineStarted, cause := none } }
  have free : q.inhibited = false := free
  have ends : ∀ d, q.identified d = s.identified d := fun d => by cases d <;> rfl
  have enters : s.enterAlerted = q.actAlerted := rfl
  rw [enters]
  by_cases near : s.identified e = true <;> by_cases far : s.identified e.other = true
  · obtain ⟨h₁, h₂⟩ := State.both_identified near far
    rw [State.actAlerted_middle (s := q) h₁ h₂, if_pos near, if_pos far]
    exact ⟨rfl, rfl⟩
  · rw [State.actAlerted_extremity (s := q) (e := e) free (by rwa [ends]) (by rw [ends]; simpa using far), if_pos near,
      if_neg far]
    exact ⟨(q.startTally_engine e).2, (q.startTally_engine e).1⟩
  · rw [State.actAlerted_extremity (s := q) (e := e.other) free (by rwa [ends])
      (by rw [ends, EndId.other_other]; simpa using near), if_neg near, if_pos far]
    exact ⟨(q.startTally_engine _).2, (q.startTally_engine _).1⟩
  · have alone : q.actAlerted = q.selfCommit := by
      have none_ : ∀ d, q.identified d = false := fun d => by
        rcases EndId.eq_or_other e d with rfl | rfl
        · rw [ends]; simpa using near
        · rw [ends]; simpa using far
      unfold State.actAlerted
      rw [if_neg (by simp [free]), none_, none_]
    rw [alone, if_neg near, if_neg far]
    exact ⟨q.selfCommit_engine.2, q.selfCommit_engine.1⟩

/-- A change taken up gives the engine its count and the state of its ends. -/
theorem State.takeUp_engine (free : s.inhibited = false) (restart : Bool) (n : Nat) (e : EndId) :
    (s.takeUp restart n).engine.count = n ∧ (s.takeUp restart n).engine.state =
      (if s.identified e = true then if s.identified e.other = true then .alerted else .leading
        else if s.identified e.other = true then .leading else .quiet) := by
  let q := s.setCount n
  have alerted : q.CoreFrame (q.alertAll restart .alerted) := (State.CoreFrame.refl q).alertAll
  have framed : q.EngineFrame (q.alertAll restart .alerted) := (State.EngineFrame.refl q).alertAll
  have ends : ∀ d, (q.alertAll restart .alerted).identified d = s.identified d := fun d => by
    have same := congrArg EndState.identified (framed.sameState d)
    exact same.trans (State.identified_setCount s n d)
  unfold State.takeUp
  split
  · next alone =>
    rw [State.lone_eq _ e] at alone
    simp only [State.identified_setCount, Bool.and_eq_true, Bool.not_eq_true'] at alone
    rw [alone.1, alone.2]
    exact ⟨q.selfCommit_engine.2, q.selfCommit_engine.1⟩
  · have free : (q.alertAll restart .alerted).inhibited = false := by
      unfold State.inhibited
      rw [alerted.engine]
      exact free
    obtain ⟨count, state⟩ := State.enterAlerted_engine free e
    rw [ends, ends] at state
    exact ⟨count.trans (congrArg Engine.count alerted.engine), state⟩

/-- A topology change held under inhibit: MISMATCH with cause LOCAL, and the count kept (R54). -/
theorem State.topologyChange_holds (off : s.bypass.state = .off) (on : s.inhibited = true) :
    s.topologyChange.engine.state = .mismatch ∧ s.topologyChange.engine.cause = some .localCause ∧
    s.topologyChange.engine.count = s.engine.count ∧ s.topologyChange.directory = s.directory ∧
    (s.engine.state ≠ .mismatch → s.topologyChange.candidate = none ∧
      s.topologyChange.engine = s.engine.leaving .mismatch (some .localCause) ∧
      ∀ l, (s.topologyChange.lane l).notices &&& Notice.mismatch.mark = Notice.mismatch.mark) := by
  have alerts : ∀ q : State, q.CoreFrame (q.alertAll true .mismatch) := fun q => (State.CoreFrame.refl q).alertAll
  have held : s.topologyChange = s.holdChange := by
    unfold State.topologyChange
    rw [if_neg (by simp [off]), if_pos on]
  rw [held]
  unfold State.holdChange
  by_cases mismatch : s.engine.state = .mismatch
  · simp only [if_pos mismatch]
    rw [(alerts _).engine, (alerts _).directory]
    exact ⟨mismatch, rfl, rfl, rfl, fun h => absurd mismatch h⟩
  · simp only [if_neg mismatch]
    rw [(alerts _).engine, (alerts _).directory, (alerts _).candidate]
    exact ⟨rfl, rfl, rfl, rfl, fun _ => ⟨rfl, rfl,
      fun l => (alerts _).toSteady.mark (State.mark_raiseBoth _ (by decide) l)⟩⟩

end Sys2Proof.Machine
end

section
/-! PROOF. What recentres given up leave of an end, an end without an ACTIVE line whose lines change, and the ends of a
release and of an engagement. -/

namespace Sys2Proof.Machine

open Sys2Proof

variable {s t : State} {u v w : EndUnit} {e : EndId} {x y : LineId} {l : LaneId}

/-! ## Recentres and peers given up (R78, R82) -/

theorem HeldFrame.messagesOf_orphan (l : LaneId) (x : LineId) (f : HeldFrame) :
    (f.orphan x).messagesOf l = f.messagesOf l := by cases f <;> rfl

/-- What a change of the lines of an end leaves of it: its inputs, its state, its counters, its class records, all of its
sender but for the mark of a PATTERN-REQUEST it holds, and that it knows no peer. -/
structure EndUnit.KeepsTraffic (u v : EndUnit) : Prop where
  sense : v.sense = u.sense
  state : v.state = u.state
  counters : v.counters = u.counters
  records : v.records = u.records
  sender : v.sender = { u.sender with frame := v.sender.frame }
  frame : v.sender.frame = none ↔ u.sender.frame = none
  held : ∀ l, v.heldOf l = u.heldOf l
  peer : u.peer = none → v.peer = none
  receiver : u.receiver = none → v.receiver = none

/-- The giving up of recentres and of the peer leaves the states and holds of its lines too. -/
structure EndUnit.Eases (u v : EndUnit) : Prop extends u.KeepsTraffic v where
  lines : ∀ x, (v.line x).state = (u.line x).state ∧ (v.line x).holdTimer = (u.line x).holdTimer

theorem EndUnit.KeepsTraffic.refl (u : EndUnit) : u.KeepsTraffic u :=
  ⟨rfl, rfl, rfl, rfl, rfl, Iff.rfl, fun _ => rfl, id, id⟩

theorem EndUnit.KeepsTraffic.trans (h : u.KeepsTraffic v) (k : v.KeepsTraffic w) : u.KeepsTraffic w where
  sense := k.sense.trans h.sense
  state := k.state.trans h.state
  counters := k.counters.trans h.counters
  records := k.records.trans h.records
  sender := by rw [k.sender, h.sender]
  frame := k.frame.trans h.frame
  held l := (k.held l).trans (h.held l)
  peer := k.peer ∘ h.peer
  receiver := k.receiver ∘ h.receiver

theorem EndUnit.KeepsTraffic.modLine (h : u.KeepsTraffic v) {f : LineUnit → LineUnit} :
    u.KeepsTraffic (v.modLine x f) :=
  h.trans (by cases x <;> exact ⟨rfl, rfl, rfl, rfl, rfl, Iff.rfl, fun _ => rfl, id, id⟩)

theorem EndUnit.Eases.refl (u : EndUnit) : u.Eases u := ⟨.refl u, fun _ => ⟨rfl, rfl⟩⟩

theorem EndUnit.Eases.trans (h : u.Eases v) (k : v.Eases w) : u.Eases w :=
  ⟨h.toKeepsTraffic.trans k.toKeepsTraffic, fun x =>
    ⟨(k.lines x).1.trans (h.lines x).1, (k.lines x).2.trans (h.lines x).2⟩⟩

theorem EndUnit.Eases.abandonRecentre (h : u.Eases v) : u.Eases (v.abandonRecentre x) := by
  unfold EndUnit.abandonRecentre
  split
  · exact h
  · have unmarked : v.Eases (v.modLine x (fun n =>
        { n with recentre := .none, record := { n.record with lastRecentre := .abandoned } })) :=
      ⟨(EndUnit.KeepsTraffic.refl v).modLine, fun y => by cases x <;> cases y <;> exact ⟨rfl, rfl⟩⟩
    refine (h.trans unmarked).trans
      ⟨⟨rfl, rfl, rfl, rfl, rfl, by simp, fun l => ?_, id, id⟩, fun y => by cases y <;> exact ⟨rfl, rfl⟩⟩
    unfold EndUnit.heldOf
    simp only [EndUnit.sender_modLine]
    cases v.sender.frame with
    | none => rfl
    | some f => exact HeldFrame.messagesOf_orphan l x f

theorem EndUnit.Eases.abandonWithoutPartner (h : u.Eases v) : u.Eases (v.abandonWithoutPartner x) := by
  unfold EndUnit.abandonWithoutPartner
  split
  · exact h.abandonRecentre
  · exact h

theorem EndUnit.Eases.forgetPeer (h : u.Eases v) : u.Eases v.forgetPeer := by
  unfold EndUnit.forgetPeer
  split
  · exact h
  · exact h.trans ⟨⟨rfl, rfl, rfl, rfl, rfl, Iff.rfl, fun _ => rfl, fun _ => rfl, fun _ => rfl⟩,
      fun x => by cases x <;> exact ⟨rfl, rfl⟩⟩

/-- What follows a change of the lines at the end itself, before its sender and its state. -/
def EndUnit.afterLines (u : EndUnit) : EndUnit :=
  ((u.abandonWithoutPartner .lineA).abandonWithoutPartner .lineB).forgetPeer

theorem EndUnit.eases_afterLines (u : EndUnit) : u.Eases u.afterLines :=
  (EndUnit.Eases.refl u).abandonWithoutPartner.abandonWithoutPartner.forgetPeer

theorem State.afterLines_eq (s : State) (e : EndId) :
    s.afterLines e = ((s.modEnd e EndUnit.afterLines).senderAfterLines e).decideEnd e false := rfl

theorem EndUnit.anyActive_iff : u.anyActive = true ↔ ∃ x, (u.line x).state = .active := by
  simp only [EndUnit.anyActive, Bool.or_eq_true, LineUnit.isActive, beq_iff_eq]
  exact ⟨fun h => h.elim (fun a => ⟨.lineA, a⟩) (fun b => ⟨.lineB, b⟩), fun ⟨x, h⟩ => by
    cases x
    · exact .inl h
    · exact .inr h⟩

theorem EndUnit.anyActive_false : u.anyActive = false ↔ ∀ x, (u.line x).state ≠ .active := by
  rw [← Bool.not_eq_true, EndUnit.anyActive_iff, not_exists]

theorem EndUnit.Eases.anyActive (h : u.Eases v) : v.anyActive = u.anyActive := by
  rw [Bool.eq_iff_iff, EndUnit.anyActive_iff, EndUnit.anyActive_iff]
  exact exists_congr fun x => by rw [(h.lines x).1]

/-- An end without an ACTIVE line is COUPLING or OPEN (R83). -/
theorem State.endStateOf_inactive (h : (s.endUnit e).anyActive = false) : s.endStateOf e =
    if s.bypass.state = .off ∧ ((s.endUnit e).sense = true ∨ (s.line e .lineA).state ≠ .dark ∨
      (s.line e .lineB).state ≠ .dark) then .coupling else .opened := by
  have past : ((s.endUnit e).sense || (s.endUnit e).lineA.pastDark || (s.endUnit e).lineB.pastDark) = true ↔
      (s.endUnit e).sense = true ∨ (s.line e .lineA).state ≠ .dark ∨ (s.line e .lineB).state ≠ .dark := by
    simp only [Bool.or_eq_true, LineUnit.pastDark, bne_iff_ne, or_assoc]
    rfl
  unfold State.endStateOf
  dsimp only
  by_cases off : s.bypass.state = .off
  · simp only [off, ne_eq, not_true, if_false, h, Bool.false_eq_true, true_and, past]
  · simp only [off, ne_eq, not_false_eq_true, if_true, false_and, if_false]

theorem State.endStateOf_inactive_identified (h : (s.endUnit e).anyActive = false) :
    (s.endStateOf e).identified = false := by
  rw [State.endStateOf_inactive h]
  split <;> rfl

/-! ## An end with nothing on its lines -/

/-- An end without an ACTIVE line, a frame in its sender, or an identified peer. -/
structure EndUnit.Uncoupled (u : EndUnit) : Prop where
  lines : u.anyActive = false
  frame : u.sender.frame = none
  state : u.state.identified = false

/-- What a change of the lines of such an end comes to: its state is decided again, and the engine has no part in it. -/
theorem State.afterLines_uncoupled (h : (s.endUnit e).Uncoupled) :
    s.CoreFrame (s.afterLines e) ∧ ((s.afterLines e).endUnit e).Uncoupled ∧
    (∀ x, ((s.afterLines e).line e x).state = (s.line e x).state) ∧
    (s.afterLines e).endUnit e.other = s.endUnit e.other := by
  let q := s.modEnd e EndUnit.afterLines
  have unit : q.endUnit e = (s.endUnit e).afterLines := State.endUnit_modEnd_self ..
  have eases := (s.endUnit e).eases_afterLines
  rw [← unit] at eases
  have lines : (q.endUnit e).anyActive = false := eases.anyActive.trans h.lines
  have frame : (q.endUnit e).sender.frame = none := eases.frame.2 h.frame
  have state : (q.endUnit e).state.identified = false := by rw [eases.state, h.state]
  have new := State.endStateOf_inactive_identified lines
  have settled : s.afterLines e = q.decided e := by
    have idle : q.senderAfterLines e = q := by
      unfold State.senderAfterLines State.endFrame
      simp only [lines, frame, Bool.not_false, if_true]
    rw [State.afterLines_eq, idle, State.decideEnd_eq]
    refine State.engineEndChange_stays ?_ (.inr (by rw [state, new]))
    rintro (h | ⟨h, -⟩ | ⟨h, -⟩)
    · exact absurd h (by decide)
    · rw [h] at new
      exact absurd new (by decide)
    · rw [h] at state
      exact absurd state (by decide)
  have after : (q.decided e).endUnit e = { q.endUnit e with state := q.endStateOf e } := by
    rw [State.decided_endUnit, if_neg]
    rintro ⟨h, -⟩
    rw [h] at state
    exact absurd state (by decide)
  rw [settled]
  refine ⟨(State.CoreFrame.refl s).modEnd.trans (q.decided_core e), ?_, fun x => ?_, ?_⟩
  · rw [after]
    exact ⟨lines, frame, new⟩
  · unfold State.line
    rw [after]
    refine Eq.trans ?_ (eases.lines x).1
    cases x <;> rfl
  · rw [State.decided_other]
    exact State.endUnit_modEnd_other ..

/-! ## A release that ends in OFF (R65, R145) -/

/-- The lines of an end that takes its inputs at OFF. -/
theorem EndUnit.takeInputs_line (settle : Nat) (u : EndUnit) (x : LineId) (dark : (u.line x).state = .dark) :
    ((u.takeInputs settle).line x).state = if u.sense && (u.line x).carrier then .settling else .dark := by
  have woken : (u.takeInputs settle).line x = (u.line x).wake settle u.sense := by cases x <;> rfl
  rw [woken]
  unfold LineUnit.wake
  by_cases coupled : (u.sense && (u.line x).carrier) = true
  · have both := Bool.and_eq_true_iff.1 coupled
    rw [if_pos ⟨dark, both.2, both.1⟩, if_pos coupled]
    rfl
  · rw [if_neg (fun h => coupled (by rw [h.2.2, h.2.1]; rfl)), if_neg coupled, dark]

theorem EndUnit.takeInputs_uncoupled (settle : Nat) (h : u.HeldOut) : (u.takeInputs settle).Uncoupled := by
  obtain ⟨darkA, darkB, state, -, -, frame, -, -⟩ := h
  have dark : ∀ x, (u.line x).state = .dark := fun x => by
    cases x
    · exact darkA
    · exact darkB
  refine ⟨EndUnit.anyActive_false.2 fun x => ?_, ?_, ?_⟩
  · rw [u.takeInputs_line settle x (dark x)]
    split <;> decide
  · simpa [EndUnit.takeInputs] using frame
  · simp [EndUnit.takeInputs, state, EndState.identified]

/-- The engine leaves the settings, the bypass and the notices. -/
theorem State.EngineFrame.steady (h : s.EngineFrame t) : s.Steady t := by
  obtain ⟨-, -, -, -, -, -, bypass, store⟩ := h.rest
  exact ⟨by rw [store], by rw [store]; exact id, by rw [bypass], h.marks⟩

/-- The entry of a node depends on what the engine and the store hold. -/
theorem State.CoreFrame.ownEntry (h : s.CoreFrame t) (k : Nat) (o : Orientation) : t.ownEntry k o = s.ownEntry k o := by
  unfold State.ownEntry
  rw [h.toSteady.ownTag, h.working, h.engine, h.directory]

/-- A topology change of a node that stands alone with inhibit off: it leaves with a directory of one (R26). -/
theorem State.topologyChange_alone (off : s.bypass.state = .off) (free : s.inhibited = false)
    (alone : ∀ e, s.identified e = false) (own : s.ownTag ≠ 0) :
    s.topologyChange.engine.state = .quiet ∧
    s.topologyChange.directory.generation = successor s.directory.generation ∧
    s.topologyChange.directory.entries = [(s.ownEntry 1 .direct).entry] := by
  rw [State.topologyChange_takeUp off free]
  obtain ⟨-, -, lone⟩ := State.takeUp_takesUp (s := s.abandon) free true 1
  obtain ⟨engine, -, generation, entries, -⟩ :=
    lone (by rw [State.identified_abandon, alone]) (by rw [State.identified_abandon, alone])
      (by rwa [State.ownTag_abandon])
  exact ⟨by rw [engine]; rfl, generation, entries⟩

/-- The end of a release of a node held out of the train: in OFF, its lines settling where they are coupled, its ends without
a peer. -/
theorem State.enterOff_held (out : s.HeldOut) (away : s.bypass.state ≠ .off) :
    ∃ r : State, s.enterOff = r.topologyChange ∧
      State.CoreFrame { s with bypass := { s.bypass with state := .off, transition := none } } r ∧
      r.bypass = { s.bypass with state := .off, transition := none } ∧
      (∀ e, r.identified e = false) ∧
      (∀ e x, (r.line e x).state = if (s.endUnit e).sense && (s.line e x).carrier then .settling else .dark) ∧
      ∀ l, (r.lane l).notices &&& Notice.bypassChange.mark = Notice.bypassChange.mark := by
  obtain ⟨-, held⟩ := out
  obtain ⟨⟨held₁, held₂⟩, -⟩ := held away
  let o : State := { s with bypass := { s.bypass with state := .off, transition := none } }
  let p := o.raiseBoth .bypassChange
  let q := (p.modEnd .end1 (EndUnit.takeInputs p.settleTime)).modEnd .end2 (EndUnit.takeInputs p.settleTime)
  have held : ∀ e, (s.endUnit e).HeldOut := fun e => by
    cases e
    · exact held₁
    · exact held₂
  have unit : ∀ e, q.endUnit e = (s.endUnit e).takeInputs p.settleTime := fun e => by cases e <;> rfl
  have uncoupled : ∀ e, (q.endUnit e).Uncoupled := fun e => by
    rw [unit]
    exact EndUnit.takeInputs_uncoupled _ (held e)
  have lines : ∀ e x, (q.line e x).state = if (s.endUnit e).sense && (s.line e x).carrier then .settling else .dark :=
    fun e x => by
      unfold State.line
      rw [unit]
      refine EndUnit.takeInputs_line _ _ x ?_
      obtain ⟨darkA, darkB, -⟩ := held e
      cases x
      · exact darkA
      · exact darkB
  obtain ⟨core₁, un₁, lines₁, other₁⟩ := State.afterLines_uncoupled (uncoupled .end1)
  have other₁ : (q.afterLines .end1).endUnit .end2 = q.endUnit .end2 := other₁
  have un₂ : ((q.afterLines .end1).endUnit .end2).Uncoupled := by
    rw [other₁]
    exact uncoupled .end2
  obtain ⟨core₂, un₂, lines₂, other₂⟩ := State.afterLines_uncoupled un₂
  have other₂ : ((q.afterLines .end1).afterLines .end2).endUnit .end1 = (q.afterLines .end1).endUnit .end1 := other₂
  have events : State.SameRest q ((q.afterLines .end1).afterLines .end2) :=
    ((State.EventFrame.refl .end1 q).afterLines.frame.1).trans ((State.EventFrame.refl .end2 _).afterLines.frame.1)
  have bypass : ((q.afterLines .end1).afterLines .end2).bypass = q.bypass := by
    obtain ⟨-, -, -, -, -, -, bypass, -⟩ := events
    exact bypass
  have core : p.CoreFrame ((q.afterLines .end1).afterLines .end2) :=
    ((State.CoreFrame.refl p).modEnd.modEnd.trans core₁).trans core₂
  refine ⟨(q.afterLines .end1).afterLines .end2, rfl, ((State.CoreFrame.refl o).raiseBoth).trans core, bypass,
    fun e => ?_, fun e x => ?_, fun l => core.toSteady.mark (State.mark_raiseBoth o (by decide) l)⟩
  · cases e with
    | end1 =>
      unfold State.identified
      rw [other₂]
      exact un₁.state
    | end2 => exact un₂.state
  · rw [← lines]
    cases e with
    | end1 =>
      unfold State.line
      rw [other₂]
      exact lines₁ x
    | end2 =>
      refine (lines₂ x).trans ?_
      unfold State.line
      rw [other₁]

end Sys2Proof.Machine

open Sys2Proof Sys2Proof.Machine in
/-- Settles O49: a release by what has turned it back and by inhibit, an engagement by the release conditions. -/
theorem bypassTransitsEnd : Obligations.BypassTransitsEnd := by
  refine ⟨fun s => ?_,
    fun s runs => ⟨fun releasing out fault asked => ?_, fun releasing back => ?_, fun engaging => ?_⟩⟩
  · cases h : s.bypass.state <;> simp [State.relayDriven, BypassState.drivesRelay, h]
  · have away : s.bypass.state ≠ .off := by simp [releasing]
    have ended : exec .releaseEnd s = .next s.enterOff := by
      have goes : s.releaseEnded = s.enterOff := if_neg (by simp [fault, asked])
      rw [← goes]
      exact congrArg Host.Outcome.next (if_pos ⟨releasing, runs⟩)
    obtain ⟨r, eq, core, bypass, alone, lines, told⟩ := State.enterOff_held out away
    obtain ⟨-, held⟩ := out
    obtain ⟨-, -, -, empty, candidate, quiet, -⟩ := held away
    have engine : r.engine = s.engine := core.engine
    have directory : r.directory = Directory.empty := core.directory.trans empty
    have off : r.bypass.state = .off := by rw [bypass]
    have frame : r.EngineFrame r.topologyChange := (State.EngineFrame.refl r).topologyChange
    rw [ended, eq]
    refine ⟨_, rfl, ?_, fun l => ?_, fun e x => ?_, fun free own => ?_, fun on => ?_⟩
    · obtain ⟨-, -, -, -, -, -, same, -⟩ := frame.rest
      rw [same, bypass]
    · exact frame.steady.mark (told l)
    · rw [(frame.sameUnit e).2.1 x]
      exact lines e x
    · have free : r.inhibited = false := by rwa [State.inhibited, engine]
      obtain ⟨state, generation, entries⟩ :=
        State.topologyChange_alone off free alone (by rwa [core.toSteady.ownTag])
      exact ⟨state, by rw [generation, directory]; rfl, by rw [entries, core.ownEntry]; rfl⟩
    · have on : r.inhibited = true := by rwa [State.inhibited, engine]
      obtain ⟨state, cause, -, same, -⟩ := State.topologyChange_holds off on
      exact ⟨state, cause, same.trans directory⟩
  · have ended : exec .releaseEnd s = .next s.engage := by
      have goes : s.releaseEnded = s.engage := if_pos back
      rw [← goes]
      exact congrArg Host.Outcome.next (if_pos ⟨releasing, runs⟩)
    exact ⟨_, ended, s.engages_engage⟩
  · have ended : exec .engageEnd s = .next s.engageEnded := congrArg Host.Outcome.next (if_pos ⟨engaging, runs⟩)
    rw [ended]
    have may : State.mayRelease { s with bypass := { s.bypass with state := .engaged, transition := none } } = true ↔
        s.bypass.startUpComplete = true ∧ s.bypass.latched = .none ∧ s.engine.effective.bypass = false := by
      simp [State.mayRelease, and_assoc]
    unfold State.engageEnded State.testRelease
    by_cases release : s.bypass.startUpComplete = true ∧ s.bypass.latched = .none ∧ s.engine.effective.bypass = false
    · rw [if_pos (may.2 release), if_pos release]
      rfl
    · rw [if_neg (may.not.2 release), if_neg release]
end

section
/-! PROOF. What a BEACON writes at its end, and what the end state decided on it sets off. -/

namespace Sys2Proof.Machine

open Sys2Proof

variable {s : State} {e : EndId} {x : LineId} {p : PeerId} {f : RawFrame}

/-! ## The end that has heard a BEACON (R72, R82, R93) -/

/-- The peer an end knows goes by another tag than the peer of a BEACON. -/
def EndUnit.otherTag (p : PeerId) (u : EndUnit) : Bool :=
  match u.peer with
  | some q => q.tag != p.tag
  | none => false

theorem EndUnit.otherTag_iff {u : EndUnit} : u.otherTag p = true ↔ ∃ q, u.peer = some q ∧ q.tag ≠ p.tag := by
  unfold EndUnit.otherTag
  cases u.peer <;> simp

/-- What the receiver record of an end comes to when a BEACON names its peer. -/
def EndUnit.receiverFor (p : PeerId) (u : EndUnit) : Option ReceiverRecord :=
  match u.peer with
  | some q => if q.tag = p.tag then u.receiver else none
  | none => u.receiver

theorem EndUnit.receiverFor_eq (u : EndUnit) :
    u.receiverFor p = if u.otherTag p = true then none else u.receiver := by
  unfold EndUnit.receiverFor EndUnit.otherTag
  cases u.peer <;> simp

/-- The node once a BEACON has named the peer, its end state not yet decided. -/
def State.heardBeacon (s : State) (e : EndId) (x : LineId) (p : PeerId) : State :=
  s.modEnd e (fun u =>
    { u.modLine x (fun n => { n with silenceTimer := some (4 * (s.store.working.beacon * 1000)) }) with
      peer := some p
      receiver := u.receiverFor p })

/-- All that a BEACON heard on an ACTIVE line does. -/
theorem exec_beacon (hears : s.Hears e x kindBeacon f) (body : decodeBeacon f.body = some p) :
    exec (.beacon e x f) s = .next ((s.heardBeacon e x p).decideEnd e
      ((s.endUnit e).otherTag p && (s.endUnit e).state.identified)) := by
  have taken : exec (.beacon e x f) s = .next ((s.restartSilence e x).takeBeacon e p) := by
    refine congrArg Host.Outcome.next ((State.arrive_heard _ hears).trans ?_)
    unfold State.takeUnanswered
    rw [body]
  have heard : (s.restartSilence e x).modEnd e (fun u =>
      { u with peer := some p, receiver := if (s.endUnit e).otherTag p = true then none else u.receiver }) =
      s.heardBeacon e x p := by
    simp only [State.heardBeacon, EndUnit.receiverFor_eq]
    cases e <;> cases x <;> rfl
  rw [taken, ← heard]
  cases e <;> cases x <;> rfl

/-- The state decided is that of the end with its peer named. -/
theorem State.endStateOf_heardBeacon : (s.heardBeacon e x p).endStateOf e =
    (s.modEnd e (fun u => { u with peer := some p })).endStateOf e := by
  cases e <;> cases x <;> rfl

theorem State.line_heardBeacon : (s.heardBeacon e x p).line e x =
      { s.line e x with silenceTimer := some (4 * (s.store.working.beacon * 1000)) } ∧
    (s.heardBeacon e x p).line e x.partner = s.line e x.partner := by
  cases e <;> cases x <;> exact ⟨rfl, rfl⟩

/-- An end state that is decided as it was changes nothing. -/
theorem State.decided_same (same : (s.endUnit e).state = s.endStateOf e) : s.decided e = s := by
  have still : s.modEnd e (fun u => { u with state := s.endStateOf e }) = s := by
    rw [← same]
    cases e <;> rfl
  unfold State.decided
  dsimp only
  rw [if_pos same, still, if_neg]
  rintro ⟨h, k⟩
  exact k (same ▸ h)

/-- In OFF an end with an ACTIVE line and a peer is identified (R83). -/
theorem State.endStateOf_identified (off : s.bypass.state = .off) (active : (s.line e x).state = .active)
    (named : (s.endUnit e).peer = some p) : (s.endStateOf e).identified = true := by
  unfold State.endStateOf
  have active : (s.endUnit e).anyActive = true := EndUnit.anyActive_iff.2 ⟨x, active⟩
  simp only [off, ne_eq, not_true, if_false, active, if_true, named]
  split <;> rfl

end Sys2Proof.Machine

open Sys2Proof Sys2Proof.Machine in
/-- Settles O36: the end state decided again, by what the engine makes of the change. -/
theorem beaconsNameThePeer : Obligations.BeaconsNameThePeer := by
  intro s e x f p hears body named silence
  let q := s.heardBeacon e x p
  let tag := (s.endUnit e).otherTag p && (s.endUnit e).state.identified
  have ran : exec (.beacon e x f) s = .next (q.decideEnd e tag) := exec_beacon hears body
  have unit : q.endUnit e = _ := State.endUnit_modEnd_self ..
  have old : (q.endUnit e).state = (s.endUnit e).state := by rw [unit]; cases x <;> rfl
  have new : q.endStateOf e = named.endStateOf e := State.endStateOf_heardBeacon
  have core : s.CoreFrame (q.decided e) := (State.CoreFrame.refl s).modEnd.trans (q.decided_core e)
  have flagged : tag = true ↔
      (s.endUnit e).state.identified = true ∧ ∃ q, (s.endUnit e).peer = some q ∧ q.tag ≠ p.tag := by
    rw [Bool.and_eq_true, EndUnit.otherTag_iff, and_comm]
  have result : q.decideEnd e tag =
      (q.decided e).engineEndChange (s.endUnit e).state (named.endStateOf e) tag := by
    rw [State.decideEnd_eq, old, new]
  have decided_off : s.bypass.state = .off → (q.decided e).bypass.state = .off := core.off.2
  have decided_inhibited : (q.decided e).inhibited = s.engine.effective.inhibit :=
    congrArg (·.effective.inhibit) core.engine
  rw [ran]
  refine ⟨⟨_, rfl, ?_⟩, fun same tags => ?_, fun off => ?_⟩
  · obtain ⟨⟨-, lines, peer, -, sender, receiver⟩, state⟩ := q.decideEnd_unit e tag
    rw [unit] at peer sender receiver
    refine ⟨peer, state.trans new, (lines x).trans State.line_heardBeacon.1,
      (lines _).trans State.line_heardBeacon.2, sender.trans (by cases x <;> rfl), receiver,
      fun identified other off free => ?_⟩
    have here : (q.decided e).identified e = true := by
      rw [State.decided_identified, new]
      exact State.endStateOf_identified (s := named) (x := x) (p := p) (by cases e <;> exact off)
        (by cases e <;> cases x <;> exact hears.1) (by cases e <;> rfl)
    have free : (q.decided e).inhibited = false := decided_inhibited.trans free
    rw [result, State.engineEndChange_changes (.inl (flagged.2 ⟨identified, other⟩)),
      State.topologyChange_takeUp (decided_off off) free]
    obtain ⟨count, taken⟩ := State.takeUp_engine (s := (q.decided e).abandon) free true 1 e
    refine ⟨count, ?_⟩
    rw [taken, State.identified_abandon, if_pos here]
    split
    · exact .inl rfl
    · exact .inr rfl
  · have kept : (s.endUnit e).otherTag p = false := by
      rw [← Bool.not_eq_true, EndUnit.otherTag_iff]
      rintro ⟨r, known, other⟩
      exact other (tags r known)
    have heard : q = named.modLine e x (fun n => { n with silenceTimer := silence }) := by
      have receiver : (s.endUnit e).receiverFor p = (s.endUnit e).receiver := by
        rw [EndUnit.receiverFor_eq, kept, if_neg Bool.false_ne_true]
      simp only [q, State.heardBeacon, State.modEnd, receiver]
      cases e <;> cases x <;> rfl
    rw [result, State.engineEndChange_stays (by simp [tag, kept, same]) (.inr (by rw [same])),
      State.decided_same (by rw [old, new, same]), heard]
  · intro old' new' otherTag heard left told change
    have toldEq : q.decided e = told := by
      have placed : q.modEnd e (fun u => { u with state := new' }) = heard := by cases e <;> cases x <;> rfl
      unfold State.decided
      dsimp only
      rw [old, new, placed]
    have abandoned : { told with candidate := none, engine := { s.engine with context := none } } =
        (q.decided e).abandon := by
      unfold State.abandon
      rw [core.engine, toldEq]
    have changes : change ↔
        tag = true ∨ (new' = .unadmitted ∧ old' ≠ .unadmitted) ∨ (old' = .admitted ∧ new' ≠ .admitted) := by
      rw [flagged]
      exact or_assoc.symm.trans (or_comm.trans (or_congr Iff.rfl (or_congr and_comm Iff.rfl)))
    refine ⟨fun changed free => ⟨_, rfl, ?_⟩, fun changed on away => ⟨_, rfl, ?_⟩, fun stays away => ?_⟩
    · have free : (q.decided e).inhibited = false := decided_inhibited.trans free
      rw [result, State.engineEndChange_changes (changes.1 changed),
        State.topologyChange_takeUp (decided_off off) free, abandoned]
      exact State.takeUp_takesUp (s := (q.decided e).abandon) free true 1
    · rw [result, State.engineEndChange_changes (changes.1 changed)]
      obtain ⟨-, -, -, -, held⟩ := State.topologyChange_holds (decided_off off) (decided_inhibited.trans on)
      have held := held (by rwa [core.engine])
      rwa [core.engine] at held
    · rw [result, State.engineEndChange_stays (changes.not.1 stays) (.inl (by rwa [core.engine])), toldEq]
end

section
/-! PROOF. What a line that falls silent leaves of its end, what a sender without its line does, and what the
end's departure sets off. -/

namespace Sys2Proof.Machine

open Sys2Proof

variable {s t : State} {u v w : EndUnit} {e : EndId} {x : LineId} {l : LaneId} {f : HeldFrame} {o : FrameOutcome}

/-! ## The line (R72, R78) -/

/-- The end whose line the silence timer has taken back, before its other lines, its sender and its state follow. -/
def EndUnit.silenced (x : LineId) (u : EndUnit) : EndUnit :=
  if (u.line x).carrier then u.enterTraining x .silent else u.enterDark x

/-- What a silent line is then. -/
def LineUnit.silenced (n : LineUnit) : LineUnit :=
  { n with
    state := if n.carrier then .training else .dark
    settleTimer := none, byRetrain := false, wantsSweep := n.carrier, pauseTimer := none,
    silenceTimer := none, holdTimer := none, beaconTimer := none, recentre := .none, tx := Transmitter.idle
    record := { n.record with
      cause := if n.carrier then .silent else n.record.cause
      sweeps := if n.carrier then 0 else n.record.sweeps
      lastRecentre := if n.recentre = .none then n.record.lastRecentre else .abandoned } }

theorem EndUnit.freeTrainer_line (u : EndUnit) (x y : LineId) : (u.freeTrainer x).line y = u.line y := by
  unfold EndUnit.freeTrainer
  split <;> cases y <;> rfl

theorem EndUnit.Eases.freeTrainer (h : u.Eases v) : u.Eases (v.freeTrainer x) := by
  unfold EndUnit.freeTrainer
  split
  · exact h.trans ⟨⟨rfl, rfl, rfl, rfl, rfl, Iff.rfl, fun _ => rfl, id, id⟩, fun x => by cases x <;> exact ⟨rfl, rfl⟩⟩
  · exact h

/-- A recentre of a line given up, on that line. -/
theorem EndUnit.abandonRecentre_line_self (u : EndUnit) (x : LineId) : (u.abandonRecentre x).line x =
    { u.line x with
      recentre := .none
      record := { (u.line x).record with
        lastRecentre := if (u.line x).recentre = .none then (u.line x).record.lastRecentre else .abandoned } } := by
  unfold EndUnit.abandonRecentre
  by_cases h : (u.line x).recentre = .none
  · simp only [if_pos h]
    rw [← h]
  · simp only [if_neg h]
    cases x <;> rfl

theorem EndUnit.silenced_line (u : EndUnit) (x : LineId) : (u.silenced x).line x = (u.line x).silenced := by
  unfold EndUnit.silenced LineUnit.silenced EndUnit.enterTraining EndUnit.enterDark EndUnit.lineTo
  split <;>
    simp [*, EndUnit.freeTrainer_line, EndUnit.abandonRecentre_line_self, LineUnit.leaveFor, LineUnit.startTraining]

theorem LineUnit.silenced_quiet (n : LineUnit) : n.silenced.Quiet :=
  ⟨by unfold LineUnit.silenced; dsimp only; split <;> decide, rfl, rfl⟩

/-- What follows the line leaves it. -/
theorem State.lineSilent_line (s : State) (e : EndId) (x : LineId) :
    (s.lineSilent e x).line e x = (s.line e x).silenced := by
  have line : (s.modEnd e (EndUnit.silenced x)).line e x = (s.line e x).silenced := by
    unfold State.line
    rw [State.endUnit_modEnd_self, EndUnit.silenced_line]
  have quiet : ((s.modEnd e (EndUnit.silenced x)).line e x).Quiet := by
    rw [line]
    exact LineUnit.silenced_quiet _
  exact (State.afterLines_quiet _ e x quiet).trans line

theorem EndUnit.silenced_partner (u : EndUnit) (x : LineId) : (u.silenced x).line x.partner = u.line x.partner := by
  have dark := u.enterDark_partner x
  unfold EndUnit.silenced EndUnit.enterTraining
  unfold EndUnit.enterDark EndUnit.lineTo at *
  split <;> simpa using dark

theorem EndUnit.silenced_keepsTraffic (u : EndUnit) (x : LineId) : u.KeepsTraffic (u.silenced x) := by
  have left : ∀ st, u.KeepsTraffic (u.lineTo x st) := fun st =>
    (((EndUnit.Eases.refl u).abandonRecentre (x := x)).freeTrainer (x := x)).toKeepsTraffic.modLine
  unfold EndUnit.silenced
  split
  · exact (left _).modLine
  · exact left _

/-- The end once its recentres and its peer have followed the line. -/
theorem EndUnit.silenced_afterLines (u : EndUnit) (x : LineId) :
    u.KeepsTraffic (u.silenced x).afterLines ∧
    (((u.silenced x).afterLines.line x).state = if (u.line x).carrier then .training else .dark) ∧
    ((u.silenced x).afterLines.line x.partner).state = (u.line x.partner).state ∧
    ((u.silenced x).afterLines.line x.partner).holdTimer = (u.line x.partner).holdTimer := by
  have eases := (u.silenced x).eases_afterLines
  refine ⟨(u.silenced_keepsTraffic x).trans eases.toKeepsTraffic, ?_, ?_, ?_⟩
  · rw [(eases.lines x).1, EndUnit.silenced_line]
    rfl
  · rw [(eases.lines _).1, EndUnit.silenced_partner]
  · rw [(eases.lines _).2, EndUnit.silenced_partner]

/-- The node whose line has gone, its sender not yet told. -/
def State.lineGone (e : EndId) (x : LineId) (s : State) : State :=
  s.setEnd e ((s.endUnit e).silenced x).afterLines

theorem State.lineSilent_decides (s : State) (e : EndId) (x : LineId) :
    s.lineSilent e x = ((s.lineGone e x).senderAfterLines e).decideEnd e false := by
  cases e <;> rfl

/-! ## The frame of a sender that ends (R95, R101, R140) -/

/-- The losses of one reason that a record is for a lane. -/
theorem State.lane_loseRecord_charged (s : State) (r : LossReason) (d : DataRecord) (l : LaneId) :
    (s.loseRecord r d).lane l = (s.lane l).charged (d.isOf l).toNat (LossCounters.count r) := by
  unfold State.loseRecord DataRecord.isOf
  cases d.origin with
  | through => rfl
  | local_ k _ _ =>
    dsimp only
    rw [State.lane_lose]
    by_cases same : k = l
    · simp [same, LanePort.lose_eq_charged]
    · simp [same, beq_false_of_ne same]

/-- The lanes behind a frame that ends with a loss. -/
theorem State.lane_endFrame_charged {r : LossReason} (lost : o.loss = some r) (s : State) (e : EndId) (l : LaneId) :
    (s.endFrame o e).lane l = (s.lane l).charged ((s.endUnit e).heldOf l) (LossCounters.count r) := by
  unfold State.endFrame EndUnit.heldOf
  cases (s.endUnit e).sender.frame with
  | none => rfl
  | some f =>
    simp only [lost]
    cases f with
    | control c => simp [State.loseHeld, HeldFrame.messagesOf, State.count]
    | data d => simp [State.loseHeld, HeldFrame.messagesOf, State.count, State.lane_loseRecord_charged]

/-- The end behind a frame that ends other than with ACCEPT: its sender IDLE, the outcome counted. -/
theorem State.endFrame_endUnit (held : (s.endUnit e).sender.frame = some f) (o : FrameOutcome) (failed : o ≠ .accept) :
    ∃ w, ((s.endUnit e).senderIdle o).Eases w ∧
      (s.endFrame o e).endUnit e = { w with counters := o.count w.counters } := by
  refine ⟨((s.endUnit e).senderIdle o).reportRecentre o f, ?_, ?_⟩
  · unfold EndUnit.reportRecentre
    split
    · rw [if_neg failed]
      exact (EndUnit.Eases.refl _).abandonRecentre
    · exact .refl _
  · unfold State.endFrame
    rw [held]
    dsimp only
    split <;> simp

/-- What an end is whose sender has given its frame up LINK-DOWN, if it held one. -/
structure EndUnit.GivesUp (u v : EndUnit) : Prop where
  sense : v.sense = u.sense
  state : v.state = u.state
  records : v.records = u.records
  lines : ∀ x, (v.line x).state = (u.line x).state
  frame : v.sender.frame = none
  peer : u.peer = none → v.peer = none
  receiver : u.receiver = none → v.receiver = none
  noAnswer : v.counters.noAnswer = Nat.iterate satInc (if u.sender.frame = none then 0 else 1) u.counters.noAnswer

theorem State.endFrame_givesUp (s : State) (e : EndId) :
    (s.endUnit e).GivesUp ((s.endFrame .linkDown e).endUnit e) := by
  cases held : (s.endUnit e).sender.frame with
  | none =>
    have same : s.endFrame .linkDown e = s := by unfold State.endFrame; rw [held]
    rw [same]
    exact ⟨rfl, rfl, rfl, fun _ => rfl, held, id, id, by simp [held]⟩
  | some f =>
    obtain ⟨w, eases, unit⟩ := State.endFrame_endUnit held .linkDown (by decide)
    rw [unit]
    exact ⟨eases.sense, eases.state, eases.records,
      fun x => by cases x; exacts [(eases.lines .lineA).1, (eases.lines .lineB).1],
      eases.frame.2 rfl, eases.peer, eases.receiver, by
        simp only [held, reduceCtorEq, if_false]
        exact congrArg (fun c : EndCounters => satInc c.noAnswer) eases.counters⟩

/-! ## A frame that moves (R97, R101) -/

/-- The sender of a held frame that is sent on a line without a hold. -/
theorem State.sendHeld_sender (free : (s.line e (s.endUnit e).sender.currentLine).holdTimer = none) :
    ((s.sendHeld e).endUnit e).sender = { (s.endUnit e).sender with
      state := .awaiting, timer := .reply, waitsHold := false, sends := (s.endUnit e).sender.sends + 1
      lastLine := (s.endUnit e).sender.currentLine } := by
  have served : ∀ (r : State) y, ((r.serve e y).endUnit e).sender = (r.endUnit e).sender := fun r y => by
    unfold State.serve
    dsimp only
    split
    · cases e <;> cases y <;> rfl
    · rfl
  unfold State.sendHeld
  dsimp only
  rw [if_neg (by simp [LineUnit.inHold, Timer.running, free]), served]
  simp [State.modLine]

/-- The sender of a frame that moves to a line without a hold. -/
theorem State.moveFrame_sender (free : (s.line e (s.endUnit e).sender.currentLine.partner).holdTimer = none) :
    ((s.moveFrame e).endUnit e).sender = { (s.endUnit e).sender with
      state := .awaiting, timer := .reply, waitsHold := false, moved := true, sends := 1
      currentLine := (s.endUnit e).sender.currentLine.partner
      lastLine := (s.endUnit e).sender.currentLine.partner } := by
  let moved : EndUnit := { (s.endUnit e).withdraw with sender := { (s.endUnit e).sender with
    moved := true, currentLine := (s.endUnit e).sender.currentLine.partner, sends := 0 } }
  have unit : (s.setEnd e moved).endUnit e = moved := State.endUnit_setEnd_self ..
  have hold : ∀ y, (moved.line y).holdTimer = ((s.endUnit e).line y).holdTimer := fun y => by cases y <;> rfl
  have sent := State.sendHeld_sender (s := s.setEnd e moved) (e := e) (by
    unfold State.line
    rw [unit, hold]
    exact free)
  rw [unit] at sent
  exact sent

/-! ## The end's sender after its lines (R101) -/

/-- A line falls silent beside an ACTIVE one: a frame sent on it moves, or has moved already and ends NO-ANSWER. -/
theorem State.senderAfterLines_left (active : (s.endUnit e).anyActive = true)
    (sent : (s.endUnit e).sender.state = .awaiting ∨ (s.endUnit e).sender.state = .backing)
    (left : (s.line e (s.endUnit e).sender.currentLine).state ≠ .active) : s.senderAfterLines e =
      if (s.endUnit e).sender.moved then s.endFrame .noAnswer e else s.moveFrame e := by
  have sent : (s.endUnit e).sender.state.sent = true := by rcases sent with h | h <;> rw [h] <;> rfl
  unfold State.senderAfterLines
  dsimp only
  rw [active, if_neg (by decide), if_pos]
  rw [sent, Bool.true_and, Bool.not_eq_true', ← Bool.not_eq_true]
  simpa [LineUnit.isActive, State.line] using left

theorem State.senderAfterLines_down (down : (s.endUnit e).anyActive = false) :
    s.senderAfterLines e = s.endFrame .linkDown e := by
  unfold State.senderAfterLines
  dsimp only
  rw [if_pos (by rw [down]; rfl)]

/-! ## Losses (R140) -/

/-- A loss is told (R140). -/
theorem LanePort.charged_told {g : LossCounters → LossCounters} {k : Nat} {p : LanePort} (lost : k ≠ 0) :
    (p.charged k g).notices &&& Notice.sendLoss.mark = Notice.sendLoss.mark := by
  rw [LanePort.charged, if_neg lost, BitVec.or_comm, BitVec.and_comm]
  exact and_or_absorb _ _

/-- A notice raised leaves the marks that are set. -/
theorem LanePort.raise_mark {p : LanePort} {k : BitVec 12} {m : Notice} (set_ : p.notices &&& k = k) :
    (p.raise m).notices &&& k = k := by
  unfold LanePort.raise
  split
  · exact set_
  · rw [← set_]
    ext i
    simp
    tauto

theorem LossCounters.noAnswer_iterate (k : Nat) (c : LossCounters) :
    (Nat.iterate (LossCounters.count .noAnswer) k c).noAnswer = Nat.iterate satInc k c.noAnswer :=
  (Function.Semiconj.iterate_right (f := LossCounters.noAnswer) (fun _ => rfl) k).eq c

theorem LossCounters.noAnswer_linkDown (k : Nat) (c : LossCounters) :
    (Nat.iterate LossCounters.addLinkDown k c).noAnswer = c.noAnswer := by
  induction k generalizing c with
  | zero => rfl
  | succ k ih => exact ih _

/-- The losses behind an end state decided again, whatever the engine makes of the change. -/
theorem State.decideEnd_losses (s : State) (e : EndId) (tag : Bool) (l : LaneId) :
    ((s.decideEnd e tag).lane l).losses = ((s.decided e).lane l).losses := by
  rw [State.decideEnd_eq, ((s.decided e).engineEndChange_engineFrame _ _ tag).lanes l]

/-- The losses of a lane at a departing end: one for each record of the lane. -/
theorem State.decided_losses (s : State) (e : EndId) (l : LaneId) : ((s.decided e).lane l).losses =
    Nat.iterate LossCounters.addLinkDown
      (if (s.endUnit e).state = .admitted ∧ s.endStateOf e ≠ .admitted then
        (s.endUnit e).records.countP (DataRecord.isOf l) else 0) (s.lane l).losses := by
  rw [State.decided_lane]
  dsimp only
  split <;> rfl

/-! ## The end's last ACTIVE line (R24, R83, R101, R102, R138) -/

/-- An end without an ACTIVE line knows no peer after its lines have changed. -/
theorem EndUnit.afterLines_forgets (idle : u.afterLines.anyActive = false) :
    u.afterLines.peer = none ∧ u.afterLines.receiver = none := by
  unfold EndUnit.afterLines EndUnit.forgetPeer at *
  split at idle
  · next active => exact absurd (active.symm.trans idle) (by decide)
  · next none_ => rw [if_neg none_]; exact ⟨rfl, rfl⟩

/-- The node whose end has lost its last ACTIVE line, its state not yet decided. -/
structure State.LastLineGone (e : EndId) (x : LineId) (s q : State) : Prop where
  core : s.CoreFrame q
  other : q.endUnit e.other = s.endUnit e.other
  lanes : ∀ l, q.lane l = (s.lane l).charged ((s.endUnit e).heldOf l) LossCounters.addLinkDown
  silent : (q.line e x).state = if (s.line e x).carrier then .training else .dark
  partner : (q.line e x.partner).state = (s.line e x.partner).state
  inactive : (q.endUnit e).anyActive = false
  sense : (q.endUnit e).sense = (s.endUnit e).sense
  state : (q.endUnit e).state = (s.endUnit e).state
  records : (q.endUnit e).records = (s.endUnit e).records
  frame : (q.endUnit e).sender.frame = none
  peer : (q.endUnit e).peer = none
  receiver : (q.endUnit e).receiver = none
  noAnswer : (q.endUnit e).counters.noAnswer =
    Nat.iterate satInc (if (s.endUnit e).sender.frame = none then 0 else 1) (s.endUnit e).counters.noAnswer

theorem State.lineSilent_last (down : (s.line e x.partner).state ≠ .active) :
    ∃ q, State.LastLineGone e x s q ∧ s.lineSilent e x = q.decideEnd e false := by
  let v := ((s.endUnit e).silenced x).afterLines
  let r := s.lineGone e x
  have unit : r.endUnit e = v := State.endUnit_setEnd_self ..
  obtain ⟨kept, silent, partner, -⟩ := (s.endUnit e).silenced_afterLines x
  have idle : v.anyActive = false := EndUnit.anyActive_false.2 fun y => by
    rcases LineId.eq_or_partner x y with rfl | rfl
    · rw [silent]
      split <;> decide
    · rw [partner]
      exact down
  have forgot : v.peer = none ∧ v.receiver = none := EndUnit.afterLines_forgets idle
  have ended : r.senderAfterLines e = r.endFrame .linkDown e := State.senderAfterLines_down (by rw [unit]; exact idle)
  have frame : State.EndFrame e r (r.endFrame .linkDown e) := (State.EndFrame.refl e r).endFrame
  have gives := r.endFrame_givesUp e
  rw [unit] at gives
  refine ⟨r.endFrame .linkDown e, ?_, by rw [← ended, State.lineSilent_decides]⟩
  exact {
    core := (State.CoreFrame.refl s).modEnd (f := fun _ => v) |>.trans frame.core
    other := frame.other.trans (State.endUnit_setEnd_other ..)
    lanes := fun l => by
      rw [State.lane_endFrame_charged (r := .linkDown) rfl, unit, kept.held]
      cases e <;> cases l <;> rfl
    silent := (gives.lines x).trans silent
    partner := (gives.lines _).trans partner
    inactive := by
      rw [EndUnit.anyActive_false] at idle ⊢
      exact fun y => by rw [gives.lines]; exact idle y
    sense := gives.sense.trans kept.sense
    state := gives.state.trans kept.state
    records := gives.records.trans kept.records
    frame := gives.frame
    peer := gives.peer forgot.1
    receiver := gives.receiver forgot.2
    noAnswer := by
      rw [gives.noAnswer, kept.counters, if_congr kept.frame rfl rfl] }

/-- Such an end leaves ADMITTED if it was there. -/
theorem State.LastLineGone.departs_iff (h : State.LastLineGone e x s t) :
    ((t.endUnit e).state = .admitted ∧ t.endStateOf e ≠ .admitted) ↔ (s.endUnit e).state = .admitted := by
  have new := State.endStateOf_inactive_identified h.inactive
  rw [h.state]
  refine and_iff_left fun admitted => ?_
  rw [admitted] at new
  cases new

theorem State.LastLineGone.endStateOf (h : State.LastLineGone e x s t) (off : s.bypass.state = .off) :
    t.endStateOf e = if (s.endUnit e).sense = true ∨ (s.line e x).carrier = true ∨
      (s.line e x.partner).state ≠ .dark then .coupling else .opened := by
  have silent : (t.line e x).state ≠ .dark ↔ (s.line e x).carrier = true := by
    rw [h.silent]
    split <;> simp [*]
  have lines : ((t.line e .lineA).state ≠ .dark ∨ (t.line e .lineB).state ≠ .dark) ↔
      ((s.line e x).carrier = true ∨ (s.line e x.partner).state ≠ .dark) := by
    rw [← silent, ← h.partner]
    cases x
    · exact Iff.rfl
    · exact or_comm
  have off : t.bypass.state = .off := h.core.off.2 off
  rw [State.endStateOf_inactive h.inactive, h.sense]
  exact if_congr ((and_iff_right off).trans (or_congr Iff.rfl lines)) rfl rfl

/-- What the engine leaves of an end it sends control frames out of. -/
theorem EndUnit.SameButControl.traffic (h : u.SameButControl v) : v.records = u.records ∧
    v.queues.reliefProcess = u.queues.reliefProcess ∧ v.queues.reliefBulk = u.queues.reliefBulk ∧
    v.counters.noAnswer = u.counters.noAnswer := by
  unfold EndUnit.SameButControl at h
  rw [h]
  exact ⟨rfl, rfl, rfl, rfl⟩

/-- The class records that go when the last ACTIVE line of an end goes: those of an ADMITTED end. -/
def EndUnit.gone (u : EndUnit) : List DataRecord := if u.state = .admitted then u.records else []

theorem State.LastLineGone.gone_countP (h : State.LastLineGone e x s t) (p : DataRecord → Bool) :
    (if (t.endUnit e).state = .admitted ∧ t.endStateOf e ≠ .admitted then (t.endUnit e).records.countP p else 0) =
      (s.endUnit e).gone.countP p := by
  rw [if_congr h.departs_iff rfl rfl, h.records]
  unfold EndUnit.gone
  split <;> rfl

/-- The end behind its last ACTIVE line, whatever the engine makes of it. -/
theorem State.LastLineGone.left_endUnit (h : State.LastLineGone e x s t) (tag : Bool) :
    ((s.endUnit e).state = .admitted → ((t.decideEnd e tag).endUnit e).records = [] ∧
      ((t.decideEnd e tag).endUnit e).queues.reliefProcess = 0 ∧
      ((t.decideEnd e tag).endUnit e).queues.reliefBulk = 0) ∧
    ((t.decideEnd e tag).endUnit e).counters.noAnswer = Nat.iterate satInc
      ((if (s.endUnit e).sender.frame = none then 0 else 1) + (s.endUnit e).gone.countP DataRecord.isThrough)
        (s.endUnit e).counters.noAnswer := by
  obtain ⟨records, process, bulk, noAnswer⟩ :=
    (((t.decided e).engineEndChange_engineFrame (t.endUnit e).state (t.endStateOf e) tag).ends e).traffic
  rw [State.decideEnd_eq]
  refine ⟨fun admitted => ?_, ?_⟩
  · rw [records, process, bulk, State.decided_endUnit, if_pos (h.departs_iff.2 admitted)]
    exact ⟨rfl, rfl, rfl⟩
  · have counted : ((t.decided e).endUnit e).counters.noAnswer =
        Nat.iterate satInc ((s.endUnit e).gone.countP DataRecord.isThrough) (t.endUnit e).counters.noAnswer := by
      rw [← h.gone_countP, State.decided_endUnit]
      split <;> rfl
    rw [noAnswer, counted, h.noAnswer, Nat.add_comm, Function.iterate_add_apply]

/-- The lanes behind an end's last ACTIVE line, whatever the engine makes of it. -/
theorem State.LastLineGone.left_lane (h : State.LastLineGone e x s t) (tag : Bool) (l : LaneId) :
    ((t.decideEnd e tag).lane l).losses = Nat.iterate LossCounters.addLinkDown
      ((s.endUnit e).heldOf l + (s.endUnit e).gone.countP (DataRecord.isOf l)) (s.lane l).losses ∧
    ((s.endUnit e).heldOf l + (s.endUnit e).gone.countP (DataRecord.isOf l) ≠ 0 →
      ((t.decideEnd e tag).lane l).notices &&& Notice.sendLoss.mark = Notice.sendLoss.mark) := by
  refine ⟨?_, fun lost => ?_⟩
  · rw [State.decideEnd_losses, State.decided_losses, h.gone_countP, h.lanes, Nat.add_comm,
      Function.iterate_add_apply]
    rfl
  · rw [State.decideEnd_eq]
    refine ((t.decided e).engineEndChange_engineFrame _ _ _).steady.mark ?_
    rw [State.decided_lane, h.gone_countP, h.lanes]
    dsimp only
    rw [LanePort.charged_charged, Nat.add_comm]
    split
    · exact LanePort.charged_told lost
    · exact LanePort.raise_mark (LanePort.charged_told lost)

/-- A change of the end state is announced to both lanes, whatever the engine makes of it (R86). -/
theorem State.decideEnd_endChange {tag : Bool} (changed : ((s.decideEnd e tag).endUnit e).state ≠ (s.endUnit e).state)
    (l : LaneId) : ((s.decideEnd e tag).lane l).notices &&& Notice.endChange.mark = Notice.endChange.mark := by
  rw [(s.decideEnd_unit e tag).2] at changed
  rw [State.decideEnd_eq]
  exact ((s.decided e).engineEndChange_engineFrame _ _ _).steady.mark (State.decided_endChange changed.symm l)

/-- What the engine makes of the departure of an ADMITTED end in OFF: a restart, or a change held under inhibit. -/
theorem State.LastLineGone.departed_engine (h : State.LastLineGone e x s t) (off : s.bypass.state = .off)
    (admitted : (s.endUnit e).state = .admitted) :
    (s.engine.effective.inhibit = false → (t.decideEnd e false).engine.count = 1 ∧
      (s.identified e.other = true → (t.decideEnd e false).engine.state = .leading) ∧
      (s.identified e.other = false → s.ownTag ≠ 0 → (t.decideEnd e false).engine.state = .quiet ∧
        (t.decideEnd e false).directory.generation = successor s.directory.generation ∧
        (t.decideEnd e false).directory.entries = [(s.ownEntry 1 .direct).entry])) ∧
    (s.engine.effective.inhibit = true → (t.decideEnd e false).engine.state = .mismatch ∧
      (t.decideEnd e false).engine.cause = some .localCause ∧
      (t.decideEnd e false).engine.count = s.engine.count) := by
  have core : s.CoreFrame (t.decided e) := h.core.trans (t.decided_core e)
  have off : (t.decided e).bypass.state = .off := core.off.2 off
  have inhibited : (t.decided e).inhibited = s.engine.effective.inhibit :=
    congrArg (·.effective.inhibit) core.engine
  have near : (t.decided e).identified e = false := by
    rw [State.decided_identified, State.endStateOf_inactive_identified h.inactive]
  have far : (t.decided e).identified e.other = s.identified e.other :=
    (t.decided_identified_other e).trans (congrArg (fun u => u.state.identified) h.other)
  have changes : t.decideEnd e false = (t.decided e).topologyChange := by
    rw [State.decideEnd_eq]
    exact State.engineEndChange_changes (.inr (.inr (h.departs_iff.2 admitted)))
  rw [changes]
  refine ⟨fun free => ?_, fun on => ?_⟩
  · have free : (t.decided e).inhibited = false := inhibited.trans free
    obtain ⟨count, state⟩ := State.takeUp_engine (s := (t.decided e).abandon) free true 1 e
    rw [← State.topologyChange_takeUp off free] at count state
    rw [State.identified_abandon, State.identified_abandon, near, far] at state
    refine ⟨count, fun other => by simpa [other] using state, fun other own => ?_⟩
    obtain ⟨quiet, generation, entries⟩ := State.topologyChange_alone off free
      (fun d => by rcases EndId.eq_or_other e d with rfl | rfl; exacts [near, far.trans other])
      (by rwa [core.toSteady.ownTag])
    exact ⟨quiet, by rw [generation, core.directory], by rw [entries, core.ownEntry]⟩
  · obtain ⟨state, cause, count, -⟩ := State.topologyChange_holds off (inhibited.trans on)
    exact ⟨state, cause, count.trans (congrArg Engine.count core.engine)⟩

/-- An UNADMITTED end that falls back is no topology change (R24; log 51). -/
theorem State.LastLineGone.unadmitted_engine (h : State.LastLineGone e x s t)
    (state : (s.endUnit e).state = .unadmitted) (away : s.engine.state ≠ .alerted) :
    (t.decideEnd e false).engine = s.engine ∧ (t.decideEnd e false).directory = s.directory := by
  have core : s.CoreFrame (t.decided e) := h.core.trans (t.decided_core e)
  have new := State.endStateOf_inactive_identified h.inactive
  rw [State.decideEnd_eq, State.engineEndChange_stays _ (.inl (by rwa [core.engine]))]
  · exact ⟨core.engine, core.directory⟩
  · rintro (k | ⟨k, -⟩ | ⟨k, -⟩)
    · cases k
    · rw [k] at new
      cases new
    · rw [h.state, state] at k
      cases k

/-! ## A line that goes beside an ACTIVE one (R97, R101) -/

theorem State.LinesKept.line (h : s.LinesKept) (e : EndId) (x : LineId) : (s.line e x).Kept := by
  obtain ⟨⟨⟨a₁, b₁⟩, -⟩, ⟨⟨a₂, b₂⟩, -⟩⟩ := h
  cases e <;> cases x
  exacts [a₁, b₁, a₂, b₂]

/-- What becomes of a frame sent on a line that goes beside an ACTIVE one. -/
theorem State.lineSilent_beside (active : (s.line e x.partner).state = .active)
    (sent : (s.endUnit e).sender.state = .awaiting ∨ (s.endUnit e).sender.state = .backing)
    (line : (s.endUnit e).sender.currentLine = x) : s.lineSilent e x =
      (if (s.endUnit e).sender.moved then (s.lineGone e x).endFrame .noAnswer e
        else (s.lineGone e x).moveFrame e).decideEnd e false := by
  obtain ⟨kept, silent, partner, -⟩ := (s.endUnit e).silenced_afterLines x
  have unit : (s.lineGone e x).endUnit e = ((s.endUnit e).silenced x).afterLines := State.endUnit_setEnd_self ..
  have sender : ((s.lineGone e x).endUnit e).sender = _ := (congrArg EndUnit.sender unit).trans kept.sender
  rw [State.lineSilent_decides, State.senderAfterLines_left, sender]
  · rw [unit]
    exact EndUnit.anyActive_iff.2 ⟨x.partner, partner.trans active⟩
  · rw [sender]
    exact sent
  · rw [sender]
    dsimp only
    rw [line]
    unfold State.line
    rw [unit, silent]
    split <;> decide

/-- A frame sent there that has not moved moves to the partner. -/
theorem State.lineSilent_moves (active : (s.line e x.partner).state = .active)
    (sent : (s.endUnit e).sender.state = .awaiting ∨ (s.endUnit e).sender.state = .backing)
    (line : (s.endUnit e).sender.currentLine = x) (first : (s.endUnit e).sender.moved = false)
    (free : (s.line e x.partner).holdTimer = none) :
    let n := ((s.lineSilent e x).endUnit e).sender
    n.state = .awaiting ∧ n.currentLine = x.partner ∧ n.moved = true ∧ n.sends = 1 ∧ n.timer = .reply := by
  obtain ⟨kept, -, -, hold⟩ := (s.endUnit e).silenced_afterLines x
  have unit : (s.lineGone e x).endUnit e = ((s.endUnit e).silenced x).afterLines := State.endUnit_setEnd_self ..
  have current : ((s.lineGone e x).endUnit e).sender.currentLine = x := by
    rw [unit, kept.sender]
    exact line
  rw [State.lineSilent_beside active sent line, first, if_neg Bool.false_ne_true]
  obtain ⟨⟨-, -, -, -, sender, -⟩, -⟩ := ((s.lineGone e x).moveFrame e).decideEnd_unit e false
  rw [sender, State.moveFrame_sender, current]
  · exact ⟨rfl, rfl, rfl, rfl, rfl⟩
  · rw [current]
    unfold State.line
    rw [unit, hold]
    exact free

/-- One that has moved already ends NO-ANSWER. -/
theorem State.lineSilent_ends (active : (s.line e x.partner).state = .active)
    (sent : (s.endUnit e).sender.state = .awaiting ∨ (s.endUnit e).sender.state = .backing)
    (line : (s.endUnit e).sender.currentLine = x) (again : (s.endUnit e).sender.moved = true)
    (held : (s.endUnit e).sender.frame = some f) :
    ((s.lineSilent e x).endUnit e).sender.state = .idle ∧ ((s.lineSilent e x).endUnit e).sender.frame = none ∧
    ∀ l, ((s.lineSilent e x).lane l).losses.noAnswer =
      Nat.iterate satInc (f.messagesOf l) (s.lane l).losses.noAnswer := by
  obtain ⟨kept, -⟩ := (s.endUnit e).silenced_afterLines x
  have unit : (s.lineGone e x).endUnit e = ((s.endUnit e).silenced x).afterLines := State.endUnit_setEnd_self ..
  have holds : ∃ f', ((s.lineGone e x).endUnit e).sender.frame = some f' := by
    rw [← Option.isSome_iff_exists, ← Option.ne_none_iff_isSome, unit, Ne, kept.frame, held]
    exact Option.some_ne_none f
  obtain ⟨f', holds⟩ := holds
  obtain ⟨w, eases, ended⟩ := State.endFrame_endUnit holds .noAnswer (by decide)
  rw [State.lineSilent_beside active sent line, again, if_pos rfl]
  obtain ⟨⟨-, -, -, -, sender, -⟩, -⟩ := ((s.lineGone e x).endFrame .noAnswer e).decideEnd_unit e false
  rw [sender, ended]
  refine ⟨?_, eases.frame.2 rfl, fun l => ?_⟩
  · rw [eases.sender]
    rfl
  · have heldOf : ((s.lineGone e x).endUnit e).heldOf l = f.messagesOf l := by
      rw [unit, kept.held]
      unfold EndUnit.heldOf
      rw [held]
    have lane : (s.lineGone e x).lane l = s.lane l := by cases e <;> cases l <;> rfl
    rw [State.decideEnd_losses, State.decided_losses, LossCounters.noAnswer_linkDown,
      State.lane_endFrame_charged (r := .noAnswer) rfl, heldOf, lane]
    exact LossCounters.noAnswer_iterate _ _

end Sys2Proof.Machine

open Sys2Proof Sys2Proof.Machine in
/-- Settles O30: the line itself, then its end by whether its partner is ACTIVE. -/
theorem silenceTakesTheLineBack : Obligations.SilenceTakesTheLineBack := by
  intro s e x kept active u n g
  have ran : exec (.silenceTimerExpiry e x) s = .next (s.lineSilent e x) := by
    obtain ⟨-, -, -, silence, -⟩ := kept.line e x
    have runs : (s.line e x).isActive && (s.line e x).silenceTimer.running := by
      simpa [LineUnit.isActive, Timer.running, active] using silence.2 active
    exact congrArg Host.Outcome.next (if_pos runs)
  rw [ran]
  refine ⟨_, rfl, ?_, fun changed => ?_, fun partner h held sent line => ?_, fun partner => ?_⟩
  · exact s.lineSilent_line e x
  · rw [State.lineSilent_decides] at changed ⊢
    refine State.decideEnd_endChange (fun same => changed (same.trans ?_))
    rw [((State.EndFrame.refl e _).senderAfterLines).unit.state, State.lineGone, State.endUnit_setEnd_self]
    exact (u.silenced_afterLines x).1.state
  · exact ⟨State.lineSilent_moves partner sent line, fun again => State.lineSilent_ends partner sent line again held⟩
  · obtain ⟨q, gone, decides⟩ := State.lineSilent_last partner
    rw [decides]
    obtain ⟨⟨-, -, peer, -, sender, receiver⟩, state⟩ := q.decideEnd_unit e false
    obtain ⟨left, noAnswer⟩ := gone.left_endUnit false
    exact ⟨peer.trans gone.peer, receiver.trans gone.receiver, by rw [sender]; exact gone.frame, left, noAnswer,
      fun l => gone.left_lane false l, fun off => ⟨state.trans (gone.endStateOf off),
        fun admitted => (gone.departed_engine off admitted).1, fun admitted => (gone.departed_engine off admitted).2,
        gone.unadmitted_engine⟩⟩
end

section
/-! PROOF. What the commands do to the votes: most leave them and what DETACHED lanes hold, and the others replace one lane's
port and recombine. -/

namespace Sys2Proof.Machine

open Sys2Proof

variable {s t r : State} {e : EndId} {x : LineId} {l : LaneId} {kind : Byte} {f : RawFrame}

/-! ## The votes stand -/

/-- The attach state and the votes are as they were, and a DETACHED lane that held nothing holds nothing. -/
structure LanePort.VotesStand (p q : LanePort) : Prop where
  attached : q.attached = p.attached
  votes : q.votes = p.votes
  idle : p.DetachedIdle → q.DetachedIdle

/-- So it is with both lanes, and the vote register is as it was. -/
structure State.VotesStand (s t : State) : Prop where
  effective : t.engine.effective = s.engine.effective
  lanes : ∀ l, (s.lane l).VotesStand (t.lane l)

theorem LanePort.VotesStand.refl (p : LanePort) : p.VotesStand p := ⟨rfl, rfl, id⟩

theorem LanePort.VotesStand.trans {p q r : LanePort} (h : p.VotesStand q) (k : q.VotesStand r) : p.VotesStand r :=
  ⟨k.attached.trans h.attached, k.votes.trans h.votes, k.idle ∘ h.idle⟩

/-- Where nothing enters the queues of a DETACHED lane, it stays idle. -/
theorem LanePort.VotesStand.of_queues {p q : LanePort} (attached : q.attached = p.attached) (votes : q.votes = p.votes)
    (send : p.attached = false → p.sendQueue = [] → q.sendQueue = [])
    (receive : p.attached = false → p.receiveQueue = [] → q.receiveQueue = []) : p.VotesStand q := by
  refine ⟨attached, votes, fun idle away => ?_⟩
  rw [attached] at away
  obtain ⟨inhibit, claim, bypass, sent, received⟩ := idle away
  rw [votes]
  exact ⟨inhibit, claim, bypass, send away sent, receive away received⟩

/-- A change of a port beside its attach state, votes and queues. -/
theorem LanePort.VotesStand.of_same {p q : LanePort} (attached : q.attached = p.attached) (votes : q.votes = p.votes)
    (send : q.sendQueue = p.sendQueue) (receive : q.receiveQueue = p.receiveQueue) : p.VotesStand q :=
  .of_queues attached votes (fun _ => send.trans) (fun _ => receive.trans)

theorem LanePort.SameButReports.votesStand {p q : LanePort} (h : p.SameButReports q) : p.VotesStand q := by
  unfold LanePort.SameButReports at h
  rw [h]
  exact .of_same rfl rfl rfl rfl

theorem LanePort.VotesStand.raise (n : Notice) (p : LanePort) : p.VotesStand (p.raise n) :=
  .of_same (by simp) (by simp) (by simp) (by simp)

/-- Deliveries reach attached lanes alone (R133). -/
theorem LanePort.VotesStand.deliver (p : LanePort) (a : ReceiveEntry) : p.VotesStand (p.deliver a) := by
  have stands := LanePort.Stands.deliver p a
  have away : p.attached = false → p.deliver a = p := fun h => if_neg (by simp [h])
  exact .of_queues stands.attached stands.votes (fun h => by rw [away h]; exact id) (fun h => by rw [away h]; exact id)

/-- A transaction writes the slot, the bytes sent and the frame errors with their notice. -/
theorem LanePort.VotesStand.transact (p : LanePort) (pending : Bool) (bytes : List Byte) :
    p.VotesStand (p.transact pending bytes) := by
  unfold LanePort.transact LanePort.examineRequest
  dsimp only
  split
  · exact .of_same rfl rfl rfl rfl
  · split
    · exact .of_same rfl rfl rfl rfl
    · split
      · exact .of_same rfl rfl rfl rfl
      · exact .of_same (by simp) (by simp) (by simp) (by simp)

theorem State.VotesStand.refl (s : State) : s.VotesStand s := ⟨rfl, fun _ => .refl _⟩

theorem State.VotesStand.trans (h : s.VotesStand t) (k : t.VotesStand r) : s.VotesStand r :=
  ⟨k.effective.trans h.effective, fun l => (h.lanes l).trans (k.lanes l)⟩

/-! ## Changes of one part of the node -/

/-- A change beside the lanes and the vote register. -/
theorem State.VotesStand.beside (h : s.VotesStand t) (effective : r.engine.effective = t.engine.effective)
    (laneA : r.laneA = t.laneA) (laneB : r.laneB = t.laneB) : s.VotesStand r :=
  h.trans ⟨effective, fun l => by
    cases l
    · rw [State.lane_laneA, State.lane_laneA, laneA]
      exact .refl _
    · rw [State.lane_laneB, State.lane_laneB, laneB]
      exact .refl _⟩

theorem State.VotesStand.setBypass (h : s.VotesStand t) {b : Bypass} : s.VotesStand { t with bypass := b } :=
  h.beside rfl rfl rfl

theorem State.VotesStand.setStore (h : s.VotesStand t) {w : Store} : s.VotesStand { t with store := w } :=
  h.beside rfl rfl rfl

theorem State.VotesStand.modEnd (h : s.VotesStand t) {g : EndUnit → EndUnit} : s.VotesStand (t.modEnd e g) :=
  h.beside (by simp) (by simp) (by simp)

theorem State.VotesStand.count (h : s.VotesStand t) {g : EndCounters → EndCounters} : s.VotesStand (t.count e g) :=
  h.modEnd

theorem State.VotesStand.enqueue (h : s.VotesStand t) {d : DataRecord} : s.VotesStand (t.enqueue e d) := h.modEnd

theorem State.VotesStand.modLane (h : s.VotesStand t) {g : LanePort → LanePort}
    (k : (t.lane l).VotesStand (g (t.lane l))) : s.VotesStand (t.modLane l g) := by
  refine h.trans ⟨by simp, fun m => ?_⟩
  rcases LaneId.eq_or_other l m with rfl | rfl
  · rwa [State.lane_modLane_self]
  · rw [State.lane_modLane_other]
    exact .refl _

theorem State.VotesStand.raise (h : s.VotesStand t) {n : Notice} : s.VotesStand (t.raise n l) := h.modLane (.raise n _)

theorem State.VotesStand.raiseBoth (h : s.VotesStand t) {n : Notice} : s.VotesStand (t.raiseBoth n) := h.raise.raise

theorem State.VotesStand.lose (h : s.VotesStand t) {c : LossReason} : s.VotesStand (t.lose c l) :=
  h.modLane (LanePort.lose_reports c _).1.votesStand

theorem State.VotesStand.reply (h : s.VotesStand t) {a : Reply} : s.VotesStand (t.reply l a) :=
  h.modLane (.of_same rfl rfl rfl rfl)

/-- An operation of an end unit. -/
theorem State.VotesStand.end_ (h : s.VotesStand t) (k : State.EndFrame e t r) : s.VotesStand r :=
  h.trans ⟨congrArg Engine.effective k.engine, fun l => (k.lanes l).votesStand⟩

/-- An operation of the engine that leaves the vote register. -/
theorem State.VotesStand.engine_ (h : s.VotesStand t) (k : t.EngineFrame r)
    (effective : r.engine.effective = t.engine.effective) : s.VotesStand r :=
  h.trans ⟨effective, fun l => by
    rw [k.lanes l]
    exact .of_same rfl rfl rfl rfl⟩

/-! ## The end state and what follows it -/

theorem State.VotesStand.topologyChange (h : s.VotesStand t) : s.VotesStand t.topologyChange := by
  refine h.engine_ (State.EngineFrame.refl t).topologyChange ?_
  rcases t.topologyChange_turns with k | ⟨-, k⟩
  · rw [k]
  · exact k.effective

theorem State.VotesStand.engineEndChange (h : s.VotesStand t) {old new : EndState} {tag : Bool} :
    s.VotesStand (t.engineEndChange old new tag) := by
  unfold State.engineEndChange
  split
  · exact h.topologyChange
  · split
    · rename_i acts
      have away : t.engine.state ≠ .closed := by simp [acts.2]
      exact h.engine_ (State.EngineFrame.refl t).actAlerted ((State.Turning.start away).actAlerted away id id).effective
    · exact h

/-- An end state decided again. -/
theorem State.VotesStand.decideEnd (h : s.VotesStand t) {tag : Bool} : s.VotesStand (t.decideEnd e tag) := by
  have purged : ∀ {r : State}, s.VotesStand r → s.VotesStand (r.departurePurge e) := fun k =>
    k.end_ (State.EndFrame.refl e _).departurePurge
  unfold State.decideEnd
  dsimp only
  split <;> split
  · exact (purged h.modEnd.raiseBoth).engineEndChange
  · exact (purged h.modEnd).engineEndChange
  · exact h.modEnd.raiseBoth.engineEndChange
  · exact h.modEnd.engineEndChange

theorem State.VotesStand.afterLines (h : s.VotesStand t) : s.VotesStand (t.afterLines e) :=
  (h.modEnd.end_ (State.EndFrame.refl e _).senderAfterLines).decideEnd

theorem State.VotesStand.lineSilent (h : s.VotesStand t) : s.VotesStand (t.lineSilent e x) := h.modEnd.afterLines

theorem State.VotesStand.replyTimedOut (h : s.VotesStand t) : s.VotesStand (t.replyTimedOut e) := by
  have sent := h.end_ ((State.EndFrame.refl e t).sendOver.modSender (f := fun n => { n with holds := 0 }))
  have moved : ∀ {r : State}, s.VotesStand r → s.VotesStand (r.moveFrame e) := fun k =>
    k.end_ (State.EndFrame.refl e _).moveFrame
  have ended : ∀ {r : State}, s.VotesStand r → s.VotesStand (r.endFrame .noAnswer e) := fun k =>
    k.end_ (State.EndFrame.refl e _).endFrame
  unfold State.replyTimedOut
  dsimp only
  split
  · exact sent.end_ (State.EndFrame.refl e _).sendHeld
  · unfold State.sendsExhausted
    dsimp only
    split <;> split
    · exact (moved sent.modEnd).lineSilent
    · exact (ended sent.modEnd).lineSilent
    · exact moved sent.modEnd
    · exact ended sent.modEnd

theorem State.VotesStand.fullSweepEnded (h : s.VotesStand t) {runs : List Nat} :
    s.VotesStand (t.fullSweepEnded e x runs) := by
  unfold State.fullSweepEnded State.sweepFailed
  dsimp only
  refine State.VotesStand.afterLines ?_
  split
  · exact h.modEnd.modEnd.end_ (State.EndFrame.refl e _).enterActive
  · split
    · exact h.modEnd.modEnd.modEnd.raiseBoth
    · exact h.modEnd.modEnd.modEnd

theorem State.VotesStand.recentreEnded (h : s.VotesStand t) {runs : List Nat} :
    s.VotesStand (t.recentreEnded e x runs) := by
  unfold State.recentreEnded
  dsimp only
  split
  · exact h.modEnd.modEnd
  · exact h.modEnd.modEnd.modEnd.afterLines

/-- A control frame placed, or dropped at a full queue. -/
theorem State.VotesStand.sendControl (h : s.VotesStand t) {c : ControlFrame} : s.VotesStand (t.sendControl e c) :=
  h.engine_ (State.EngineFrame.refl t).sendControl (congrArg Engine.effective (State.CoreFrame.refl t).sendControl.engine)

theorem State.recentreTurn_votesStand (s : State) : s.VotesStand s.recentreTurn := by
  have turned : s.VotesStand { s with
      rotation := nextTurn s.rotation, recentreTimer := some Config.recentrePeriod } :=
    (State.VotesStand.refl s).beside rfl rfl rfl
  unfold State.recentreTurn State.startRecentre
  dsimp only
  split
  · split
    · exact turned.modEnd.sendControl
    · exact turned.modEnd.sendControl.modEnd
  · exact turned

/-! ## Deliveries and the lanes' queues -/

/-- A lane that holds something to send is not a DETACHED one that is idle. -/
theorem LanePort.DetachedIdle.attached {p : LanePort} (idle : p.DetachedIdle) (held : p.sendQueue ≠ []) :
    p.attached = true := by
  by_contra away
  obtain ⟨-, -, -, empty, -⟩ := idle (by simpa using away)
  exact held empty

/-- A change of the queues of an attached lane. -/
theorem State.VotesStand.modAttached (h : s.VotesStand t) {g : LanePort → LanePort}
    (here : (s.lane l).DetachedIdle → (s.lane l).attached = true)
    (attached : (g (t.lane l)).attached = (t.lane l).attached) (votes : (g (t.lane l)).votes = (t.lane l).votes) :
    s.VotesStand (t.modLane l g) := by
  have stood := h.lanes l
  refine ⟨by rw [State.engine_modLane]; exact h.effective, fun m => ?_⟩
  rcases LaneId.eq_or_other l m with rfl | rfl
  · rw [State.lane_modLane_self]
    refine ⟨attached.trans stood.attached, votes.trans stood.votes, fun idle away => ?_⟩
    rw [attached, stood.attached, here idle] at away
    cases away
  · rw [State.lane_modLane_other]
    exact h.lanes _

theorem State.VotesStand.setSendQueue (h : s.VotesStand t) {q : List SendRecord} (held : (s.lane l).sendQueue ≠ []) :
    s.VotesStand (t.setSendQueue l q) := h.modAttached (·.attached held) rfl rfl

theorem State.VotesStand.deliver (h : s.VotesStand t) {a : ReceiveEntry} : s.VotesStand (t.deliver a) := by
  unfold State.deliver
  split
  · exact (h.modLane (.deliver _ a)).modLane (.deliver _ a)
  · exact h.beside rfl rfl rfl

/-- A SEND of an attached lane. -/
theorem State.judgeSend_votesStand (here : (s.lane l).attached = true) (m : Message) :
    s.VotesStand (s.judgeSend l m).2 := by
  have same := State.VotesStand.refl s
  have queued : ∀ {r : State} {d : SendRecord}, s.VotesStand r → s.VotesStand (r.queueSend l d) := fun k =>
    k.modAttached (fun _ => here) rfl rfl
  unfold State.judgeSend
  dsimp only
  split
  · split
    · exact same
    · split
      · exact same.deliver
      · split
        · exact same
        · exact queued same.deliver
  · split
    · exact same
    · exact same
    · exact same
    · exact same.deliver
    · split
      · exact same
      · exact queued same

/-! ## The resolver (R125 to R127) -/

theorem State.VotesStand.placeCopy (h : s.VotesStand t) {d : SendRecord} {copy : Option (EndId × Nat)} {placed : Bool} :
    s.VotesStand (t.placeCopy l d copy placed).2 := by
  unfold State.placeCopy
  split
  · exact h
  · split
    · exact h
    · split
      · exact h.lose
      · split
        · exact h.enqueue
        · exact h

/-- The head examined is one of a lane that holds something to send. -/
theorem State.examineHead_votesStand (s : State) (l : LaneId) : s.VotesStand (s.examineHead l).2 := by
  have same := State.VotesStand.refl s
  unfold State.examineHead
  split
  · exact same
  · next d rest queue =>
    have held : (s.lane l).sendQueue ≠ [] := by simp [queue]
    have popped : s.VotesStand (s.setSendQueue l rest) := same.setSendQueue held
    split
    · unfold State.examineBroadcast
      split
      · exact popped.lose
      · dsimp only
        split
        · exact same.placeCopy.placeCopy.setSendQueue held
        · exact same.placeCopy.placeCopy.setSendQueue held
    · unfold State.examineUnicast
      dsimp only
      split
      · exact popped.lose
      · split
        · split
          · exact popped.lose
          · split
            · exact popped.enqueue
            · exact same
        · exact popped.deliver
        · exact popped.lose
        · exact popped.lose
        · exact popped.lose

theorem State.resolverOpportunity_votesStand (s : State) : s.VotesStand s.resolverOpportunity := by
  unfold State.resolverOpportunity
  dsimp only
  have first := s.examineHead_votesStand s.resolver
  split
  · next t examined =>
    rw [examined] at first
    exact first.beside rfl rfl rfl
  · next t examined =>
    rw [examined] at first
    have second := t.examineHead_votesStand s.resolver.other
    split
    · next r left =>
      rw [left] at second
      exact (first.trans second).beside rfl rfl rfl
    · next r left =>
      rw [left] at second
      exact first.trans second

/-! ## DATA frames and the purge at commit (R114 to R117, R136) -/

/-- A frame that the switch takes is delivered, forwarded or counted. -/
theorem State.examineData_votesStand {d : DataFrame} (k : s.examineData e d = some t) : s.VotesStand t := by
  have same := State.VotesStand.refl s
  have broadcast : s.examineBroadcastFrame e d = some t → s.VotesStand t := fun k => by
    unfold State.examineBroadcastFrame at k
    dsimp only at k
    split at k
    · cases k
    · split at k
      · cases k
        exact same.deliver
      · split at k
        · cases k
          exact same.deliver.count
        · split at k
          · cases k
            exact same.deliver.enqueue
          · cases k
  have through : ∀ {p : Nat} {o : Orientation}, s.examineThrough e p o d = some t → s.VotesStand t := fun k => by
    unfold State.examineThrough at k
    dsimp only at k
    split at k
    · cases k
      exact same.count
    · split at k
      · cases k
        exact same.count
      · split at k
        · cases k
          exact same.enqueue
        · cases k
  unfold State.examineData at k
  split at k
  · exact broadcast k
  · split at k
    · cases k
      exact same.count
    · split at k
      · split at k
        · split at k
          · cases k
            exact same.count
          · split at k
            · cases k
            · cases k
              exact same.deliver
        · exact through k
      · cases k
        exact same.count

/-- A DATA frame examined at its arrival (R103). -/
theorem State.VotesStand.examineArrival (h : s.VotesStand t) {bit : Bool} {d : DataFrame} :
    s.VotesStand (t.examineArrival e x bit d) := by
  have earned : ∀ {r : State} {a : WaitingReply}, s.VotesStand r → s.VotesStand (r.earn e x a) := fun k =>
    k.end_ (State.EndFrame.refl e _).earn
  unfold State.examineArrival
  split
  · exact earned h
  · split
    · exact earned h.modEnd
    · split
      · next taken => exact earned (h.trans (State.examineData_votesStand taken))
      · exact earned h

theorem State.VotesStand.loseRecord (h : s.VotesStand t) {c : LossReason} {d : DataRecord} :
    s.VotesStand (t.loseRecord c d) := by
  unfold State.loseRecord
  split
  · exact h
  · exact h.lose

theorem State.VotesStand.purgeOne (h : s.VotesStand t) {d : DataRecord} : s.VotesStand (t.purgeOne e d).2 := by
  unfold State.purgeOne
  split
  · exact h
  · split
    · exact h.count
    · split
      · exact h.lose
      · split
        · split <;> exact h
        · exact h.deliver
        · exact h.lose
        · exact h.lose
        · exact h.lose

theorem State.VotesStand.purgeWalk (q : List DataRecord) (h : s.VotesStand t) :
    s.VotesStand (State.purgeWalk e q t).2.2 := by
  induction q generalizing t with
  | nil => exact h
  | cons d q ih =>
    have walked := ih (h.purgeOne (e := e) (d := d))
    unfold State.purgeWalk
    dsimp only
    split <;> exact walked

theorem State.VotesStand.purgeQueues (qs : List (EndId × TrafficClass)) (h : s.VotesStand t) :
    s.VotesStand (State.purgeQueues qs t).2 := by
  induction qs generalizing t with
  | nil => exact h
  | cons q qs ih =>
    have walked := State.VotesStand.purgeWalk (e := q.1) ((t.endUnit q.1).queues.classQueue q.2) h
    have cleared : s.VotesStand (t.purgeClass q.1 q.2).2 := by
      unfold State.purgeClass
      dsimp only
      split
      · exact walked.modEnd.modEnd
      · exact walked.modEnd
    exact ih cleared

/-- An operation that the votes outlast, done for every member of a list. -/
theorem State.VotesStand.foldl {α : Type} {g : State → α → State} (k : ∀ t a, State.VotesStand t (g t a)) (as : List α)
    (h : s.VotesStand t) : s.VotesStand (as.foldl g t) := by
  induction as generalizing t with
  | nil => exact h
  | cons a as ih => exact ih (h.trans (k t a))

theorem State.purgeAtCommit_votesStand (s : State) : s.VotesStand s.purgeAtCommit := by
  unfold State.purgeAtCommit
  refine .foldl (fun t p => ?_) _ (.purgeQueues purgeOrder (.refl s))
  have same := State.VotesStand.refl t
  unfold State.placeAside
  split
  · exact same.enqueue
  · exact same.loseRecord

/-! ## The bypass controller and start-up (R145 to R153, R180) -/

/-- An engagement empties the send queues and keeps the vote register (R17, R139). -/
theorem State.VotesStand.engage (h : s.VotesStand t) : s.VotesStand t.engage := by
  obtain ⟨-, -, -, engine, -, lanes⟩ := t.engages_engage
  refine h.trans ⟨by rw [engine], fun l => ?_⟩
  rw [lanes l]
  exact .of_queues rfl rfl (fun _ _ => rfl) (fun _ => id)

theorem State.VotesStand.testRelease (h : s.VotesStand t) : s.VotesStand t.testRelease := by
  unfold State.testRelease
  split
  · exact h.beside rfl rfl rfl
  · exact h

theorem State.VotesStand.latch (h : s.VotesStand t) {c : LatchedCause} : s.VotesStand (t.latch c) := by
  have latched := (h.setBypass (b := { t.bypass with latched := c })).raiseBoth (n := .bypassChange)
  unfold State.latch
  split
  · exact h
  · dsimp only
    split
    · exact latched.engage
    · exact latched

theorem State.releaseEnded_votesStand (s : State) : s.VotesStand s.releaseEnded := by
  have same := State.VotesStand.refl s
  unfold State.releaseEnded
  split
  · exact same.engage
  · unfold State.enterOff
    exact same.setBypass.raiseBoth.modEnd.modEnd.afterLines.afterLines.topologyChange

theorem State.startUp_votesStand (s : State) : s.VotesStand s.startUp := by
  have loaded := (State.VotesStand.refl s).setStore (w := s.store.afterLoad)
  unfold State.startUp
  refine State.VotesStand.testRelease (State.VotesStand.setBypass ?_)
  dsimp only
  split <;> split
  · exact loaded.raiseBoth
  · exact loaded.raiseBoth.latch
  · exact loaded
  · exact loaded.latch

theorem State.VotesStand.storeDone (h : s.VotesStand t) : s.VotesStand t.storeDone := by
  have done := h.setStore (w := { t.store with activity := .idle, writingLane := none, operation := none })
  unfold State.storeDone
  dsimp only
  split
  · exact done.raise
  · exact done

/-! ## The recombination (R49, R50) -/

@[simp] theorem State.lane_withVotes (s : State) (v : Votes) (l : LaneId) : (s.withVotes v).lane l = s.lane l := by
  cases l <;> rfl

/-- A port that keeps all but its reports and what stood in its send queue. -/
structure LanePort.Recombined (p q : LanePort) : Prop where
  port : q = { p with sendQueue := q.sendQueue, notices := q.notices, losses := q.losses }
  sends : p.sendQueue = [] → q.sendQueue = []

theorem State.bypassRequestChanged_lane (s : State) (l : LaneId) :
    (s.lane l).Recombined (s.bypassRequestChanged.lane l) := by
  have same : (s.lane l).Recombined (s.lane l) := ⟨rfl, id⟩
  unfold State.bypassRequestChanged
  split
  · split
    · obtain ⟨-, -, -, -, -, lanes⟩ := s.engages_engage
      rw [lanes l]
      exact ⟨rfl, fun _ => rfl⟩
    · exact same
  · rw [State.testRelease_lane]
    exact same

theorem State.recombine_lane (s : State) (l : LaneId) : (s.lane l).Recombined (s.recombine.lane l) := by
  let v := s.withVotes (effectiveVotes s.laneA s.laneB)
  have asked : (s.lane l).Recombined ((if v.engine.effective.bypass ≠ s.engine.effective.bypass
      then v.bypassRequestChanged else v).lane l) := by
    rw [← State.lane_withVotes s (effectiveVotes s.laneA s.laneB) l]
    split
    · exact v.bypassRequestChanged_lane l
    · exact ⟨rfl, id⟩
  obtain ⟨port, sends⟩ := asked
  rw [State.recombine_eq (v := v) rfl, (State.votesAtEngine_engineFrame _ _).lanes l, port]
  exact ⟨rfl, sends⟩

theorem LanePort.Recombined.votesStand {p q : LanePort} (h : p.Recombined q) : p.VotesStand q := by
  obtain ⟨port, sends⟩ := h
  rw [port]
  exact .of_queues rfl rfl (fun _ => sends) (fun _ => id)

/-- The combination is written; what it sets off leaves it and the votes. -/
theorem State.recombine_votesStand (s : State) :
    (s.withVotes (effectiveVotes s.laneA s.laneB)).VotesStand s.recombine :=
  ⟨State.recombine_engine rfl, fun l => by
    rw [State.lane_withVotes]
    exact (s.recombine_lane l).votesStand⟩

/-! ## Arrivals (R90 to R104) -/

/-- A frame that arrives is not taken, is counted, or goes on. -/
theorem State.VotesStand.arrive {valid : State → State} (h : ∀ r, State.EndFrame e s r → s.VotesStand (valid r)) :
    s.VotesStand (s.arrive e x kind f valid) := by
  have same := State.VotesStand.refl s
  unfold State.arrive
  split
  · exact same
  · split
    · exact same.end_ (State.EndFrame.refl e s).countCheckError
    · exact h _ (State.EndFrame.refl e s).restartSilence

theorem State.VotesStand.takeAwaiting {β : Type} {decode : List Byte → Option β} {handle : β → State → State}
    (k : State.EndFrame e s t) (h : ∀ b, s.VotesStand (handle b t)) :
    s.VotesStand (t.takeAwaiting e x f decode handle) := by
  have same := State.VotesStand.refl s
  have fresh : s.VotesStand (match decode f.body with
      | none => t.earn e x (.plain (frameBit f) (.refuse .malformed))
      | some b => handle b t) := by
    split
    · exact same.end_ k.earn
    · exact h _
  unfold State.takeAwaiting
  dsimp only
  split
  · exact fresh
  · split
    · exact same.end_ k.answer
    · exact fresh

theorem State.VotesStand.takeUnanswered {β : Type} {decode : List Byte → Option β} {handle : β → State → State}
    (k : State.EndFrame e s t) (h : ∀ b, s.VotesStand (handle b t)) :
    s.VotesStand (t.takeUnanswered e x f decode handle) := by
  unfold State.takeUnanswered
  split
  · exact (State.VotesStand.refl s).end_ k.countCheckError
  · exact h _

/-- A control frame of the engine: its vote register is not touched. -/
theorem State.VotesStand.controlArrives {β : Type} {decode : List Byte → Option β} {engine : β → State → State}
    (h : ∀ b r, State.EngineFrame r (engine b r)) (k : ∀ b r, State.Turns r (engine b r) ∨ State.Closes r (engine b r)) :
    s.VotesStand (s.controlArrives e x kind f decode engine) :=
  .arrive fun _ i => .takeAwaiting i fun b =>
    ((State.VotesStand.refl s).end_ i.earn).engine_ (h b _) ((k b _).elim (·.effective) (·.effective))

/-- A reply that arrives at the sender. -/
theorem State.VotesStand.replyArrives {β : Type} {decode : List Byte → Option β} {handle : State → State}
    (h : ∀ r, State.EndFrame e s r → State.EndFrame e s (handle r)) : s.VotesStand
      (s.arrive e x kind f (fun s => s.takeUnanswered e x f decode (fun _ s => s.onReply e (frameBit f) handle))) := by
  refine .arrive fun _ k => .takeUnanswered k fun _ => ?_
  unfold State.onReply
  split
  · exact (State.VotesStand.refl s).end_ (h _ k.endRun)
  · exact (State.VotesStand.refl s).end_ k

/-! ## What a command does to the votes -/

/-- All that a command but a reset of the node does to the votes: they stand, or the port of one lane is replaced, with no claim
of an INTERMEDIATE car, and the votes recombine (R47 to R50, R160, R161, R169). -/
inductive State.VoteCases (s t : State) : Prop where
  | stands (h : s.VotesStand t)
  | recombines (l : LaneId) (g : LanePort → LanePort) (idle : (s.lane l).DetachedIdle → (g (s.lane l)).DetachedIdle)
      (claim : s.store.working.kind = .intermediate → (s.lane l).votes.claim = false →
        (g (s.lane l)).votes.claim = false) (h : (s.modLane l g).recombine.VotesStand t)

theorem State.VoteCases.same (s : State) : s.VoteCases s := .stands (.refl s)

theorem State.VoteCases.reply (h : s.VoteCases t) {a : Reply} : s.VoteCases (t.reply l a) := by
  cases h with
  | stands h => exact .stands h.reply
  | recombines m g idle claim h => exact .recombines m g idle claim h.reply

theorem State.VoteCases.handleKind {is : Byte → Bool} {g : List Byte → Reply × State}
    (h : ∀ body, s.VoteCases (g body).2) : s.VoteCases (s.handleKind l is g) := by
  unfold State.handleKind
  split
  · split
    · exact (h _).reply
    · exact .same s
  · exact .same s
  · exact .same s

/-- A request that a DETACHED lane may not make. -/
theorem State.VoteCases.handleAttached {code : Byte} {g : List Byte → Reply × State}
    (h : (s.lane l).attached = true → ∀ body, s.VoteCases (g body).2) : s.VoteCases (s.handleAttached l code g) := by
  refine .handleKind fun body => ?_
  split
  · next here => exact h here body
  · exact .same s

theorem noBody_voteCases {p : Reply × State} (h : s.VoteCases p.2) (body : List Byte) :
    s.VoteCases (noBody s p body).2 := by
  unfold noBody
  split
  · exact h
  · exact .same s

theorem withBody_voteCases {β : Type} {decode : List Byte → Option β} {g : β → Reply × State}
    (h : ∀ b, s.VoteCases (g b).2) (body : List Byte) : s.VoteCases (withBody s decode g body).2 := by
  unfold withBody
  split
  · exact h _
  · exact .same s

/-- A lane that is detached, or whose port is reset, votes no to all and holds nothing. -/
theorem State.VoteCases.detaches (s : State) (l : LaneId) {g : LanePort → LanePort}
    (idle : (g (s.lane l)).DetachedIdle) (votes : (g (s.lane l)).votes = Votes.none) :
    s.VoteCases (s.modLane l g).recombine :=
  .recombines l g (fun _ => idle) (fun _ _ => by rw [votes]; rfl) (.refl _)

/-- ATTACH: the votes of the lane are those it held (R160). -/
theorem State.attachLane_voteCases (s : State) (l : LaneId) : s.VoteCases (s.attachLane l) := by
  unfold State.attachLane
  split
  · exact .same s
  · exact .recombines l _ (fun _ away => by cases away) (fun _ => id) (.refl _)

/-- DETACH (R161). -/
theorem State.detachRequest_voteCases (s : State) (l : LaneId) : s.VoteCases (s.detachRequest l) := by
  unfold State.detachRequest
  split
  · exact .detaches s l (g := LanePort.detached) (fun _ => ⟨rfl, rfl, rfl, rfl, rfl⟩) rfl
  · exact .same s

/-- SET-VOTES of an attached lane: an INTERMEDIATE car's claim is held as no (R48). -/
theorem State.setVotes_voteCases (here : (s.lane l).attached = true) (v : Votes) : s.VoteCases (s.setVotes l v) :=
  .recombines l _ (fun _ away => by simp [here] at away) (fun kind _ => by simp [heldVotes, kind]) (.refl _)

theorem State.VotesStand.ite {p : Prop} [Decidable p] (h : s.VotesStand t) : s.VotesStand (if p then t else s) := by
  split
  · exact h
  · exact .refl s

/-- Every command but POWER_ON and NODE_RESET leaves the votes or recombines them. -/
theorem exec_voteCases (c : Instr) (s : State) :
    ∃ t, exec c s = .next t ∧ (c = .powerOn ∨ c = .nodeReset ∨ s.VoteCases t) := by
  have same := State.VotesStand.refl s
  have none_ : ∀ e, State.EndFrame e s s := fun e => .refl e s
  have cases_ : ∀ {c : Instr} {t : State}, exec c s = .next t → s.VoteCases t →
      ∃ t, exec c s = .next t ∧ (c = .powerOn ∨ c = .nodeReset ∨ s.VoteCases t) := fun h k => ⟨_, h, .inr (.inr k)⟩
  have stands : ∀ {c : Instr} {t : State}, exec c s = .next t → s.VotesStand t →
      ∃ t, exec c s = .next t ∧ (c = .powerOn ∨ c = .nodeReset ∨ s.VoteCases t) := fun h k => cases_ h (.stands k)
  cases c with
  | powerOn => exact ⟨_, rfl, .inl rfl⟩
  | nodeReset => exact ⟨_, rfl, .inr (.inl rfl)⟩
  | nodeResetRelease => exact stands rfl (same.beside rfl rfl rfl)
  | startUpComplete => exact stands rfl (.ite s.startUp_votesStand)
  | laneReset l => exact cases_ rfl (.detaches s l (fun _ => ⟨rfl, rfl, rfl, rfl, rfl⟩) rfl)
  | laneResetRelease l => exact stands rfl (same.modLane (.of_same rfl rfl rfl rfl))
  | couplerSenseChange e coupled =>
    refine stands rfl ?_
    unfold State.senseChange
    split
    · exact same
    · dsimp only
      split
      · exact same.modEnd
      · exact same.modEnd.modEnd.afterLines
  | carrierChange e x present =>
    refine stands rfl ?_
    unfold State.carrierChange
    split
    · exact same
    · dsimp only
      split
      · exact same.modEnd
      · exact same.modEnd.modEnd.afterLines
  | settleTimerExpiry e x => exact stands rfl (.ite same.modEnd.afterLines)
  | fullSweepStart e => exact stands rfl same.modEnd
  | fullSweepEnd e runs =>
    refine stands rfl ?_
    split
    · exact same.fullSweepEnded
    · exact same
    · exact same
  | trainingPauseEnd e x => exact stands rfl (.ite same.modEnd)
  | silenceTimerExpiry e x => exact stands rfl (.ite same.lineSilent)
  | recentreTurn => exact stands rfl (.ite s.recentreTurn_votesStand)
  | recentreSweepEnd e runs =>
    refine stands rfl ?_
    split
    · exact same.recentreEnded
    · exact same
    · exact same
  | patternHoldEnd e x => exact stands rfl (.ite (same.end_ (none_ e).holdEnded))
  | beaconDue e x => exact stands rfl (.ite (same.end_ (none_ e).queueBeacon))
  | transmissionEnd e x => exact stands rfl (same.end_ (none_ e).endTransmission)
  | unknownFrameKind e x kind f => exact stands rfl (.arrive fun _ k => same.end_ k.answer)
  | beacon e x f => exact stands rfl (.arrive fun _ k => .takeUnanswered k fun _ => (same.end_ k).modEnd.decideEnd)
  | patternRequest e x f => exact stands rfl (.arrive fun _ k => .takeAwaiting k fun _ => same.end_ k.earn)
  | alert e x f =>
    exact stands rfl (.controlArrives (fun _ _ => (State.EngineFrame.refl _).onAlert) fun _ r => .inl (r.onAlert_turns e _))
  | tally e x f =>
    exact stands rfl (.controlArrives (fun _ _ => (State.EngineFrame.refl _).onTally) fun _ r => r.onTally_turns e _ _)
  | closure e x f =>
    exact stands rfl (.controlArrives (fun _ _ => (State.EngineFrame.refl _).onClosure) fun _ r =>
      r.onClosure_turns e _ _ _)
  | commit e x f =>
    exact stands rfl (.controlArrives (fun _ _ => (State.EngineFrame.refl _).onCommit) fun _ r =>
      .inl (r.onCommit_turns e _ _ _))
  | dissent e x f =>
    exact stands rfl (.controlArrives (fun _ _ => (State.EngineFrame.refl _).onDissent) fun _ r =>
      .inl (r.onDissent_turns e _ _))
  | defer e x f =>
    exact stands rfl (.controlArrives (fun _ _ => (State.EngineFrame.refl _).onDefer) fun _ r =>
      .inl (r.onDefer_turns e _ _))
  | commitPurge => exact stands rfl s.purgeAtCommit_votesStand
  | admissionAtCommit => exact stands rfl same.decideEnd.decideEnd
  | data e x f => exact stands rfl (.arrive fun _ k => .takeAwaiting k fun _ => (same.end_ k).examineArrival)
  | accept e x f => exact stands rfl (.replyArrives fun _ k => k.endFrame)
  | hold e x f => exact stands rfl (.replyArrives fun _ k => k.onHold)
  | refuse e x f => exact stands rfl (.replyArrives fun _ k => k.endFrame)
  | replyTimeout e => exact stands rfl (.ite same.replyTimedOut)
  | holdWaitEnd e => exact stands rfl (.ite (same.end_ (none_ e).sendHeld))
  | pendingSend e => exact stands rfl (.ite (same.end_ (none_ e).firstSend))
  | arbiterOffer e => exact stands rfl (same.end_ (.offerFrame s e))
  | resolverExamination => exact stands rfl s.resolverOpportunity_votesStand
  | deadlineExpiry =>
    exact stands rfl (.ite (same.engine_ (State.EngineFrame.refl s).deadlineExpired s.deadlineExpired_turns.effective))
  | releaseEnd => exact stands rfl (.ite s.releaseEnded_votesStand)
  | engageEnd => exact stands rfl (.ite same.setBypass.testRelease)
  | scrub =>
    refine stands rfl (.ite ?_)
    unfold State.scrubbed
    split
    · exact same.latch
    · exact .ite same.latch
  | writeComplete => exact stands rfl (.ite same.setStore.storeDone)
  | lockComplete => exact stands rfl (.ite same.setStore.storeDone)
  | laneTransaction l span bytes =>
    refine stands rfl ?_
    split
    · exact same
    · exact same.modLane (.transact _ _ bytes)
  | unknownRequest l => exact cases_ rfl (.handleKind fun _ => .same s)
  | null l => exact cases_ rfl (.handleKind (noBody_voteCases (.same s)))
  | attach l => exact cases_ rfl (.handleKind (noBody_voteCases (s.attachLane_voteCases l)))
  | detach l => exact cases_ rfl (.handleKind (noBody_voteCases (s.detachRequest_voteCases l)))
  | setVotes l => exact cases_ rfl (.handleAttached fun here => withBody_voteCases (State.setVotes_voteCases here))
  | send l =>
    exact cases_ rfl (.handleAttached fun here => withBody_voteCases fun m => .stands (State.judgeSend_votesStand here m))
  | fetch l =>
    refine cases_ rfl (.handleAttached fun here => noBody_voteCases (.stands ?_))
    unfold State.fetchEntry
    split
    · exact same
    · dsimp only
      exact same.modAttached (fun _ => here) rfl rfl
  | readDirectory l => exact cases_ rfl (.handleKind (withBody_voteCases fun _ => .same s))
  | readNode l => exact cases_ rfl (.handleKind (noBody_voteCases (.same s)))
  | readLines l => exact cases_ rfl (.handleKind (withBody_voteCases fun _ => .same s))
  | readCounters l => exact cases_ rfl (.handleKind (noBody_voteCases (.same s)))
  | readNotices l => exact cases_ rfl (.handleKind (noBody_voteCases (.same s)))
  | clearNotices l =>
    exact cases_ rfl (.handleKind (withBody_voteCases fun _ => .stands (same.modLane (.of_same rfl rfl rfl rfl))))
  | setMask l =>
    refine cases_ rfl (.handleKind (withBody_voteCases fun _ => .stands ?_))
    dsimp only
    exact same.modLane (.of_same rfl rfl rfl rfl)
  | startInauguration l =>
    refine cases_ rfl (.handleAttached fun _ => noBody_voteCases (.stands ?_))
    unfold State.startInauguration
    split
    · exact same
    · exact same.topologyChange
  | retrainLine l =>
    exact cases_ rfl (.handleAttached fun _ => withBody_voteCases fun _ => .stands (.ite same.modEnd.afterLines))
  | readSetting l => exact cases_ rfl (.handleKind (withBody_voteCases fun _ => .same s))
  | writeSetting l =>
    refine cases_ rfl (.handleAttached fun _ => withBody_voteCases fun _ => .stands ?_)
    unfold State.writeSetting
    split
    · exact same
    · split
      · exact same
      · split
        · exact same
        · exact same.setStore
  | lockCommissioning l =>
    refine cases_ rfl (.handleAttached fun _ => noBody_voteCases (.stands ?_))
    unfold State.lockCommissioning
    split
    · exact same
    · split
      · exact same
      · split
        · exact same
        · exact same.setStore

/-! ## The vote register is the combination (O14) -/

/-- DETACHED lanes are idle and the register is what the recombination would write. -/
def State.RegisterKept (s : State) : Prop :=
  s.EveryLane LanePort.DetachedIdle ∧ s.engine.effective = effectiveVotes s.laneA s.laneB

/-- No lane of an INTERMEDIATE car claims, and a car is INTERMEDIATE until its settings are loaded (R48; log 24). -/
def State.ClaimsKept (s : State) : Prop :=
  (s.store.working.kind = .intermediate → s.EveryLane (fun p => p.votes.claim = false)) ∧
  (s.store.activity = .loading → s.store.working.kind = .intermediate)

/-- A value that every attached lane votes, with one attached, as R49 combines it. -/
theorem State.allAttached_iff (s : State) (vote : Votes → Bool) :
    allAttached s.laneA s.laneB vote = true ↔ s.AllAttachedVote vote := by
  unfold allAttached State.AllAttachedVote
  cases s.laneA.attached <;> cases s.laneB.attached <;> simp

/-- Three effective values are the combination of the votes when each is (R49). -/
theorem State.effective_iff (s : State) (v : Votes) : v = effectiveVotes s.laneA s.laneB ↔
    (v.inhibit = true ↔ (s.laneA.attached = true ∧ s.laneA.votes.inhibit = true) ∨
      (s.laneB.attached = true ∧ s.laneB.votes.inhibit = true)) ∧
    (v.claim = true ↔ s.AllAttachedVote Votes.claim) ∧ (v.bypass = true ↔ s.AllAttachedVote Votes.bypass) := by
  obtain ⟨inhibit, claim, bypass⟩ := v
  rw [← s.allAttached_iff, ← s.allAttached_iff, ← Bool.and_eq_true, ← Bool.and_eq_true, ← Bool.or_eq_true,
    ← Bool.eq_iff_iff, ← Bool.eq_iff_iff, ← Bool.eq_iff_iff]
  exact Votes.mk.injEq .. ▸ Iff.rfl

theorem State.votesKept_iff : s.VotesKept ↔ s.RegisterKept ∧ s.ClaimsKept := by
  unfold State.VotesKept State.RegisterKept State.ClaimsKept
  rw [State.effective_iff]
  tauto

theorem State.EveryLane.lane {P : LanePort → Prop} : s.EveryLane P ↔ ∀ l, P (s.lane l) :=
  ⟨fun ⟨a, b⟩ l => by cases l; exacts [a, b], fun h => ⟨h .laneA, h .laneB⟩⟩

/-- Votes that stand combine as they did. -/
theorem State.VotesStand.combination (k : s.VotesStand t) :
    effectiveVotes t.laneA t.laneB = effectiveVotes s.laneA s.laneB := by
  obtain ⟨attachedA, votesA, -⟩ := k.lanes .laneA
  obtain ⟨attachedB, votesB, -⟩ := k.lanes .laneB
  simp only [State.lane_laneA, State.lane_laneB] at attachedA votesA attachedB votesB
  unfold effectiveVotes allAttached
  rw [attachedA, attachedB, votesA, votesB]

theorem State.RegisterKept.stands (h : s.RegisterKept) (k : s.VotesStand t) : t.RegisterKept := by
  obtain ⟨idle, register⟩ := h
  rw [State.EveryLane.lane] at idle
  refine ⟨State.EveryLane.lane.2 fun l => (k.lanes l).idle (idle l), ?_⟩
  rw [k.effective, k.combination, register]

/-- A recombination writes the combination, whatever the register held. -/
theorem State.RegisterKept.recombine (idle : s.EveryLane LanePort.DetachedIdle) : s.recombine.RegisterKept :=
  State.RegisterKept.stands (s := s.withVotes (effectiveVotes s.laneA s.laneB)) ⟨idle, rfl⟩ s.recombine_votesStand

theorem State.RegisterKept.voteCases (h : s.RegisterKept) (k : s.VoteCases t) : t.RegisterKept := by
  cases k with
  | stands k => exact h.stands k
  | recombines l g idle _ k =>
    have kept := State.EveryLane.lane.1 h.1
    refine (State.RegisterKept.recombine (State.EveryLane.lane.2 fun m => ?_)).stands k
    rcases LaneId.eq_or_other l m with rfl | rfl
    · rw [State.lane_modLane_self]
      exact idle (kept _)
    · rw [State.lane_modLane_other]
      exact kept _

/-- No command but a reset of the node makes a lane of an INTERMEDIATE car claim. -/
theorem State.VoteCases.claims (k : s.VoteCases t) (kind : s.store.working.kind = .intermediate)
    (h : s.EveryLane (fun p => p.votes.claim = false)) : t.EveryLane (fun p => p.votes.claim = false) := by
  rw [State.EveryLane.lane] at h ⊢
  intro m
  cases k with
  | stands k => rw [(k.lanes m).votes, h m]
  | recombines l g _ claim k =>
    rw [(k.lanes m).votes, ((State.recombine_votesStand _).lanes m).votes, State.lane_withVotes]
    rcases LaneId.eq_or_other l m with rfl | rfl
    · rw [State.lane_modLane_self]
      exact claim kind (h _)
    · rw [State.lane_modLane_other, h _]

/-! ## The working copy (R172, R173) -/

theorem State.recombine_working (s : State) : s.recombine.store.working = s.store.working := by
  obtain ⟨q, changed, eq⟩ := s.recombine_cases
  have kept : q.store.working = s.store.working := changed.elim (·.working) (·.working)
  rw [eq]
  rcases q.votesAtEngine_turns s.engine.effective with k | ⟨-, k⟩
  · rw [k, kept]
  · rw [k.steady.working, kept]

/-- Only the resets and the end of start-up write the working copy. -/
theorem State.Passes.working (k : s.Passes t) : t.store.working = s.store.working := by
  induction k with
  | start => rfl
  | frame _ k ih => exact k.working.trans ih
  | lane l g => rw [State.store_modLane]
  | turns _ _ k ih => exact k.steady.working.trans ih
  | arrives _ hr k => exact (k.elim (·.steady.working) (·.working)).trans hr.working
  | standsDown _ k ih => exact k.working.trans ih
  | released _ b => rfl
  | recombines l g => rw [State.recombine_working, State.store_modLane]

/-- The end of start-up ends the load. -/
theorem State.startUp_loaded (s : State) : s.startUp.store.activity ≠ .loading := fun h => by
  have loading : s.store.afterLoad.activity = .loading := s.startUp_cases.elim (·.loading h) (·.loading h)
  cases loading

/-- The working copy stands and no load begins, or a load ends. -/
def State.LoadsOnce (s t : State) : Prop :=
  (t.store.working = s.store.working ∧ (t.store.activity = .loading → s.store.activity = .loading)) ∨
  (s.store.activity = .loading ∧ t.store.activity ≠ .loading)

/-- Every command but POWER_ON and NODE_RESET leaves the working copy or ends its load. -/
theorem exec_loadsOnce {c : Instr} (k : exec c s = .next t) (power : c ≠ .powerOn) (reset : c ≠ .nodeReset) :
    s.LoadsOnce t := by
  obtain ⟨r, runs, passes⟩ := exec_passes c s
  obtain rfl : r = t := Host.Outcome.next.inj (runs.symm.trans k)
  rcases passes with rfl | rfl | rfl | passes
  · exact absurd rfl power
  · exact absurd rfl reset
  · obtain rfl : (if !s.nrst && s.store.activity == .loading then s.startUp else s) = r := Host.Outcome.next.inj k
    split
    · next starts =>
      simp only [Bool.and_eq_true, beq_iff_eq] at starts
      exact .inr ⟨starts.2, s.startUp_loaded⟩
    · exact .inl ⟨rfl, id⟩
  · exact .inl ⟨passes.working, passes.loading⟩

/-- Until the load the car is INTERMEDIATE, so that no lane claims when it ends. -/
theorem State.ClaimsKept.voteCases (h : s.ClaimsKept) (k : s.VoteCases t) (loads : s.LoadsOnce t) : t.ClaimsKept := by
  obtain ⟨claims, loading⟩ := h
  rcases loads with ⟨working, begins⟩ | ⟨was, ended⟩
  · unfold State.ClaimsKept
    rw [working]
    exact ⟨fun kind => k.claims kind (claims kind), loading ∘ begins⟩
  · have kind := loading was
    exact ⟨fun _ => k.claims kind (claims kind), fun now => absurd now ended⟩

/-- A node that has been reset: DETACHED lanes, and the settings of an INTERMEDIATE car. -/
theorem State.resetBlocks_votesKept (s : State) (c : ResetCause) : (s.resetBlocks c).VotesKept :=
  State.votesKept_iff.2
    ⟨⟨⟨LanePort.reset_detachedIdle, LanePort.reset_detachedIdle⟩, rfl⟩, fun _ => ⟨rfl, rfl⟩, fun _ => rfl⟩

theorem State.VotesKept.exec {c : Instr} (h : s.VotesKept) (k : exec c s = .next t) : t.VotesKept := by
  obtain ⟨register, claims⟩ := State.votesKept_iff.1 h
  obtain ⟨r, runs, votes⟩ := exec_voteCases c s
  obtain rfl : r = t := Host.Outcome.next.inj (runs.symm.trans k)
  by_cases power : c = .powerOn
  · subst power
    obtain rfl : s.resetBlocks .powerOn = r := Host.Outcome.next.inj k
    exact s.resetBlocks_votesKept _
  by_cases reset : c = .nodeReset
  · subst reset
    obtain rfl : { s.resetBlocks .nodeReset with nrst := true } = r := Host.Outcome.next.inj k
    exact s.resetBlocks_votesKept .nodeReset
  have votes : s.VoteCases r := (votes.resolve_left power).resolve_left reset
  exact State.votesKept_iff.2 ⟨register.voteCases votes, claims.voteCases votes (exec_loadsOnce k power reset)⟩

end Sys2Proof.Machine

open Sys2Proof Sys2Proof.Machine in
/-- Settles O14: a command leaves the votes or recombines them, and only the resets and the load write the car kind. -/
theorem votesKeptByStep : Obligations.VotesKeptByStep := by
  intro s t h k
  rcases step_cases k with rfl | ⟨c, rest, k⟩
  · exact h
  · exact State.VotesKept.exec (s := { s with pending := rest }) h k
end

section
/-! PROOF. A lane reset: the port it empties, and the votes of the lane that is left. -/

namespace Sys2Proof.Machine

open Sys2Proof

/-- With one lane DETACHED the effective values are the votes of the other, if it is attached (R49). -/
theorem effectiveVotes_detached {p : LanePort} (away : p.attached = false) (q : LanePort) :
    effectiveVotes p q = if q.attached then q.votes else Votes.none := by
  unfold effectiveVotes allAttached
  rw [away]
  cases q.attached <;> simp [Votes.none]

/-- The votes behind a lane reset, as the recombination writes them. -/
theorem State.laneReset_effective (s : State) (l : LaneId) :
    effectiveVotes (s.modLane l LanePort.laneReset).laneA (s.modLane l LanePort.laneReset).laneB =
      if (s.lane l.other).attached then (s.lane l.other).votes else Votes.none :=
  (effectiveVotes_lanes s l _).trans (effectiveVotes_detached rfl _)

end Sys2Proof.Machine

open Sys2Proof Sys2Proof.Machine in
/-- Settles O25: the port is emptied first, and the recombination behind it writes only reports into an empty port. -/
theorem laneResetEmptiesThePort : Obligations.LaneResetEmptiesThePort := by
  intro l s left
  let y := s.modLane l LanePort.laneReset
  let v := y.withVotes (effectiveVotes y.laneA y.laneB)
  have combined : v.engine.effective = left := s.laneReset_effective l
  refine ⟨⟨y.recombine, rfl, ?_, ?_⟩, fun same => ?_⟩
  · rw [State.recombine_engine (v := v) rfl, combined]
  · obtain ⟨port, sends⟩ := y.recombine_lane l
    have emptied : y.lane l = (s.lane l).laneReset := State.lane_modLane_self ..
    rw [emptied] at port sends
    have held : (y.recombine.lane l).lrst = true := congrArg LanePort.lrst port
    refine ⟨held, by simp [LanePort.attn, held], ?_⟩
    rw [port]
    exact ⟨rfl, rfl, sends rfl, rfl, rfl, rfl, rfl, rfl, rfl⟩
  · have before : y.engine.effective = v.engine.effective := (State.engine_modLane .. ▸ same).trans combined.symm
    have stands : v = y := congrArg y.withVotes before.symm
    exact congrArg Host.Outcome.next ((State.recombine_same rfl before).trans stands)
end

section
/-! PROOF. The operations of one end unit as functions of that unit: what the node does there beside the beacon's fields and the
losses of its lanes, said once by an equation for each. -/

namespace Sys2Proof.Machine

open Sys2Proof

variable {s : State} {u : EndUnit} {e : EndId} {x y : LineId} {b : LineFrame}

/-! ## Changes of one end, one after another -/

theorem State.modEnd_modEnd (s : State) (e : EndId) (g k : EndUnit → EndUnit) :
    (s.modEnd e g).modEnd e k = s.modEnd e (fun u => k (g u)) := by cases e <;> rfl

theorem State.modEnd_congr {g k : EndUnit → EndUnit} (h : g (s.endUnit e) = k (s.endUnit e)) :
    s.modEnd e g = s.modEnd e k := by
  unfold State.modEnd
  rw [h]

theorem State.modLine_congr {g k : LineUnit → LineUnit} (h : g (s.line e x) = k (s.line e x)) :
    s.modLine e x g = s.modLine e x k := State.modEnd_congr (congrArg ((s.endUnit e).setLine x) h)

theorem State.modEnd_same {g : EndUnit → EndUnit} (h : g (s.endUnit e) = s.endUnit e) : s.modEnd e g = s := by
  unfold State.modEnd
  rw [h, State.setEnd_endUnit]

theorem State.modEnd_modLine (s : State) (e : EndId) (g : EndUnit → EndUnit) (x : LineId) (k : LineUnit → LineUnit) :
    (s.modEnd e g).modLine e x k = s.modEnd e (fun u => (g u).modLine x k) := State.modEnd_modEnd ..

theorem LineUnit.isActive_iff {n : LineUnit} : n.isActive = true ↔ n.state = .active := beq_iff_eq

@[simp] theorem State.beaconFrame_modEnd (s : State) (e d : EndId) (g : EndUnit → EndUnit) :
    (s.modEnd e g).beaconFrame d = s.beaconFrame d := by cases e <;> rfl

@[simp] theorem State.beaconFrame_modLine (s : State) (e d : EndId) (x : LineId) (g : LineUnit → LineUnit) :
    (s.modLine e x g).beaconFrame d = s.beaconFrame d := by cases e <;> rfl

@[simp] theorem State.beaconFrame_modSender (s : State) (e d : EndId) (g : Sender → Sender) :
    (s.modSender e g).beaconFrame d = s.beaconFrame d := by cases e <;> rfl

theorem EndUnit.modLine_same {g : LineUnit → LineUnit} (h : g (u.line x) = u.line x) : u.modLine x g = u := by
  unfold EndUnit.modLine
  rw [h, EndUnit.setLine_line]

theorem EndUnit.modLine_modLine (u : EndUnit) (x : LineId) (g k : LineUnit → LineUnit) :
    (u.modLine x g).modLine x k = u.modLine x (fun n => k (g n)) := by cases x <;> rfl

/-! ## A line that begins what waits for it (R89, R92) -/

/-- The line is free to begin a frame: ACTIVE, not in pattern hold and not transmitting. -/
def LineUnit.Free (n : LineUnit) : Prop := n.state = .active ∧ n.holdTimer = none ∧ n.tx.sending = none


/-- What a line begins, its BEACON and its end's sender given (R89, R92). -/
def LineUnit.serve (b : LineFrame) (k : Sender) (n : LineUnit) : LineUnit :=
  if n.isActive && !n.inHold && n.tx.sending.isNone then { n with tx := n.tx.begin_ b k } else n

theorem LineUnit.serve_free {n : LineUnit} {k : Sender} (h : n.Free) : n.serve b k = { n with tx := n.tx.begin_ b k } := by
  obtain ⟨active, hold, sending⟩ := h
  simp [LineUnit.serve, LineUnit.isActive, LineUnit.inHold, Timer.running, active, hold, sending]

theorem LineUnit.serve_waits {n : LineUnit} {k : Sender} (h : ¬ n.Free) : n.serve b k = n := by
  refine if_neg (fun c => h ?_)
  simpa [LineUnit.Free, LineUnit.isActive, LineUnit.inHold, Timer.running, and_assoc] using c

theorem State.serve_eq (s : State) (e : EndId) (x : LineId) :
    s.serve e x = s.modLine e x (LineUnit.serve (s.beaconFrame e) (s.endUnit e).sender) := by
  unfold State.serve
  dsimp only
  split
  · rename_i h
    exact State.modLine_congr (if_pos h).symm
  · rename_i h
    exact (State.modLine_same (if_neg h)).symm

/-- A send of the held frame on its line, or its wait for the line's pattern hold (R79, R94, R97, R99). -/
def EndUnit.sendHeld (b : LineFrame) (u : EndUnit) : EndUnit :=
  let x := u.sender.currentLine
  if (u.line x).inHold then { u with sender := { u.sender with state := .awaiting, timer := .stopped, waitsHold := true } }
  else
    let k : Sender := { u.sender with
      state := .awaiting, timer := .reply, waitsHold := false, sends := u.sender.sends + 1, lastLine := x }
    { u.modLine x (fun n => LineUnit.serve b k { n with tx := { n.tx with frameDue := true } }) with sender := k }

/-- In a pattern hold the send waits. -/
theorem EndUnit.sendHeld_waits (h : (u.line u.sender.currentLine).inHold = true) : u.sendHeld b =
    { u with sender := { u.sender with state := .awaiting, timer := .stopped, waitsHold := true } } := if_pos h

/-- The sender of a frame that is sent. -/
def Sender.sending (k : Sender) : Sender :=
  { k with state := .awaiting, timer := .reply, waitsHold := false, sends := k.sends + 1, lastLine := k.currentLine }

/-- A line on which the held frame falls due. -/
def LineUnit.frameFallsDue (b : LineFrame) (k : Sender) (n : LineUnit) : LineUnit :=
  LineUnit.serve b k { n with tx := { n.tx with frameDue := true } }

theorem EndUnit.sendHeld_sends (h : (u.line u.sender.currentLine).inHold = false) : u.sendHeld b =
    { u.modLine u.sender.currentLine (LineUnit.frameFallsDue b u.sender.sending) with sender := u.sender.sending } :=
  if_neg (by rw [h]; decide)

theorem State.sendHeld_eq (s : State) (e : EndId) : s.sendHeld e = s.modEnd e (EndUnit.sendHeld (s.beaconFrame e)) := by
  unfold State.sendHeld
  dsimp only
  split
  · rename_i h
    exact State.modEnd_congr (EndUnit.sendHeld_waits h).symm
  · rename_i h
    refine Eq.trans ?_ (congrArg (s.setEnd e) (EndUnit.sendHeld_sends (eq_false_of_ne_true h)).symm)
    have line : ∀ (u : EndUnit) (k : Sender) y, ({ u with sender := k }.modLine y
        (fun n => { n with tx := { n.tx with frameDue := true } })).modLine y (LineUnit.serve (s.beaconFrame e) k) =
          { u.modLine y (LineUnit.frameFallsDue (s.beaconFrame e) k) with sender := k } := fun u k y => by
      cases y <;> rfl
    rw [State.serve_eq, State.beaconFrame_modLine, State.beaconFrame_modSender, State.endUnit_modLine_self,
      State.endUnit_modSender_self, EndUnit.sender_modLine]
    exact (State.modEnd_modEnd ..).trans ((State.modEnd_modEnd ..).trans (congrArg (s.setEnd e) (line _ _ _)))

/-- The first send of the held frame (R87, R94). -/
def EndUnit.firstSend (b : LineFrame) (u : EndUnit) : EndUnit :=
  match u.selectLine with
  | some x => EndUnit.sendHeld b { u with sender := { u.sender with currentLine := x } }
  | none => { u with sender := { u.sender with state := .pending } }

theorem State.firstSend_eq (s : State) (e : EndId) :
    s.firstSend e = s.modEnd e (EndUnit.firstSend (s.beaconFrame e)) := by
  unfold State.firstSend
  split
  · rename_i x h
    rw [State.sendHeld_eq, State.beaconFrame_modSender]
    refine Eq.trans (State.modEnd_modEnd ..) (State.modEnd_congr ?_)
    unfold EndUnit.firstSend
    rw [h]
  · rename_i h
    refine State.modEnd_congr ?_
    unfold EndUnit.firstSend
    rw [h]

/-- The sender takes a frame from the arbiter (R94). -/
def EndUnit.takeFrame (b : LineFrame) (f : HeldFrame) (u : EndUnit) : EndUnit :=
  EndUnit.firstSend b { u with sender := { u.sender with
    frame := some f, currentBit := u.sender.nextBit, sends := 0, holds := 0, moved := false,
    waitsHold := false, timer := .stopped } }

theorem State.takeFrame_eq (s : State) (e : EndId) (f : HeldFrame) :
    s.takeFrame e f = s.modEnd e (EndUnit.takeFrame (s.beaconFrame e) f) := by
  unfold State.takeFrame
  rw [State.firstSend_eq, State.beaconFrame_modSender]
  exact State.modEnd_modEnd ..

/-- The frame moves to the partner line (R97, R101). -/
def EndUnit.moveFrame (b : LineFrame) (u : EndUnit) : EndUnit :=
  EndUnit.sendHeld b { u.withdraw with sender := { u.sender with
    moved := true, currentLine := u.sender.currentLine.partner, sends := 0 } }

theorem State.moveFrame_eq (s : State) (e : EndId) :
    s.moveFrame e = s.modEnd e (EndUnit.moveFrame (s.beaconFrame e)) := by
  unfold State.moveFrame
  rw [State.sendHeld_eq, State.beaconFrame_modEnd]
  exact State.modEnd_modEnd ..

/-- The end's part in the outcome of the frame its sender holds (R95). -/
def EndUnit.endFrame (o : FrameOutcome) (u : EndUnit) : EndUnit :=
  match u.sender.frame with
  | none => u
  | some f =>
    let v := (u.senderIdle o).reportRecentre o f
    { v with counters := o.count v.counters }

theorem State.endUnit_endFrame_self (s : State) (e : EndId) (o : FrameOutcome) :
    (s.endFrame o e).endUnit e = (s.endUnit e).endFrame o := by
  unfold State.endFrame EndUnit.endFrame
  cases (s.endUnit e).sender.frame with
  | none => rfl
  | some f =>
    dsimp only
    split <;> simp

/-- The frame of a sender that ends: the end's part, and losses of its lanes. -/
theorem State.endFrame_lanes (s : State) (e : EndId) (o : FrameOutcome) (l : LaneId) : (s.endFrame o e).lane l =
    match o.loss with
    | some r => (s.lane l).charged ((s.endUnit e).heldOf l) (LossCounters.count r)
    | none => s.lane l := by
  split
  · rename_i r h
    exact State.lane_endFrame_charged h s e l
  · rename_i h
    unfold State.endFrame
    split
    · rfl
    · simp [h, State.count]

/-! ## Transmissions and replies (R79, R92, R104) -/

/-- The pattern hold that follows a reply at its end (R79, R103). -/
def EndUnit.holdFollows (hold : Option LineId) (u : EndUnit) : EndUnit :=
  match hold with
  | some y => u.modLine y LineUnit.startHold
  | none => u

theorem State.holdFollows_eq (s : State) (e : EndId) (hold : Option LineId) :
    s.holdFollows e hold = s.modEnd e (EndUnit.holdFollows hold) := by
  cases hold
  · exact (State.modEnd_same rfl).symm
  · rfl

/-- The transmission of a line ends (R79, R92, R103, R104). -/
def EndUnit.endTransmission (b : LineFrame) (x : LineId) (u : EndUnit) : EndUnit :=
  if (u.line x).tx.sending.isNone then u
  else (EndUnit.holdFollows (u.line x).tx.holdAfter
    (u.modLine x (fun n => { n with tx := n.tx.cut }))).modLine x (LineUnit.serve b u.sender)

theorem EndUnit.endTransmission_idle (h : (u.line x).tx.sending.isNone = true) : u.endTransmission b x = u := if_pos h

theorem EndUnit.endTransmission_sent (h : ¬ (u.line x).tx.sending.isNone = true) : u.endTransmission b x =
    (EndUnit.holdFollows (u.line x).tx.holdAfter
      (u.modLine x (fun n => { n with tx := n.tx.cut }))).modLine x (LineUnit.serve b u.sender) := if_neg h

theorem State.endTransmission_eq (s : State) (e : EndId) (x : LineId) :
    s.endTransmission e x = s.modEnd e (EndUnit.endTransmission (s.beaconFrame e) x) := by
  unfold State.endTransmission
  dsimp only
  split
  · rename_i h
    exact (State.modEnd_same (EndUnit.endTransmission_idle h)).symm
  · rename_i h
    refine Eq.trans ?_ (congrArg (s.setEnd e) (EndUnit.endTransmission_sent h).symm)
    rw [State.holdFollows_eq, State.serve_eq, State.beaconFrame_modEnd, State.beaconFrame_modLine]
    unfold State.line
    generalize ((s.endUnit e).line x).tx.holdAfter = hold
    rcases hold with _ | y
    · cases e <;> cases x <;> rfl
    · cases e <;> cases x <;> cases y <;> rfl

/-- A reply queued on a line (R104). -/
def LineUnit.queueReply (b : LineFrame) (k : Sender) (r : WaitingReply) (n : LineUnit) : LineUnit :=
  LineUnit.serve b k { n with tx := { n.tx with replies := n.tx.replies ++ [r] } }

theorem State.queueReply_eq (s : State) (e : EndId) (x : LineId) (r : WaitingReply) :
    s.queueReply e x r = s.modLine e x (LineUnit.queueReply (s.beaconFrame e) (s.endUnit e).sender r) := by
  unfold State.queueReply
  rw [State.serve_eq, State.modLine_modLine, State.beaconFrame_modLine, State.endUnit_modLine_self, EndUnit.sender_modLine]
  rfl

/-- A beacon that falls due on a line (R92). -/
def LineUnit.queueBeacon (b : LineFrame) (k : Sender) (n : LineUnit) : LineUnit :=
  LineUnit.serve b k { n with tx := { n.tx with beaconDue := true } }

theorem State.queueBeacon_eq (s : State) (e : EndId) (x : LineId) :
    s.queueBeacon e x = s.modLine e x (LineUnit.queueBeacon (s.beaconFrame e) (s.endUnit e).sender) := by
  unfold State.queueBeacon
  rw [State.serve_eq, State.modLine_modLine, State.beaconFrame_modLine, State.endUnit_modLine_self, EndUnit.sender_modLine]
  rfl

/-- The receiver's answer (R104). -/
def EndUnit.answer (b : LineFrame) (x : LineId) (r : WaitingReply) (u : EndUnit) : EndUnit :=
  if (u.line x).canReply then u.modLine x (LineUnit.queueReply b u.sender r)
  else if (u.line x.partner).canReply then u.modLine x.partner (LineUnit.queueReply b u.sender r)
  else u.holdFollows r.holdAfter

theorem State.answer_eq (s : State) (e : EndId) (x : LineId) (r : WaitingReply) :
    s.answer e x r = s.modEnd e (EndUnit.answer (s.beaconFrame e) x r) := by
  unfold State.answer
  split
  · rename_i h
    rw [State.queueReply_eq]
    exact State.modEnd_congr (if_pos h).symm
  · rename_i h
    split
    · rename_i k
      rw [State.queueReply_eq]
      exact State.modEnd_congr ((if_neg h).trans (if_pos k)).symm
    · rename_i k
      rw [State.holdFollows_eq]
      exact State.modEnd_congr ((if_neg h).trans (if_neg k)).symm

/-- An answer that a new frame earned (R102, R104). -/
def EndUnit.earn (b : LineFrame) (x : LineId) (r : WaitingReply) (u : EndUnit) : EndUnit :=
  EndUnit.answer b x r (match r.answer.final with
    | some f => { u with receiver := some { bit := r.bit, answer := f } }
    | none => u)

theorem State.earn_eq (s : State) (e : EndId) (x : LineId) (r : WaitingReply) :
    s.earn e x r = s.modEnd e (EndUnit.earn (s.beaconFrame e) x r) := by
  unfold State.earn EndUnit.earn
  cases r.answer.final with
  | none => exact State.answer_eq ..
  | some f =>
    dsimp only
    rw [State.answer_eq, State.modEnd_modEnd, State.beaconFrame_modEnd]

/-! ## A HOLD, and a line that becomes ACTIVE -/

/-- The pattern hold of a line ends (R79). -/
def EndUnit.holdEnded (b : LineFrame) (x : LineId) (u : EndUnit) : EndUnit :=
  let v := u.modLine x (fun n => { n with holdTimer := none })
  if u.sender.waitsFor x then v.sendHeld b else v.modLine x (LineUnit.serve b u.sender)

theorem State.holdEnded_eq (s : State) (e : EndId) (x : LineId) :
    s.holdEnded e x = s.modEnd e (EndUnit.holdEnded (s.beaconFrame e) x) := by
  unfold State.holdEnded
  dsimp only
  rw [State.endUnit_modLine_self, EndUnit.sender_modLine, State.sendHeld_eq, State.serve_eq, State.beaconFrame_modLine,
    State.endUnit_modLine_self, EndUnit.sender_modLine]
  split
  · rename_i h
    exact (State.modEnd_modEnd ..).trans (State.modEnd_congr (if_pos h).symm)
  · rename_i h
    exact (State.modEnd_modEnd ..).trans (State.modEnd_congr (if_neg h).symm)

/-- Entry to ACTIVE (R72, R92, R98). -/
def LineUnit.enterActive (silence beacon : Nat) (b : LineFrame) (k : Sender) (n : LineUnit) : LineUnit :=
  LineUnit.queueBeacon b k { n with
    state := .active, silenceTimer := some silence, beaconTimer := some beacon, unanswered := 0 }

theorem State.enterActive_eq (s : State) (e : EndId) (x : LineId) : s.enterActive e x =
    s.modLine e x (LineUnit.enterActive s.silenceTime s.beaconPeriod (s.beaconFrame e) (s.endUnit e).sender) := by
  unfold State.enterActive
  rw [State.queueBeacon_eq, State.modLine_modLine, State.beaconFrame_modLine, State.endUnit_modLine_self, EndUnit.sender_modLine]
  rfl

/-- What a change of the lines does to the sender at its end (R101). -/
def EndUnit.senderAfterLines (b : LineFrame) (u : EndUnit) : EndUnit :=
  if !u.anyActive then u.endFrame .linkDown
  else if u.sender.state.sent && !(u.line u.sender.currentLine).isActive then
    if u.sender.moved then u.endFrame .noAnswer else u.moveFrame b
  else u

theorem State.endUnit_senderAfterLines (s : State) (e : EndId) :
    (s.senderAfterLines e).endUnit e = (s.endUnit e).senderAfterLines (s.beaconFrame e) := by
  unfold State.senderAfterLines EndUnit.senderAfterLines
  dsimp only
  rw [State.moveFrame_eq]
  split
  · exact s.endUnit_endFrame_self e _
  · split
    · split
      · exact s.endUnit_endFrame_self e _
      · exact State.endUnit_modEnd_self ..
    · rfl

end Sys2Proof.Machine
end

section
/-! PROOF. What the operations of an end unit keep of it, said once: its inputs, that its lines, its trainer and its sender go
with each other, and the windows of its lines. -/

namespace Sys2Proof.Machine

open Sys2Proof

variable {u v w : EndUnit} {n m : LineUnit} {x y : LineId} {b : LineFrame} {wmin : Nat}

/-! ## The lines and the trainer (R66 to R74, R78) -/

/-- The lines and the trainer go with each other, whatever the partner of a line that waits for its recentre does. -/
structure EndUnit.Formed (u : EndUnit) : Prop where
  line : ∀ x, (u.line x).Kept
  map : u.trainer.passMap.length = 64
  full : ∀ x, u.trainer.job = .fullSweep x →
    (u.line x).state = .training ∧ (u.line x).pauseTimer = none ∧ (u.line x).wantsSweep = false
  sweeping : ∀ x, u.trainer.job = .recentreSweep x ↔ (u.line x).recentre = .sweeping
  single : ∀ x, (u.line x).recentre ≠ .none → (u.line x.partner).recentre = .none

/-- A line that waits for the answer to its PATTERN-REQUEST has an ACTIVE partner (R78). -/
def EndUnit.Partnered (u : EndUnit) : Prop := ∀ x, (u.line x).recentre = .requested → (u.line x.partner).state = .active

/-- A frame that has been sent stands on an ACTIVE line (R101). -/
def EndUnit.SentOnActive (u : EndUnit) : Prop :=
  u.sender.state = .awaiting ∨ u.sender.state = .backing → (u.line u.sender.currentLine).state = .active

theorem EndUnit.linesKept_iff : u.LinesKept ↔ u.Formed ∧ u.Partnered ∧ u.SentOnActive := by
  constructor
  · rintro ⟨⟨a, b⟩, ⟨map, full, sweeping, single, requested⟩, sent⟩
    exact ⟨⟨fun x => by cases x; exacts [a, b], map, full, sweeping, single⟩, requested, sent⟩
  · rintro ⟨h, requested, sent⟩
    exact ⟨⟨h.line .lineA, h.line .lineB⟩, ⟨h.map, h.full, h.sweeping, h.single, requested⟩, sent⟩

/-- A property of both lines of an end, one of which is replaced. -/
theorem EndUnit.forall_setLine {P : LineId → LineUnit → Prop} (here : P x m) (there : P x.partner (u.line x.partner))
    (y : LineId) : P y ((u.setLine x m).line y) := by
  rcases LineId.eq_or_partner x y with rfl | rfl
  · rwa [EndUnit.line_setLine_self]
  · rwa [EndUnit.line_setLine_partner]

/-- What a line's transmissions, its hold, its run and its count write, and the silence timer of an ACTIVE line. -/
structure LineUnit.Speaks (n m : LineUnit) : Prop where
  rest : m = { n with silenceTimer := m.silenceTimer, holdTimer := m.holdTimer, unanswered := m.unanswered
                      checkErrors := m.checkErrors, tx := m.tx }
  kept : n.Kept → m.Kept

theorem LineUnit.Speaks.refl (n : LineUnit) : n.Speaks n := ⟨rfl, id⟩

theorem LineUnit.Speaks.trans {k : LineUnit} (h : n.Speaks m) (i : m.Speaks k) : n.Speaks k :=
  ⟨by rw [i.rest, h.rest], i.kept ∘ h.kept⟩

/-- What such a line keeps. -/
theorem LineUnit.Speaks.same (h : n.Speaks m) : m.carrier = n.carrier ∧ m.state = n.state ∧ m.pauseTimer = n.pauseTimer ∧
    m.wantsSweep = n.wantsSweep ∧ m.recentre = n.recentre ∧ m.record = n.record := by
  rw [h.rest]
  exact ⟨rfl, rfl, rfl, rfl, rfl, rfl⟩

/-- The trainer of an end whose line `x` goes its own way: free of that line, and else as it was. -/
structure Trainer.FreeOf (x : LineId) (s t : Trainer) : Prop where
  map : s.passMap.length = 64 → t.passMap.length = 64
  left : ∀ y, t.job = .fullSweep y ∨ t.job = .recentreSweep y → y ≠ x ∧ t.job = s.job
  keeps : s.job = .recentreSweep x.partner → t.job = s.job

/-- A line that is not recentring behind its change keeps an end formed, when the trainer is free of it. -/
theorem EndUnit.Formed.leave (h : u.Formed) {t : Trainer} (kept : m.Kept) (recentre : m.recentre = .none)
    (k : u.trainer.FreeOf x t) : EndUnit.Formed { u.setLine x m with trainer := t } := by
  have line : ∀ y, EndUnit.line { u.setLine x m with trainer := t } y = (u.setLine x m).line y := fun y => by
    cases y <;> rfl
  refine ⟨fun y => ?_, k.map h.map, fun y sweeps => ?_, fun y => ?_, fun y => ?_⟩
  · rw [line]
    exact EndUnit.forall_setLine (P := fun _ n => n.Kept) kept (h.line _) y
  · obtain ⟨away, job⟩ := k.left y (.inl sweeps)
    obtain rfl := (LineId.eq_or_partner x y).resolve_left away
    rw [line, EndUnit.line_setLine_partner]
    exact h.full _ (job ▸ sweeps)
  · rw [line]
    rcases LineId.eq_or_partner x y with rfl | rfl
    · rw [EndUnit.line_setLine_self, recentre]
      exact ⟨fun sweeps => absurd rfl (k.left y (.inr sweeps)).1, fun c => by cases c⟩
    · rw [EndUnit.line_setLine_partner, ← h.sweeping]
      exact ⟨fun sweeps => (k.left _ (.inr sweeps)).2 ▸ sweeps, fun sweeps => (k.keeps sweeps).trans sweeps⟩
  · rw [line, line]
    rcases LineId.eq_or_partner x y with rfl | rfl
    · rw [EndUnit.line_setLine_self, recentre]
      exact fun c => absurd rfl c
    · rw [LineId.partner_partner, EndUnit.line_setLine_self]
      exact fun _ => recentre

/-- A trainer that does nothing with a line is free of it. -/
theorem EndUnit.Formed.freeOf (h : u.Formed) (state : (u.line x).state ≠ .training) (recentre : (u.line x).recentre ≠ .sweeping) :
    u.trainer.FreeOf x u.trainer where
  map := id
  left y sweeps := ⟨fun c => by
    subst c
    rcases sweeps with sweeps | sweeps
    · exact state (h.full _ sweeps).1
    · exact recentre ((h.sweeping _).1 sweeps), rfl⟩
  keeps _ := rfl

/-- A trainer that has ended its sweep of a line. -/
theorem Trainer.FreeOf.done {s : Trainer} (h : s.job = .fullSweep x ∨ s.job = .recentreSweep x) {map : List Bool}
    (length : map.length = 64) : s.FreeOf x { job := .free, passMap := map } where
  map _ := length
  left _ sweeps := by simp at sweeps
  keeps sweeps := by
    rcases h with h | h <;> rw [h] at sweeps
    · simp at sweeps
    · exact absurd (by simpa using sweeps.symm) (LineId.partner_ne x)

end Sys2Proof.Machine
end

section
/-! PROOF. Sweeps: the runs of a pass map, the longest one, the one around a phase, and the windows made of them (R75, R76,
R80). -/

namespace Sys2Proof.Machine

open Sys2Proof

variable {map : List Bool} {runs : List Nat} {k l low high phase wmin : Nat} {o : Offset} {w : Window}

/-! ## Runs of a pass map (R75, R76) -/

/-- `k` steps of a map that pass, from step `l`. -/
def PassRun (map : List Bool) (l k : Nat) : Prop := ∀ i, i < k → map.getD (l + i) false = true

theorem PassRun.leading (map : List Bool) : PassRun map 0 (leadingPasses map) := by
  induction map with
  | nil => exact fun i h => absurd h (Nat.not_lt_zero i)
  | cons b bs ih =>
    cases b with
    | false => exact fun i h => absurd h (Nat.not_lt_zero i)
    | true =>
      intro i h
      cases i with
      | zero => rfl
      | succ i => simpa using ih i (by simpa [leadingPasses] using h)

theorem leadingPasses_stops (map : List Bool) : map.getD (leadingPasses map) false = false := by
  induction map with
  | nil => rfl
  | cons b bs ih =>
    cases b with
    | false => rfl
    | true => simpa [leadingPasses] using ih

/-- Every run from the head of a map lies within its leading one. -/
theorem PassRun.le_leading (h : PassRun map 0 k) : k ≤ leadingPasses map := by
  by_contra more
  have passes := h (leadingPasses map) (by omega)
  rw [Nat.zero_add, leadingPasses_stops] at passes
  cases passes

theorem PassRun.tail {b : Bool} : PassRun (b :: map) (l + 1) k ↔ PassRun map l k := by
  simp [PassRun, Nat.add_right_comm l 1]

/-- The longest run of a map is a run, and the first of the longest. -/
theorem longestRun_spec (map : List Bool) : ∀ at_, ∃ j, (0 < (longestRun at_ map).2 → (longestRun at_ map).1 = at_ + j) ∧
    PassRun map j (longestRun at_ map).2 ∧
    ∀ l k, 0 < k → PassRun map l k → k ≤ (longestRun at_ map).2 ∧ (k = (longestRun at_ map).2 → j ≤ l) := by
  induction map with
  | nil =>
    exact fun at_ => ⟨0, fun h => absurd h (Nat.lt_irrefl 0), fun i h => absurd h (Nat.not_lt_zero i),
      fun l k some run => absurd (run 0 some) (by simp)⟩
  | cons b bs ih =>
    intro at_
    obtain ⟨j, start, run, longest⟩ := ih (at_ + 1)
    have split : longestRun at_ (b :: bs) = if (longestRun (at_ + 1) bs).2 ≤ leadingPasses (b :: bs) then
        (at_, leadingPasses (b :: bs)) else longestRun (at_ + 1) bs := rfl
    rw [split]
    by_cases here : (longestRun (at_ + 1) bs).2 ≤ leadingPasses (b :: bs)
    · rw [if_pos here]
      refine ⟨0, fun _ => rfl, .leading _, fun l k some other => ⟨?_, fun _ => Nat.zero_le l⟩⟩
      cases l with
      | zero => exact other.le_leading
      | succ l => exact ((longest l k some (PassRun.tail.1 other)).1).trans here
    · rw [if_neg here]
      refine ⟨j + 1, fun some => by rw [start some]; omega, PassRun.tail.2 run, fun l k some other => ?_⟩
      cases l with
      | zero =>
        have := other.le_leading
        omega
      | succ l =>
        obtain ⟨most, first⟩ := longest l k some (PassRun.tail.1 other)
        exact ⟨most, fun same => Nat.succ_le_succ (first same)⟩

/-! ## Pass maps of sweeps (R75) -/

theorem sweepMap_getD (runs : List Nat) (low high k : Nat) : (sweepMap runs low high).getD k false = true ↔
    k ≤ 63 ∧ low ≤ k ∧ k ≤ high ∧ StepPassed runs k := by
  by_cases inside : k < 64
  · have here : (sweepMap runs low high).getD k false =
        (decide (low ≤ k) && decide (k ≤ high) && decide (32 ≤ runs.getD k 0)) := by
      simp [sweepMap, Config.phaseSteps, Config.matchRun, stepPasses, inside, List.getD_eq_getElem?_getD]
    rw [here]
    simp only [Bool.and_eq_true, decide_eq_true_eq, StepPassed, and_assoc]
    exact ⟨fun h => ⟨by omega, h⟩, fun h => h.2⟩
  · have out : (sweepMap runs low high).getD k false = false := by
      rw [List.getD_eq_getElem?_getD, List.getElem?_eq_none (by simp [sweepMap, Config.phaseSteps]; omega)]
      rfl
    rw [out]
    exact ⟨fun c => (by cases c), fun c => (by omega)⟩

theorem sweepMap_length (runs : List Nat) (low high : Nat) : (sweepMap runs low high).length = 64 := by
  simp [sweepMap, Config.phaseSteps]

/-- A run of the map of a full sweep. -/
theorem PassRun.full : PassRun (sweepMap runs 0 63) l k ↔ ∀ i, i < k → l + i ≤ 63 ∧ StepPassed runs (l + i) := by
  refine forall_congr' fun i => imp_congr_right fun _ => ?_
  rw [sweepMap_getD]
  exact ⟨fun h => ⟨h.1, h.2.2.2⟩, fun h => ⟨h.1, Nat.zero_le _, h.1, h.2⟩⟩

/-- The longest passing run is the one the trainer finds (R76, step 1). -/
theorem longestRun_of_longestPassing (h : LongestPassing runs low high) :
    longestRun 0 (sweepMap runs 0 63) = (low, high - low + 1) := by
  obtain ⟨ordered, top, passes, longest⟩ := h
  obtain ⟨j, start, run, first⟩ := longestRun_spec (sweepMap runs 0 63) 0
  obtain ⟨most, least⟩ := first low (high - low + 1) (Nat.succ_pos _)
    (PassRun.full.2 fun i _ => ⟨by omega, passes _ (by omega) (by omega)⟩)
  have run := PassRun.full.1 run
  have last := (run ((longestRun 0 (sweepMap runs 0 63)).2 - 1) (by omega)).1
  obtain ⟨size, low'⟩ := longest j (j + (longestRun 0 (sweepMap runs 0 63)).2 - 1) (by omega) (by omega)
    fun k _ _ => by
      have := (run (k - j) (by omega)).2
      rwa [Nat.add_sub_cancel' (by omega)] at this
  have start := start (by omega)
  have least := least (by omega)
  have low' := low' (by omega)
  refine Prod.ext ?_ ?_ <;> simp only <;> omega

/-- No step passes: the longest run is empty. -/
theorem longestRun_none (h : ∀ k, k ≤ 63 → ¬ StepPassed runs k) : (longestRun 0 (sweepMap runs 0 63)).2 = 0 := by
  obtain ⟨j, -, run, -⟩ := longestRun_spec (sweepMap runs 0 63) 0
  by_contra some
  obtain ⟨inside, passed⟩ := PassRun.full.1 run 0 (Nat.pos_of_ne_zero some)
  exact h _ inside passed

/-! ## The windows (R76, R80, R81) -/

/-- The target within a window (R76, step 4). -/
theorem offsetTarget_eq (h : low ≤ high) : offsetTarget o low high ((low + high) / 2) = (targetOf o low high).toNat ∧
    low ≤ offsetTarget o low high ((low + high) / 2) ∧ offsetTarget o low high ((low + high) / 2) ≤ high := by
  unfold offsetTarget targetOf
  cases o.subtract <;> simp <;> omega

/-- A full sweep whose longest run is wide enough (R76). -/
theorem fullSweepResult_pass (order : low ≤ high) (found : longestRun 0 map = (low, high - low + 1))
    (wide : wmin ≤ high - low + 1) : fullSweepResult wmin o map =
      (.pass, some (windowAt low high (targetOf o low high).toNat)) := by
  have last : low + (high - low + 1) - 1 = high := by omega
  unfold fullSweepResult
  rw [found]
  simp only [if_neg (Nat.succ_ne_zero _), if_neg (Nat.not_lt.2 wide), last]
  rw [(offsetTarget_eq order).1]
  rfl

theorem fullSweepResult_noPass (found : (longestRun 0 map).2 = 0) : fullSweepResult wmin o map = (.noPass, none) := by
  unfold fullSweepResult
  simp only [found, if_true]

theorem fullSweepResult_narrow (found : longestRun 0 map = (low, high - low + 1)) (narrow : high - low + 1 < wmin) :
    fullSweepResult wmin o map = (.narrow, none) := by
  unfold fullSweepResult
  rw [found]
  simp only [if_neg (Nat.succ_ne_zero _), if_pos narrow]

/-- The window of a full sweep is sound (R76). -/
theorem fullSweepResult_sound (least : 4 ≤ wmin) (h : (fullSweepResult wmin o (sweepMap runs 0 63)).2 = some w) : w.Sound := by
  obtain ⟨j, start, run, -⟩ := longestRun_spec (sweepMap runs 0 63) 0
  unfold fullSweepResult at h
  generalize longestRun 0 (sweepMap runs 0 63) = found at *
  obtain ⟨low, width⟩ := found
  dsimp only at *
  split at h
  · cases h
  · split at h
    · cases h
    · obtain rfl := start (by omega)
      have top := (PassRun.full.1 run (width - 1) (by omega)).1
      obtain ⟨-, above, below⟩ := offsetTarget_eq (o := o) (low := 0 + j) (high := 0 + j + width - 1) (by omega)
      obtain rfl := Option.some.inj h
      exact ⟨above, below, (by simp only; omega), (by simp only; omega), (by simp only; omega), rfl⟩

/-! ## The run around a phase (R80) -/

theorem passesDown_le (map : List Bool) (k : Nat) : passesDown map k ≤ k + 1 := by
  induction k with
  | zero => unfold passesDown; split <;> omega
  | succ k ih => unfold passesDown; split <;> omega

/-- The passing steps downward from a step, and where they stop. -/
theorem passesDown_spec (map : List Bool) (k : Nat) : (∀ i, k < i + passesDown map k → i ≤ k → map.getD i false = true) ∧
    (passesDown map k ≤ k → map.getD (k - passesDown map k) false = false) := by
  induction k with
  | zero =>
    unfold passesDown
    split
    · rename_i passes
      exact ⟨fun i _ h => by rw [Nat.le_zero.1 h]; exact passes, fun c => by omega⟩
    · rename_i fails
      exact ⟨fun i _ h => by omega, fun _ => by simpa using fails⟩
  | succ k ih =>
    obtain ⟨passes, stops⟩ := ih
    unfold passesDown
    split
    · rename_i here
      refine ⟨fun i more below => ?_, fun less => ?_⟩
      · rcases Nat.lt_or_ge k i with top | under
        · rw [show i = k + 1 by omega]
          exact here
        · exact passes i (by omega) under
      · rw [Nat.add_sub_add_right]
        exact stops (by omega)
    · rename_i fails
      exact ⟨fun i more below => by omega, fun _ => by simpa using fails⟩

/-- The run around a phase is the one a recentre finds (R80, step 2). -/
theorem RunAround.counted {from_ to_ : Nat} (h : RunAround runs from_ to_ phase low high) (top : to_ ≤ 63) :
    passesDown (sweepMap runs from_ to_) phase = phase + 1 - low ∧
    leadingPasses ((sweepMap runs from_ to_).drop phase) = high + 1 - phase := by
  obtain ⟨bottom, below, above, limit, passes, lowest, highest⟩ := h
  have at_ : ∀ k, (sweepMap runs from_ to_).getD k false = true ↔ from_ ≤ k ∧ k ≤ to_ ∧ StepPassed runs k := fun k => by
    rw [sweepMap_getD]
    exact ⟨fun h => h.2, fun h => ⟨by omega, h⟩⟩
  constructor
  · obtain ⟨run, stops⟩ := passesDown_spec (sweepMap runs from_ to_) phase
    have size := passesDown_le (sweepMap runs from_ to_) phase
    generalize passesDown (sweepMap runs from_ to_) phase = down at *
    rcases Nat.lt_trichotomy down (phase + 1 - low) with less | same | more
    · have : (sweepMap runs from_ to_).getD (phase - down) false = true :=
        (at_ _).2 ⟨by omega, by omega, passes _ (by omega) (by omega)⟩
      rw [stops (by omega)] at this
      cases this
    · exact same
    · obtain ⟨reach, -, passed⟩ := (at_ _).1 (run (low - 1) (by omega) (by omega))
      rcases lowest with c | c
      · omega
      · exact absurd passed c
  · have run := PassRun.leading ((sweepMap runs from_ to_).drop phase)
    have stops := leadingPasses_stops ((sweepMap runs from_ to_).drop phase)
    generalize leadingPasses ((sweepMap runs from_ to_).drop phase) = up at *
    have shift : ∀ k, ((sweepMap runs from_ to_).drop phase).getD k false = (sweepMap runs from_ to_).getD (phase + k) false :=
      fun k => by simp [List.getD_eq_getElem?_getD]
    rcases Nat.lt_trichotomy up (high + 1 - phase) with less | same | more
    · have : (sweepMap runs from_ to_).getD (phase + up) false = true :=
        (at_ _).2 ⟨by omega, by omega, passes _ (by omega) (by omega)⟩
      rw [shift, this] at stops
      cases stops
    · exact same
    · have step := run (high + 1 - phase) more
      rw [Nat.zero_add, shift, show phase + (high + 1 - phase) = high + 1 by omega] at step
      obtain ⟨-, reach, passed⟩ := (at_ _).1 step
      rcases highest with c | c
      · omega
      · exact absurd passed c

/-- The phase moves toward its target by 2 at most (R80, step 4). -/
theorem limitedMove_eq (phase target : Nat) : (limitedMove phase target : Int) =
    (phase : Int) + max (-2) (min 2 ((target : Int) - phase)) := by
  unfold limitedMove
  split
  · omega
  · split <;> omega

/-- A recentre whose run around the phase is wide enough (R80). -/
theorem recentreResult_moved (order : low ≤ phase ∧ phase ≤ high) (down : passesDown map phase = phase + 1 - low)
    (up : leadingPasses (map.drop phase) = high + 1 - phase) (wide : wmin ≤ high - low + 1) :
    recentreResult wmin o map phase =
      some (windowAt low high ((phase : Int) + max (-2) (min 2 (targetOf o low high - phase))).toNat) := by
  have target := (offsetTarget_eq (o := o) (Nat.le_trans order.1 order.2)).1
  have positive : 0 ≤ targetOf o low high := by unfold targetOf; omega
  have moved := limitedMove_eq phase (targetOf o low high).toNat
  rw [Int.toNat_of_nonneg positive] at moved
  unfold recentreResult
  simp only [down, up]
  rw [if_neg (by omega), show phase + 1 - (phase + 1 - low) = low by omega,
    show phase + (high + 1 - phase) - 1 = high by omega, if_neg (by omega), target, ← moved]
  rfl

theorem recentreResult_fails (down : passesDown map phase = 0) : recentreResult wmin o map phase = none := by
  unfold recentreResult
  rw [if_pos down]

theorem recentreResult_narrow (order : low ≤ phase ∧ phase ≤ high) (down : passesDown map phase = phase + 1 - low)
    (up : leadingPasses (map.drop phase) = high + 1 - phase) (narrow : high - low + 1 < wmin) :
    recentreResult wmin o map phase = none := by
  unfold recentreResult
  simp only [down, up]
  rw [if_neg (by omega), show phase + 1 - (phase + 1 - low) = low by omega,
    show phase + (high + 1 - phase) - 1 = high by omega, if_pos narrow]

/-- The window of a recentre is sound (R80). -/
theorem recentreResult_sound {from_ to_ : Nat} (least : 4 ≤ wmin)
    (h : recentreResult wmin o (sweepMap runs from_ to_) phase = some w) : w.Sound := by
  have size := passesDown_le (sweepMap runs from_ to_) phase
  have here := (passesDown_spec (sweepMap runs from_ to_) phase).1 phase
  have run := PassRun.leading ((sweepMap runs from_ to_).drop phase)
  have stops := leadingPasses_stops ((sweepMap runs from_ to_).drop phase)
  have shift : ∀ k, ((sweepMap runs from_ to_).drop phase).getD k false = (sweepMap runs from_ to_).getD (phase + k) false :=
    fun k => by simp [List.getD_eq_getElem?_getD]
  unfold recentreResult at h
  generalize passesDown (sweepMap runs from_ to_) phase = down at *
  generalize leadingPasses ((sweepMap runs from_ to_).drop phase) = up at *
  dsimp only at h
  split at h
  · cases h
  · split at h
    · cases h
    · rename_i some wide
      have rises : up ≠ 0 := fun c => by
        rw [c, shift, Nat.add_zero, here (by omega) (Nat.le_refl _)] at stops
        cases stops
      have last := run (up - 1) (by omega)
      rw [Nat.zero_add, shift, sweepMap_getD] at last
      have top := last.1
      obtain ⟨-, above, below⟩ := offsetTarget_eq (o := o) (low := phase + 1 - down) (high := phase + up - 1) (by omega)
      have moved := limitedMove_eq phase (offsetTarget o (phase + 1 - down) (phase + up - 1)
        ((phase + 1 - down + (phase + up - 1)) / 2))
      obtain rfl := Option.some.inj h
      exact ⟨(by simp only; omega), (by simp only; omega), (by simp only; omega), rfl, (by simp only; omega), rfl⟩

end Sys2Proof.Machine
end

section
/-! PROOF. The operations on one line that leave its state, said once. -/

namespace Sys2Proof.Machine

open Sys2Proof

variable {u v w : EndUnit} {n m : LineUnit} {x y : LineId} {b : LineFrame} {k : Sender} {t : Transmitter}

/-! ## What a line sends and holds (R66, R79, R89, R92, R104) -/

/-- Only what a line has in hand changes. -/
theorem LineUnit.Speaks.setTx (h : n.Kept → (n.state ≠ .active → t = Transmitter.idle) ∧
    (n.holdTimer.isSome → t.sending = none) ∧ (t.holdAfter.isSome → t.sendsReply = true)) : n.Speaks { n with tx := t } where
  rest := rfl
  kept kept := by
    obtain ⟨idle, hold, reply⟩ := h kept
    obtain ⟨a₁, a₂, a₃, a₄, a₅, a₆, a₇, a₈, -, a₁₀, a₁₁, a₁₂, -, -⟩ := kept
    exact ⟨a₁, a₂, a₃, a₄, a₅, a₆, a₇, a₈, idle, a₁₀, a₁₁, a₁₂, hold, reply⟩

/-- What a line that is not ACTIVE has in hand, what one in hold sends, and what a hold follows. -/
theorem LineUnit.Kept.transmitter (h : n.Kept) : (n.state ≠ .active → n.tx = Transmitter.idle) ∧
    (n.holdTimer.isSome → n.tx.sending = none) ∧ (n.tx.holdAfter.isSome → n.tx.sendsReply = true) := by
  obtain ⟨-, -, -, -, -, -, -, -, idle, -, -, -, hold, reply⟩ := h
  exact ⟨idle, hold, reply⟩

theorem Transmitter.sendsReply_none (h : t.sending = none) : t.sendsReply = false := by
  unfold Transmitter.sendsReply
  rw [h]

/-- What a free line begins is followed by a hold only if it is a reply. -/
theorem Transmitter.begin_holdAfter (h : t.holdAfter = none) (after : (t.begin_ b k).holdAfter.isSome) :
    (t.begin_ b k).sendsReply = true := by
  unfold Transmitter.begin_ at *
  split at after
  · simp [Transmitter.sendsReply]
  · split at after
    · simp [h] at after
    · split at after <;> simp [h] at after

theorem LineUnit.serve_speaks (n : LineUnit) : n.Speaks (n.serve b k) := by
  by_cases free : n.Free
  · rw [LineUnit.serve_free free]
    obtain ⟨active, hold, sending⟩ := free
    refine .setTx fun kept => ⟨fun c => absurd active c, fun c => by simp [hold] at c, Transmitter.begin_holdAfter ?_⟩
    cases after : n.tx.holdAfter with
    | none => rfl
    | some y =>
      have reply := kept.transmitter.2.2 (by rw [after]; rfl)
      rw [Transmitter.sendsReply_none sending] at reply
      cases reply
  · rw [LineUnit.serve_waits free]
    exact .refl n

/-- What waits for a line of an ACTIVE state is changed. -/
theorem LineUnit.Speaks.waiting (active : n.state = .active) (sending : t.sending = n.tx.sending)
    (after : t.holdAfter = n.tx.holdAfter) : n.Speaks { n with tx := t } := by
  refine .setTx fun kept => ⟨fun c => absurd active c, ?_, ?_⟩
  · rw [sending]
    exact kept.transmitter.2.1
  · unfold Transmitter.sendsReply
    rw [after, sending]
    exact kept.transmitter.2.2

theorem LineUnit.queueReply_speaks {r : WaitingReply} (active : n.state = .active) : n.Speaks (n.queueReply b k r) :=
  (LineUnit.Speaks.waiting (t := { n.tx with replies := n.tx.replies ++ [r] }) active rfl rfl).trans (LineUnit.serve_speaks _)

theorem LineUnit.queueBeacon_speaks (active : n.state = .active) : n.Speaks (n.queueBeacon b k) :=
  (LineUnit.Speaks.waiting (t := { n.tx with beaconDue := true }) active rfl rfl).trans (LineUnit.serve_speaks _)

theorem LineUnit.frameFallsDue_speaks (active : n.state = .active) : n.Speaks (n.frameFallsDue b k) :=
  (LineUnit.Speaks.waiting (t := { n.tx with frameDue := true }) active rfl rfl).trans (LineUnit.serve_speaks _)

/-- A frame withdrawn from a line. -/
theorem LineUnit.withdraw_speaks (n : LineUnit) : n.Speaks { n with tx := { n.tx with frameDue := false } } := by
  refine .setTx fun kept => ⟨fun c => ?_, kept.transmitter.2.1, kept.transmitter.2.2⟩
  rw [kept.transmitter.1 c]
  rfl

theorem LineUnit.cut_speaks (n : LineUnit) : n.Speaks { n with tx := n.tx.cut } := by
  refine .setTx fun kept => ⟨fun c => ?_, fun _ => rfl, fun c => by cases c⟩
  rw [kept.transmitter.1 c]
  rfl

/-- The timers, the run and the count of a line that has nothing else changed. -/
theorem LineUnit.Speaks.set {silence hold : Timer} {run : Nat} {errors : Word}
    (timer : silence.isSome ↔ n.silenceTimer.isSome) (held : hold.isSome → n.tx.sending = none)
    (short : n.Kept → run ≤ 2) : n.Speaks { n with
      silenceTimer := silence, holdTimer := hold, unanswered := run, checkErrors := errors } where
  rest := rfl
  kept kept := by
    have run := short kept
    obtain ⟨a₁, a₂, a₃, a₄, a₅, a₆, a₇, a₈, a₉, -, a₁₁, a₁₂, -, a₁₄⟩ := kept
    exact ⟨a₁, a₂, a₃, timer.trans a₄, a₅, a₆, a₇, a₈, a₉, run, a₁₁, a₁₂, held, a₁₄⟩

theorem LineUnit.Kept.unanswered (h : n.Kept) : n.unanswered ≤ 2 := by
  obtain ⟨-, -, -, -, -, -, -, -, -, run, -, -, -, -⟩ := h
  exact run

theorem LineUnit.startHold_speaks (n : LineUnit) : n.Speaks n.startHold :=
  n.cut_speaks.trans (.set Iff.rfl (fun _ => rfl) LineUnit.Kept.unanswered)

theorem LineUnit.silence_speaks (active : n.state = .active) (time : Nat) :
    n.Speaks { n with silenceTimer := some time } where
  rest := rfl
  kept kept := by
    obtain ⟨a₁, a₂, a₃, -, a₅, a₆, a₇, a₈, a₉, a₁₀, a₁₁, a₁₂, a₁₃, a₁₄⟩ := kept
    exact ⟨a₁, a₂, a₃, ⟨fun _ => active, fun _ => rfl⟩, a₅, a₆, a₇, a₈, a₉, a₁₀, a₁₁, a₁₂, a₁₃, a₁₄⟩

theorem LineUnit.run_speaks {run : Nat} (short : n.Kept → run ≤ 2) : n.Speaks { n with unanswered := run } where
  rest := rfl
  kept kept := by
    have run := short kept
    obtain ⟨a₁, a₂, a₃, a₄, a₅, a₆, a₇, a₈, a₉, -, a₁₁, a₁₂, a₁₃, a₁₄⟩ := kept
    exact ⟨a₁, a₂, a₃, a₄, a₅, a₆, a₇, a₈, a₉, run, a₁₁, a₁₂, a₁₃, a₁₄⟩

theorem LineUnit.holdEnds_speaks (n : LineUnit) : n.Speaks { n with holdTimer := none } :=
  .set Iff.rfl (fun c => by cases c) LineUnit.Kept.unanswered

theorem LineUnit.checkError_speaks (n : LineUnit) : n.Speaks { n with checkErrors := satInc n.checkErrors } where
  rest := rfl
  kept := id

end Sys2Proof.Machine
end

section
/-! PROOF. The operations of one end unit that leave its lines in their states: what they keep of the lines, the trainer and the
sender. -/

namespace Sys2Proof.Machine

open Sys2Proof

variable {u v w : EndUnit} {n m : LineUnit} {x y : LineId} {b : LineFrame} {k : Sender} {o : FrameOutcome} {f : HeldFrame}

/-! ## Ends whose lines only speak -/

/-- The lines of an end but for what they send, hold and count; its queues, its counters and its sender may be others. -/
structure EndUnit.Speaks (u v : EndUnit) : Prop where
  line : ∀ x, (u.line x).Speaks (v.line x)
  trainer : v.trainer = u.trainer
  sense : v.sense = u.sense

theorem EndUnit.Speaks.trans (h : u.Speaks v) (i : v.Speaks w) : u.Speaks w :=
  ⟨fun x => (h.line x).trans (i.line x), i.trainer.trans h.trainer, i.sense.trans h.sense⟩

theorem EndUnit.Speaks.modLine {g : LineUnit → LineUnit} (h : (u.line x).Speaks (g (u.line x))) : u.Speaks (u.modLine x g) where
  line y := by
    rcases LineId.eq_or_partner x y with rfl | rfl
    · rwa [EndUnit.line_modLine_self]
    · rw [EndUnit.line_modLine_partner]
      exact .refl _
  trainer := by simp
  sense := by simp

/-- The parts of an end beside its lines and its trainer. -/
theorem EndUnit.Speaks.beside (u : EndUnit) (st : EndState) (p : Option PeerId) (k : Sender) (r : Option ReceiverRecord)
    (q : EndQueues) (c : EndCounters) :
    u.Speaks { u with state := st, peer := p, sender := k, receiver := r, queues := q, counters := c } :=
  ⟨fun x => by cases x <;> exact .refl _, rfl, rfl⟩

theorem EndUnit.Speaks.state (h : u.Speaks v) (x : LineId) : (v.line x).state = (u.line x).state := (h.line x).same.2.1

theorem EndUnit.Formed.says (h : u.Formed) (i : u.Speaks v) : v.Formed where
  line x := (i.line x).kept (h.line x)
  map := by rw [i.trainer]; exact h.map
  full x := by
    obtain ⟨-, state, pause, wants, -, -⟩ := (i.line x).same
    rw [i.trainer, state, pause, wants]
    exact h.full x
  sweeping x := by
    obtain ⟨-, -, -, -, recentre, -⟩ := (i.line x).same
    rw [i.trainer, recentre]
    exact h.sweeping x
  single x := by
    obtain ⟨-, -, -, -, here, -⟩ := (i.line x).same
    obtain ⟨-, -, -, -, there, -⟩ := (i.line x.partner).same
    rw [here, there]
    exact h.single x

theorem EndUnit.Partnered.says (h : u.Partnered) (i : u.Speaks v) : v.Partnered := fun x => by
  obtain ⟨-, -, -, -, recentre, -⟩ := (i.line x).same
  rw [recentre, i.state]
  exact h x

/-! ## The frame of the sender -/

theorem EndUnit.withdraw_speaks (u : EndUnit) : u.Speaks u.withdraw := by
  unfold EndUnit.withdraw
  exact (EndUnit.Speaks.modLine (LineUnit.withdraw_speaks _)).trans (.modLine (LineUnit.withdraw_speaks _))

theorem EndUnit.senderIdle_speaks (u : EndUnit) (o : FrameOutcome) : u.Speaks (u.senderIdle o) :=
  u.withdraw_speaks.trans (.beside ..)

/-- A send on an ACTIVE line. -/
theorem EndUnit.sendHeld_speaks (active : (u.line u.sender.currentLine).state = .active) : u.Speaks (u.sendHeld b) := by
  cases hold : (u.line u.sender.currentLine).inHold with
  | true => rw [EndUnit.sendHeld_waits hold]; exact .beside ..
  | false =>
    rw [EndUnit.sendHeld_sends hold]
    exact (EndUnit.Speaks.modLine (LineUnit.frameFallsDue_speaks active)).trans (.beside ..)

/-! ## Recentres given up and begun (R78) -/

theorem EndUnit.abandonRecentre_same (h : (u.line x).recentre = .none) : u.abandonRecentre x = u := if_pos h

theorem EndUnit.abandonRecentre_partner (u : EndUnit) (x : LineId) :
    (u.abandonRecentre x).line x.partner = u.line x.partner := by
  unfold EndUnit.abandonRecentre
  split
  · rfl
  · cases x <;> rfl

/-- A line without its recentre. -/
theorem LineUnit.Kept.unmarked (h : n.Kept) (r : RecentreOutcome) :
    LineUnit.Kept { n with recentre := .none, record := { n.record with lastRecentre := r } } := by
  obtain ⟨a₁, a₂, a₃, a₄, a₅, a₆, a₇, -, a₉, a₁₀, a₁₁, a₁₂, a₁₃, a₁₄⟩ := h
  exact ⟨a₁, a₂, a₃, a₄, a₅, a₆, a₇, fun c => absurd rfl c, a₉, a₁₀, a₁₁, a₁₂, a₁₃, a₁₄⟩

theorem LineUnit.Kept.recentring (h : n.Kept) (marked : n.recentre ≠ .none) : n.state = .active := by
  obtain ⟨-, -, -, -, -, -, -, recentre, -⟩ := h
  exact recentre marked

/-- A trainer freed of the recentre sweep of a line. -/
theorem EndUnit.Formed.freed (h : u.Formed) (state : (u.line x).state ≠ .training) :
    u.trainer.FreeOf x (if u.trainer.job = .recentreSweep x then { u.trainer with job := .free } else u.trainer) := by
  split
  · rename_i sweeps
    exact .done (.inr sweeps) h.map
  · rename_i away
    exact h.freeOf state (fun c => away ((h.sweeping x).2 c))

/-- A line with its recentre given up. -/
def LineUnit.abandoned (n : LineUnit) : LineUnit :=
  { n with recentre := .none, record := { n.record with lastRecentre := .abandoned } }

/-- A recentre given up: its line, its trainer and its PATTERN-REQUEST. -/
theorem EndUnit.abandonRecentre_marked (h : (u.line x).recentre ≠ .none) : u.abandonRecentre x =
    { u.setLine x (u.line x).abandoned with
      trainer := if u.trainer.job = .recentreSweep x then { u.trainer with job := .free } else u.trainer
      queues := { u.queues with control := u.queues.control.map (ControlFrame.orphan x) }
      sender := { u.sender with frame := u.sender.frame.map (HeldFrame.orphan x) } } := by
  unfold EndUnit.abandonRecentre
  rw [if_neg h]
  cases x <;> rfl

theorem EndUnit.Formed.abandonRecentre (h : u.Formed) : (u.abandonRecentre x).Formed := by
  by_cases marked : (u.line x).recentre = .none
  · rwa [EndUnit.abandonRecentre_same marked]
  · rw [EndUnit.abandonRecentre_marked marked]
    have active := (h.line x).recentring marked
    exact (h.leave ((h.line x).unmarked .abandoned) rfl (h.freed (by rw [active]; decide))).says (.beside ..)

theorem EndUnit.abandonRecentre_recentre (u : EndUnit) (x : LineId) : ((u.abandonRecentre x).line x).recentre = .none := by
  rw [EndUnit.abandonRecentre_line_self]

theorem EndUnit.Partnered.abandonRecentre (h : u.Partnered) : (u.abandonRecentre x).Partnered := fun y requested => by
  have states := ((EndUnit.Eases.refl u).abandonRecentre (x := x)).lines
  rw [(states _).1]
  rcases LineId.eq_or_partner x y with rfl | rfl
  · rw [EndUnit.abandonRecentre_recentre] at requested
    cases requested
  · rw [EndUnit.abandonRecentre_partner] at requested
    exact h _ requested

theorem EndUnit.abandonRecentre_sender (u : EndUnit) (x : LineId) :
    (u.abandonRecentre x).sender = { u.sender with frame := (u.abandonRecentre x).sender.frame } ∧
    ((u.abandonRecentre x).sender.frame = none ↔ u.sender.frame = none) :=
  let eases := (EndUnit.Eases.refl u).abandonRecentre (x := x)
  ⟨eases.sender, eases.frame⟩

/-- A recentre that begins its sweep. -/
theorem EndUnit.startRecentreSweep_requested (h : (u.line x).recentre = .requested) : u.startRecentreSweep x =
    { u.setLine x { u.line x with
        recentre := .sweeping
        record := { (u.line x).record with recentres := satInc (u.line x).record.recentres } } with
      trainer := { job := .recentreSweep x, passMap := Trainer.clearedMap } } := if_pos h

theorem EndUnit.startRecentreSweep_same (h : (u.line x).recentre ≠ .requested) : u.startRecentreSweep x = u := if_neg h

theorem EndUnit.Formed.startRecentreSweep (h : u.Formed) : (u.startRecentreSweep x).Formed := by
  by_cases requested : (u.line x).recentre = .requested
  · rw [EndUnit.startRecentreSweep_requested requested]
    have kept := h.line x
    have partner := h.single x (by rw [requested]; decide)
    refine ⟨fun y => ?_, List.length_replicate, (fun y sweeps => by cases sweeps), fun y => ?_, fun y => ?_⟩
    · refine EndUnit.forall_setLine (P := fun _ n => n.Kept) ?_ (h.line _) y
      obtain ⟨a₁, a₂, a₃, a₄, a₅, a₆, a₇, active, a₉, a₁₀, a₁₁, a₁₂, a₁₃, a₁₄⟩ := kept
      exact ⟨a₁, a₂, a₃, a₄, a₅, a₆, a₇, fun _ => active (by rw [requested]; decide), a₉, a₁₀, a₁₁, a₁₂, a₁₃, a₁₄⟩
    · rcases LineId.eq_or_partner x y with rfl | rfl
      · cases y <;> exact ⟨fun _ => rfl, fun _ => rfl⟩
      · refine ⟨fun c => absurd (TrainerJob.recentreSweep.inj c).symm (LineId.partner_ne x), fun c => ?_⟩
        have : (u.line x.partner).recentre = .sweeping := by cases x <;> exact c
        rw [partner] at this
        cases this
    · rcases LineId.eq_or_partner x y with rfl | rfl
      · intro _
        cases y <;> exact partner
      · intro c
        refine absurd ?_ c
        cases x <;> exact partner
  · rwa [EndUnit.startRecentreSweep_same requested]

theorem EndUnit.startRecentreSweep_line (u : EndUnit) (x y : LineId) :
    ((u.startRecentreSweep x).line y).state = (u.line y).state ∧
    ((u.startRecentreSweep x).line y).carrier = (u.line y).carrier ∧
    ((u.startRecentreSweep x).line y).record.window = (u.line y).record.window ∧
    (((u.startRecentreSweep x).line y).recentre = .requested → (u.line y).recentre = .requested) := by
  unfold EndUnit.startRecentreSweep
  split
  · cases x <;> cases y <;> simp [EndUnit.modLine, EndUnit.setLine, EndUnit.line]
  · exact ⟨rfl, rfl, rfl, id⟩

theorem EndUnit.Partnered.startRecentreSweep (h : u.Partnered) : (u.startRecentreSweep x).Partnered := fun y requested => by
  rw [(u.startRecentreSweep_line x _).1]
  exact h y ((u.startRecentreSweep_line x y).2.2.2 requested)

theorem EndUnit.startRecentreSweep_sender (u : EndUnit) (x : LineId) : (u.startRecentreSweep x).sender = u.sender := by
  unfold EndUnit.startRecentreSweep
  split
  · simp
  · rfl

/-- What an outcome reports to its recentre. -/
theorem EndUnit.reportRecentre_cases (u : EndUnit) (o : FrameOutcome) (f : HeldFrame) :
    u.reportRecentre o f = u ∨ ∃ x, u.reportRecentre o f = u.startRecentreSweep x ∨ u.reportRecentre o f = u.abandonRecentre x := by
  unfold EndUnit.reportRecentre
  split
  · split
    · exact .inr ⟨_, .inl rfl⟩
    · exact .inr ⟨_, .inr rfl⟩
  · exact .inl rfl

/-! ## The outcome of a frame (R95) -/

theorem EndUnit.endFrame_none (h : u.sender.frame = none) : u.endFrame o = u := by
  unfold EndUnit.endFrame
  rw [h]

theorem EndUnit.endFrame_some (h : u.sender.frame = some f) : u.endFrame o =
    { (u.senderIdle o).reportRecentre o f with
      counters := o.count ((u.senderIdle o).reportRecentre o f).counters } := by
  unfold EndUnit.endFrame
  rw [h]

theorem EndUnit.Formed.endFrame (h : u.Formed) : (u.endFrame o).Formed := by
  cases held : u.sender.frame with
  | none => rwa [EndUnit.endFrame_none held]
  | some f =>
    rw [EndUnit.endFrame_some held]
    have idle := h.says (u.senderIdle_speaks o)
    refine EndUnit.Formed.says ?_ (.beside ..)
    rcases (u.senderIdle o).reportRecentre_cases o f with c | ⟨x, c | c⟩ <;> rw [c]
    exacts [idle, idle.startRecentreSweep, idle.abandonRecentre]

theorem EndUnit.Partnered.endFrame (h : u.Partnered) : (u.endFrame o).Partnered := by
  cases held : u.sender.frame with
  | none => rwa [EndUnit.endFrame_none held]
  | some f =>
    rw [EndUnit.endFrame_some held]
    have idle := h.says (u.senderIdle_speaks o)
    refine EndUnit.Partnered.says ?_ (.beside ..)
    rcases (u.senderIdle o).reportRecentre_cases o f with c | ⟨x, c | c⟩ <;> rw [c]
    exacts [idle, idle.startRecentreSweep, idle.abandonRecentre]

/-- A sender without a frame that is IDLE and waits for nothing. -/
def Sender.AtRest (n : Sender) : Prop := n.frame = none ∧ n.state = .idle ∧ n.waitsHold = false

theorem EndUnit.endFrame_atRest (h : u.sender.frame ≠ none) (o : FrameOutcome) : (u.endFrame o).sender.AtRest := by
  cases held : u.sender.frame with
  | none => exact absurd held h
  | some f =>
    rw [EndUnit.endFrame_some held]
    have idle : (u.senderIdle o).sender.AtRest := ⟨rfl, rfl, rfl⟩
    have reported : ((u.senderIdle o).reportRecentre o f).sender.AtRest := by
      rcases (u.senderIdle o).reportRecentre_cases o f with c | ⟨x, c | c⟩ <;> rw [c]
      · exact idle
      · rwa [EndUnit.startRecentreSweep_sender]
      · obtain ⟨same, frame⟩ := (u.senderIdle o).abandonRecentre_sender x
        refine ⟨frame.2 rfl, ?_, ?_⟩ <;> rw [same]
        exacts [idle.2.1, idle.2.2]
    exact reported

end Sys2Proof.Machine
end

section
/-! PROOF. What every operation of an end unit keeps of it: its inputs, that a sender without a frame is at rest, that its lines,
its trainer and its sender go with each other, and the windows of its lines. -/

namespace Sys2Proof.Machine

open Sys2Proof

variable {u v w : EndUnit} {n m : LineUnit} {x y : LineId} {b : LineFrame} {k : Sender} {o : FrameOutcome} {f : HeldFrame}
  {wmin : Nat}

/-! ## What an operation keeps -/

/-- A sender without a frame is IDLE, and one that waits for a hold awaits the reply to its frame. -/
structure Sender.Ready (n : Sender) : Prop where
  idle : n.IdleWithoutFrame
  waits : n.waitsHold = true → n.state = .awaiting

theorem Sender.Kept.ready {n : Sender} (h : n.Kept) : n.Ready := by
  obtain ⟨frame, -, -, waits, -⟩ := h
  refine ⟨fun none => ⟨frame.1 none, ?_⟩, fun c => (waits c).1⟩
  cases hold : n.waitsHold with
  | false => rfl
  | true =>
    have awaiting := (waits hold).1
    rw [frame.1 none] at awaiting
    cases awaiting

theorem Sender.AtRest.ready {n : Sender} (h : n.AtRest) : n.Ready :=
  ⟨fun _ => ⟨h.2.1, h.2.2⟩, fun c => by rw [h.2.2] at c; cases c⟩

/-- The lines, the trainer and the sender of an end go with each other. -/
structure EndUnit.Sound (u : EndUnit) : Prop where
  formed : u.Formed
  partnered : u.Partnered
  sent : u.SentOnActive
  ready : u.sender.Ready

/-- All that an operation of an end keeps of it, the least window width of the settings given. -/
structure EndUnit.Retains (wmin : Nat) (u v : EndUnit) : Prop where
  sense : v.sense = u.sense
  carrier : ∀ x, (v.line x).carrier = (u.line x).carrier
  idle : u.sender.IdleWithoutFrame → v.sender.IdleWithoutFrame
  sound : u.Sound → v.Sound
  windows : 4 ≤ wmin → (∀ x, (u.line x).WindowKept) → ∀ x, (v.line x).WindowKept

theorem EndUnit.Retains.refl (wmin : Nat) (u : EndUnit) : u.Retains wmin u := ⟨rfl, fun _ => rfl, id, id, fun _ => id⟩

theorem EndUnit.Retains.trans (h : u.Retains wmin v) (i : v.Retains wmin w) : u.Retains wmin w where
  sense := i.sense.trans h.sense
  carrier x := (i.carrier x).trans (h.carrier x)
  idle := i.idle ∘ h.idle
  sound := i.sound ∘ h.sound
  windows least := i.windows least ∘ h.windows least

/-- What a window asks of a line is its state and its record. -/
theorem LineUnit.WindowKept.of_same (h : n.WindowKept) (state : m.state = .active → n.state = .active)
    (window : m.record.window = n.record.window) : m.WindowKept := by
  unfold LineUnit.WindowKept
  rw [window]
  exact ⟨fun active => h.1 (state active), h.2⟩

/-- The lines of an end keep their carriers and their windows, and none becomes ACTIVE. -/
structure EndUnit.Steadies (u v : EndUnit) : Prop where
  sense : v.sense = u.sense
  line : ∀ x, (v.line x).carrier = (u.line x).carrier ∧ ((v.line x).state = .active → (u.line x).state = .active) ∧
    (v.line x).record.window = (u.line x).record.window

theorem EndUnit.Steadies.refl (u : EndUnit) : u.Steadies u := ⟨rfl, fun _ => ⟨rfl, id, rfl⟩⟩

theorem EndUnit.Steadies.trans (h : u.Steadies v) (i : v.Steadies w) : u.Steadies w where
  sense := i.sense.trans h.sense
  line x := by
    obtain ⟨c, a, r⟩ := h.line x
    obtain ⟨c', a', r'⟩ := i.line x
    exact ⟨c'.trans c, a ∘ a', r'.trans r⟩

theorem EndUnit.Steadies.windows (h : u.Steadies v) (kept : ∀ x, (u.line x).WindowKept) (x : LineId) :
    (v.line x).WindowKept := (kept x).of_same (h.line x).2.1 (h.line x).2.2

theorem EndUnit.Speaks.steadies (h : u.Speaks v) : u.Steadies v where
  sense := h.sense
  line x := by
    obtain ⟨carrier, state, -, -, -, record⟩ := (h.line x).same
    exact ⟨carrier, fun active => state ▸ active, by rw [record]⟩

theorem EndUnit.Steadies.retains (h : u.Steadies v) (idle : u.sender.IdleWithoutFrame → v.sender.IdleWithoutFrame)
    (sound : u.Sound → v.Sound) : u.Retains wmin v :=
  ⟨h.sense, fun x => (h.line x).1, idle, sound, fun _ => h.windows⟩

/-- Lines that speak beside a sender that stands. -/
theorem EndUnit.Speaks.retains (h : u.Speaks v) (sender : v.sender = u.sender) : u.Retains wmin v :=
  h.steadies.retains (by rw [sender]; exact id) fun sound =>
    ⟨sound.formed.says h, sound.partnered.says h, fun sent => by
      rw [sender] at sent ⊢
      exact (h.state _).trans (sound.sent sent), by rw [sender]; exact sound.ready⟩

/-- One line that speaks. -/
theorem EndUnit.Retains.line (h : u.Retains wmin v) {g : LineUnit → LineUnit} (k : (v.line x).Speaks (g (v.line x))) :
    u.Retains wmin (v.modLine x g) := h.trans ((EndUnit.Speaks.modLine k).retains (by simp))

/-- The parts of an end beside its lines, its trainer and its sender. -/
theorem EndUnit.Retains.beside (h : u.Retains wmin v) (st : EndState) (p : Option PeerId) (r : Option ReceiverRecord)
    (q : EndQueues) (c : EndCounters) :
    u.Retains wmin { v with state := st, peer := p, receiver := r, queues := q, counters := c } :=
  h.trans ((EndUnit.Speaks.beside v st p v.sender r q c).retains rfl)

theorem EndUnit.SentOnActive.atRest (h : u.sender.AtRest) : u.SentOnActive := fun sent => by
  rw [h.2.1] at sent
  rcases sent with c | c <;> cases c

/-! ## The sender -/

theorem LineUnit.serve_rest (n : LineUnit) : n.serve b k = { n with tx := (n.serve b k).tx } := by
  unfold LineUnit.serve
  split <;> rfl

/-- A send changes what the line has in hand alone. -/
theorem EndUnit.sendHeld_steadies (u : EndUnit) : u.Steadies (u.sendHeld b) := by
  cases hold : (u.line u.sender.currentLine).inHold with
  | true => rw [EndUnit.sendHeld_waits hold]; exact (EndUnit.Speaks.beside ..).steadies
  | false =>
    rw [EndUnit.sendHeld_sends hold]
    have sends : u.Steadies (u.modLine u.sender.currentLine (LineUnit.frameFallsDue b u.sender.sending)) := by
      refine ⟨by simp, fun y => ?_⟩
      rcases LineId.eq_or_partner u.sender.currentLine y with rfl | rfl
      · rw [EndUnit.line_modLine_self, LineUnit.frameFallsDue, LineUnit.serve_rest]
        exact ⟨rfl, id, rfl⟩
      · rw [EndUnit.line_modLine_partner]
        exact ⟨rfl, id, rfl⟩
    exact sends.trans (EndUnit.Speaks.beside ..).steadies

/-- The sender of a frame that is sent, or that waits for the hold of its line. -/
theorem EndUnit.sendHeld_sender_cases (u : EndUnit) : (u.sendHeld b).sender = u.sender.sending ∨
    (u.sendHeld b).sender = { u.sender with state := .awaiting, timer := .stopped, waitsHold := true } := by
  cases hold : (u.line u.sender.currentLine).inHold with
  | true => rw [EndUnit.sendHeld_waits hold]; exact .inr rfl
  | false => rw [EndUnit.sendHeld_sends hold]; exact .inl rfl

theorem EndUnit.sendHeld_idle (held : u.sender.frame ≠ none) : (u.sendHeld b).sender.IdleWithoutFrame := fun none => by
  refine absurd ?_ held
  rcases u.sendHeld_sender_cases (b := b) with c | c <;> rw [c] at none <;> exact none

/-- A held frame sent on an ACTIVE line. -/
theorem EndUnit.sendHeld_sound (formed : u.Formed) (partnered : u.Partnered)
    (active : (u.line u.sender.currentLine).state = .active) (held : u.sender.frame ≠ none) : (u.sendHeld b).Sound := by
  have speaks := EndUnit.sendHeld_speaks (b := b) active
  refine ⟨formed.says speaks, partnered.says speaks, fun _ => ?_, EndUnit.sendHeld_idle held, ?_⟩
  · rw [speaks.state]
    rcases u.sendHeld_sender_cases (b := b) with c | c <;> rw [c] <;> exact active
  · rcases u.sendHeld_sender_cases (b := b) with c | c <;> rw [c]
    · exact fun c => by cases c
    · exact fun _ => rfl

theorem Sender.IdleWithoutFrame.held {n : Sender} (h : n.IdleWithoutFrame)
    (busy : n.state ≠ .idle ∨ n.waitsHold = true) : n.frame ≠ none := fun none => by
  obtain ⟨idle, waits⟩ := h none
  rcases busy with c | c
  · exact c idle
  · rw [waits] at c
    cases c

/-- The frame that has been sent, or that waits for a hold, is sent again. -/
theorem EndUnit.Retains.sendHeld (h : u.Retains wmin v)
    (sent : v.sender.state = .awaiting ∨ v.sender.state = .backing ∨ v.sender.waitsHold = true) :
    u.Retains wmin (v.sendHeld b) := by
  have busy : v.sender.state ≠ .idle ∨ v.sender.waitsHold = true := by
    rcases sent with c | c | c
    · exact .inl (by rw [c]; decide)
    · exact .inl (by rw [c]; decide)
    · exact .inr c
  refine h.trans (v.sendHeld_steadies.retains (fun idle => EndUnit.sendHeld_idle (idle.held busy)) fun sound => ?_)
  refine EndUnit.sendHeld_sound sound.formed sound.partnered (sound.sent ?_) (sound.ready.idle.held busy)
  rcases sent with c | c | c
  · exact .inl c
  · exact .inr c
  · exact .inl (sound.ready.waits c)

/-- A line that is selected is ACTIVE. -/
theorem EndUnit.selectLine_active (h : u.selectLine = some x) : (u.line x).state = .active := by
  have active : ∀ n : LineUnit, n.selectable = true → n.state = .active := fun n c => by
    simp only [LineUnit.selectable, LineUnit.isActive, Bool.and_eq_true, beq_iff_eq] at c
    exact c.1.1
  unfold EndUnit.selectLine at h
  split at h
  · injection h with h
    subst h
    exact active _ ‹_›
  · split at h
    · injection h with h
      subst h
      exact active _ ‹_›
    · cases h

/-- The first send of a held frame. -/
theorem EndUnit.Retains.firstSend (h : u.Retains wmin v) (held : v.sender.IdleWithoutFrame → v.sender.frame ≠ none)
    (waits : v.sender.Ready → v.sender.waitsHold = false) : u.Retains wmin (v.firstSend b) := by
  refine h.trans ?_
  unfold EndUnit.firstSend
  split
  · rename_i x selected
    have turned := EndUnit.Speaks.beside v v.state v.peer { v.sender with currentLine := x } v.receiver v.queues v.counters
    refine (turned.steadies.trans (EndUnit.sendHeld_steadies _)).retains (fun idle => EndUnit.sendHeld_idle (held idle))
      fun sound => ?_
    exact EndUnit.sendHeld_sound (sound.formed.says turned) (sound.partnered.says turned)
      ((turned.state x).trans (EndUnit.selectLine_active selected)) (held sound.ready.idle)
  · have pending := EndUnit.Speaks.beside v v.state v.peer { v.sender with state := .pending } v.receiver v.queues v.counters
    refine pending.steadies.retains (fun idle none => absurd none (held idle)) fun sound => ?_
    refine ⟨sound.formed.says pending, sound.partnered.says pending, fun sent => ?_,
      fun none => absurd none (held sound.ready.idle), fun c => ?_⟩
    · rcases sent with c | c <;> cases c
    · rw [waits sound.ready] at c
      cases c

theorem EndUnit.Retains.takeFrame (h : u.Retains wmin v) (free : v.sender.state = .idle) :
    u.Retains wmin (v.takeFrame b f) := by
  have taken := EndUnit.Speaks.beside v v.state v.peer { v.sender with
    frame := some f, currentBit := v.sender.nextBit, sends := 0, holds := 0, moved := false, waitsHold := false,
    timer := .stopped } v.receiver v.queues v.counters
  refine EndUnit.Retains.firstSend (h.trans (taken.steadies.retains (fun _ none => by cases none) fun sound => ?_))
    (fun _ none => by cases none) (fun _ => rfl)
  refine ⟨sound.formed.says taken, sound.partnered.says taken, fun sent => ?_,
    ⟨fun none => (by cases none), fun c => (by cases c)⟩⟩
  rcases sent with c | c <;> exact absurd (free.symm.trans c) (by decide)

theorem EndUnit.moveFrame_steadies (u : EndUnit) : u.Steadies (u.moveFrame b) :=
  (u.withdraw_speaks.trans (.beside ..)).steadies.trans (EndUnit.sendHeld_steadies _)

theorem EndUnit.moveFrame_idle (held : u.sender.frame ≠ none) : (u.moveFrame b).sender.IdleWithoutFrame :=
  EndUnit.sendHeld_idle held

/-- A held frame moved to an ACTIVE line. -/
theorem EndUnit.moveFrame_sound (formed : u.Formed) (partnered : u.Partnered)
    (active : (u.line u.sender.currentLine.partner).state = .active) (held : u.sender.frame ≠ none) :
    (u.moveFrame b).Sound := by
  have turned := u.withdraw_speaks.trans (.beside u.withdraw u.withdraw.state u.withdraw.peer
    { u.sender with moved := true, currentLine := u.sender.currentLine.partner, sends := 0 } u.withdraw.receiver
    u.withdraw.queues u.withdraw.counters)
  exact EndUnit.sendHeld_sound (formed.says turned) (partnered.says turned) ((turned.state _).trans active) held

theorem EndUnit.Retains.moveFrame (h : u.Retains wmin v) (sent : v.sender.state = .awaiting)
    (active : (v.line v.sender.currentLine.partner).state = .active) : u.Retains wmin (v.moveFrame b) := by
  have busy : v.sender.state ≠ .idle := by rw [sent]; decide
  exact h.trans (v.moveFrame_steadies.retains (fun idle => EndUnit.moveFrame_idle (idle.held (.inl busy)))
    fun sound => EndUnit.moveFrame_sound sound.formed sound.partnered active (sound.ready.idle.held (.inl busy)))

/-- A send withdrawn and counted anew, as a HOLD leaves it. -/
theorem EndUnit.Retains.setSender (h : u.Retains wmin v) {k : Sender}
    (frame : v.sender.IdleWithoutFrame → k.frame = none → k.state = .idle ∧ k.waitsHold = false)
    (waits : v.sender.Ready → k.waitsHold = true → k.state = .awaiting)
    (sent : v.SentOnActive → k.state = .awaiting ∨ k.state = .backing → (v.line k.currentLine).state = .active) :
    u.Retains wmin { v with sender := k } := by
  have turned := EndUnit.Speaks.beside v v.state v.peer k v.receiver v.queues v.counters
  exact h.trans (turned.steadies.retains frame fun sound => ⟨sound.formed.says turned, sound.partnered.says turned,
    fun c => (turned.state _).trans (sent sound.sent c), frame sound.ready.idle, waits sound.ready⟩)

/-! ## Recentres and outcomes -/

theorem EndUnit.abandonRecentre_steadies (u : EndUnit) (x : LineId) : u.Steadies (u.abandonRecentre x) := by
  by_cases marked : (u.line x).recentre = .none
  · rw [EndUnit.abandonRecentre_same marked]
    exact .refl u
  · rw [EndUnit.abandonRecentre_marked marked]
    refine ⟨EndUnit.sense_setLine .., fun y => ?_⟩
    cases x <;> cases y <;> exact ⟨rfl, id, rfl⟩

theorem EndUnit.SentOnActive.abandonRecentre (h : u.SentOnActive) : (u.abandonRecentre x).SentOnActive := by
  obtain ⟨same, -⟩ := u.abandonRecentre_sender x
  have states := ((EndUnit.Eases.refl u).abandonRecentre (x := x)).lines
  unfold EndUnit.SentOnActive
  rw [same, (states _).1]
  exact h

theorem EndUnit.abandonRecentre_idle (h : u.sender.IdleWithoutFrame) : (u.abandonRecentre x).sender.IdleWithoutFrame := by
  obtain ⟨same, frame⟩ := u.abandonRecentre_sender x
  intro none
  obtain ⟨idle, waits⟩ := h (frame.1 none)
  rw [same]
  exact ⟨idle, waits⟩

theorem EndUnit.abandonRecentre_ready (h : u.sender.Ready) : (u.abandonRecentre x).sender.Ready := by
  refine ⟨EndUnit.abandonRecentre_idle h.idle, ?_⟩
  rw [(u.abandonRecentre_sender x).1]
  exact h.waits

theorem EndUnit.Retains.abandonRecentre (h : u.Retains wmin v) : u.Retains wmin (v.abandonRecentre x) :=
  h.trans ((v.abandonRecentre_steadies x).retains EndUnit.abandonRecentre_idle fun sound =>
    ⟨sound.formed.abandonRecentre, sound.partnered.abandonRecentre, sound.sent.abandonRecentre,
      EndUnit.abandonRecentre_ready sound.ready⟩)

theorem EndUnit.startRecentreSweep_sense (u : EndUnit) (x : LineId) : (u.startRecentreSweep x).sense = u.sense := by
  unfold EndUnit.startRecentreSweep
  split
  · simp
  · rfl

theorem EndUnit.Retains.startRecentreSweep (h : u.Retains wmin v) : u.Retains wmin (v.startRecentreSweep x) := by
  have steadies : v.Steadies (v.startRecentreSweep x) := ⟨v.startRecentreSweep_sense x, fun y => by
    obtain ⟨state, carrier, window, -⟩ := v.startRecentreSweep_line x y
    exact ⟨carrier, fun active => state ▸ active, window⟩⟩
  refine h.trans (steadies.retains ?_ fun sound =>
    ⟨sound.formed.startRecentreSweep, sound.partnered.startRecentreSweep, ?_, ?_⟩)
  · rw [EndUnit.startRecentreSweep_sender]
    exact id
  · unfold EndUnit.SentOnActive
    rw [EndUnit.startRecentreSweep_sender, (v.startRecentreSweep_line x _).1]
    exact sound.sent
  · rw [EndUnit.startRecentreSweep_sender]
    exact sound.ready

theorem EndUnit.Retains.senderIdle (h : u.Retains wmin v) : u.Retains wmin (v.senderIdle o) :=
  h.trans ((v.senderIdle_speaks o).steadies.retains (fun _ _ => ⟨rfl, rfl⟩) fun sound =>
    ⟨sound.formed.says (v.senderIdle_speaks o), sound.partnered.says (v.senderIdle_speaks o), .atRest ⟨rfl, rfl, rfl⟩,
      Sender.AtRest.ready ⟨rfl, rfl, rfl⟩⟩)

theorem EndUnit.Retains.endFrame (h : u.Retains wmin v) : u.Retains wmin (v.endFrame o) := by
  cases held : v.sender.frame with
  | none => rwa [EndUnit.endFrame_none held]
  | some f =>
    rw [EndUnit.endFrame_some held]
    refine EndUnit.Retains.beside ?_ ..
    rcases (v.senderIdle o).reportRecentre_cases o f with c | ⟨x, c | c⟩ <;> rw [c]
    exacts [h.senderIdle, h.senderIdle.startRecentreSweep, h.senderIdle.abandonRecentre]

/-! ## Transmissions and replies -/

theorem EndUnit.Retains.holdFollows (h : u.Retains wmin v) {hold : Option LineId} :
    u.Retains wmin (v.holdFollows hold) := by
  cases hold with
  | none => exact h
  | some y => exact h.line (LineUnit.startHold_speaks _)

theorem EndUnit.Retains.endTransmission (h : u.Retains wmin v) : u.Retains wmin (v.endTransmission b x) := by
  unfold EndUnit.endTransmission
  split
  · exact h
  · exact ((h.line (LineUnit.cut_speaks _)).holdFollows).line (LineUnit.serve_speaks _)

theorem LineUnit.canReply_active (h : n.canReply = true) : n.state = .active := by
  simp only [LineUnit.canReply, LineUnit.isActive, Bool.and_eq_true, beq_iff_eq] at h
  exact h.1

theorem EndUnit.Retains.answer (h : u.Retains wmin v) {r : WaitingReply} : u.Retains wmin (v.answer b x r) := by
  unfold EndUnit.answer
  split
  · exact h.line (LineUnit.queueReply_speaks (LineUnit.canReply_active ‹_›))
  · split
    · exact h.line (LineUnit.queueReply_speaks (LineUnit.canReply_active ‹_›))
    · exact h.holdFollows

theorem EndUnit.Retains.earn (h : u.Retains wmin v) {r : WaitingReply} : u.Retains wmin (v.earn b x r) := by
  unfold EndUnit.earn
  refine EndUnit.Retains.answer ?_
  split
  · exact h.beside ..
  · exact h

theorem EndUnit.holdEnded_retains (u : EndUnit) (x : LineId) : u.Retains wmin (u.holdEnded b x) := by
  have ended := (EndUnit.Retains.refl wmin u).line (x := x) (g := fun n => { n with holdTimer := none })
    (LineUnit.holdEnds_speaks _)
  unfold EndUnit.holdEnded
  dsimp only
  split
  · rename_i waits
    refine ended.sendHeld (.inr (.inr ?_))
    simp only [Sender.waitsFor, Bool.and_eq_true] at waits
    simpa using waits.1
  · exact ended.line (LineUnit.serve_speaks _)

end Sys2Proof.Machine
end

section
/-! PROOF. Lines that change their states, and what follows such a change at the end (R70 to R74, R78, R80, R101). -/

namespace Sys2Proof.Machine

open Sys2Proof

variable {u v w : EndUnit} {n m : LineUnit} {x y : LineId} {b : LineFrame} {t : Trainer} {o : FrameOutcome} {wmin : Nat}

/-! ## Lines that change their states -/

/-- What a change of line states keeps before the end's partner lines and its sender have followed it. -/
structure EndUnit.Shifts (wmin : Nat) (u v : EndUnit) : Prop where
  sense : v.sense = u.sense
  carrier : ∀ x, (v.line x).carrier = (u.line x).carrier
  idle : u.sender.IdleWithoutFrame → v.sender.IdleWithoutFrame
  ready : u.sender.Ready → v.sender.Ready
  formed : u.Formed → v.Formed
  windows : 4 ≤ wmin → (∀ x, (u.line x).WindowKept) → ∀ x, (v.line x).WindowKept

theorem EndUnit.Shifts.refl (wmin : Nat) (u : EndUnit) : u.Shifts wmin u := ⟨rfl, fun _ => rfl, id, id, id, fun _ => id⟩

theorem EndUnit.Shifts.trans (h : u.Shifts wmin v) (i : v.Shifts wmin w) : u.Shifts wmin w where
  sense := i.sense.trans h.sense
  carrier x := (i.carrier x).trans (h.carrier x)
  idle := i.idle ∘ h.idle
  ready := i.ready ∘ h.ready
  formed := i.formed ∘ h.formed
  windows least := i.windows least ∘ h.windows least

/-- A line replaced, the trainer free of it, and the sender left. -/
theorem EndUnit.Shifts.leave (carrier : m.carrier = (u.line x).carrier)
    (formed : u.Formed → m.Kept ∧ m.recentre = .none ∧ u.trainer.FreeOf x t)
    (windows : 4 ≤ wmin → (u.line x).WindowKept → m.WindowKept) :
    u.Shifts wmin { u.setLine x m with trainer := t } := by
  have line : ∀ y, EndUnit.line { u.setLine x m with trainer := t } y = (u.setLine x m).line y := fun y => by
    cases y <;> rfl
  have sender : (u.setLine x m).sender = u.sender := by simp
  refine ⟨EndUnit.sense_setLine .., fun y => ?_, fun idle => ?_, fun ready => ?_, fun h => ?_, fun least kept y => ?_⟩
  · rw [line]
    exact EndUnit.forall_setLine (P := fun y n => n.carrier = (u.line y).carrier) carrier rfl y
  · change (u.setLine x m).sender.IdleWithoutFrame
    rwa [sender]
  · change (u.setLine x m).sender.Ready
    rwa [sender]
  · obtain ⟨kept, recentre, free⟩ := formed h
    exact h.leave kept recentre free
  · rw [line]
    exact EndUnit.forall_setLine (P := fun _ n => n.WindowKept) (windows least (kept x)) (kept _) y

/-- A line replaced that the trainer does not sweep. -/
theorem EndUnit.Shifts.line {g : LineUnit → LineUnit} (carrier : (g (u.line x)).carrier = (u.line x).carrier)
    (state : (u.line x).state ≠ .training ∧ (u.line x).state ≠ .active) (recentre : (g (u.line x)).recentre = (u.line x).recentre)
    (kept : (u.line x).Kept → (g (u.line x)).Kept) (windows : (u.line x).WindowKept → (g (u.line x)).WindowKept) :
    u.Shifts wmin (u.modLine x g) := by
  have whole : u.modLine x g = { u.setLine x (g (u.line x)) with trainer := u.trainer } := by cases x <;> rfl
  rw [whole]
  refine .leave carrier (fun h => ?_) (fun _ => windows)
  have none : (u.line x).recentre = .none := by
    by_contra marked
    exact state.2 ((h.line x).recentring marked)
  exact ⟨kept (h.line x), recentre.trans none, h.freeOf state.1 (by rw [none]; decide)⟩

/-- What is left to wait for on a line that is not recentring and sends nothing. -/
theorem LineUnit.Kept.leaveFor {st : LineState} (h : n.Kept) (recentre : n.recentre = .none)
    (state : st = .dark ∨ st = .training ∧ n.record.sweeps ≤ 2) : (n.leaveFor st).Kept := by
  obtain ⟨-, -, -, -, -, -, -, -, -, run, sweeps, -, -, -⟩ := h
  unfold LineUnit.leaveFor
  refine ⟨?_, ?_, fun c => (by cases c), ?_, ?_, fun c => (by cases c), fun c => (by cases c), fun c => absurd recentre c,
    fun _ => rfl, run, sweeps, ?_, fun _ => rfl, fun c => (by cases c)⟩
  all_goals rcases state with rfl | ⟨rfl, short⟩ <;> simp
  exact short

theorem EndUnit.freeTrainer_eq (u : EndUnit) (x : LineId) : u.freeTrainer x =
    { u with trainer := if u.trainer.job = .fullSweep x ∨ u.trainer.job = .recentreSweep x then
        { u.trainer with job := .free } else u.trainer } := by
  unfold EndUnit.freeTrainer
  split <;> rfl

theorem EndUnit.Formed.freesTrainer (h : u.Formed) (x : LineId) : u.trainer.FreeOf x
    (if u.trainer.job = .fullSweep x ∨ u.trainer.job = .recentreSweep x then { u.trainer with job := .free }
      else u.trainer) := by
  split
  · rename_i sweeps
    exact .done sweeps h.map
  · rename_i away
    exact ⟨id, fun y sweeps => ⟨fun c => away (c ▸ sweeps), rfl⟩, fun _ => rfl⟩

theorem EndUnit.Shifts.abandonRecentre (u : EndUnit) (x : LineId) : u.Shifts wmin (u.abandonRecentre x) where
  sense := (u.abandonRecentre_steadies x).sense
  carrier y := ((u.abandonRecentre_steadies x).line y).1
  idle := EndUnit.abandonRecentre_idle
  ready := EndUnit.abandonRecentre_ready
  formed := EndUnit.Formed.abandonRecentre
  windows _ := (u.abandonRecentre_steadies x).windows

/-- A line that leaves its state, and what it then enters. -/
theorem EndUnit.lineTo_shifts {st : LineState} {g : LineUnit → LineUnit} (u : EndUnit) (x : LineId)
    (carrier : ∀ n, (g n).carrier = n.carrier) (recentre : ∀ n, (g n).recentre = n.recentre)
    (kept : ∀ n : LineUnit, n.Kept → n.recentre = .none → (g (n.leaveFor st)).Kept)
    (windows : ∀ n : LineUnit, n.WindowKept → (g (n.leaveFor st)).WindowKept) :
    u.Shifts wmin ((u.lineTo x st).modLine x g) := by
  have whole : ∀ (v : EndUnit) (t : Trainer) y, ((EndUnit.modLine { v with trainer := t } y (LineUnit.leaveFor st)).modLine y g) =
      { v.setLine y (g ((v.line y).leaveFor st)) with trainer := t } := fun v t y => by cases y <;> rfl
  unfold EndUnit.lineTo
  rw [EndUnit.freeTrainer_eq, whole]
  refine (EndUnit.Shifts.abandonRecentre u x).trans (.leave (carrier _) (fun h => ⟨?_, ?_, h.freesTrainer x⟩)
    fun _ => windows _)
  · exact kept _ (h.line x) (u.abandonRecentre_recentre x)
  · rw [recentre]
    exact u.abandonRecentre_recentre x

theorem LineUnit.WindowKept.inactive (h : n.WindowKept) (state : m.state ≠ .active)
    (window : m.record.window = n.record.window) : m.WindowKept :=
  h.of_same (fun active => absurd active state) window

theorem EndUnit.enterDark_shifts (u : EndUnit) (x : LineId) : u.Shifts wmin (u.enterDark x) := by
  have dark := u.lineTo_shifts (wmin := wmin) (st := .dark) (g := id) x (fun _ => rfl) (fun _ => rfl)
    (fun n kept recentre => kept.leaveFor recentre (.inl rfl)) (fun n kept => kept.inactive (by simp [LineUnit.leaveFor]) rfl)
  rwa [EndUnit.modLine_same rfl] at dark

/-- Entry to TRAINING of a line that waits for nothing. -/
theorem LineUnit.Kept.startTraining (h : n.Kept) (cause : TrainingCause) (active : n.state ≠ .active)
    (training : n.state ≠ .training) : (n.startTraining cause).Kept := by
  obtain ⟨-, -, -, silence, beacon, pause, -, recentre, tx, run, -, -, hold, after⟩ := h
  have none_ : n.pauseTimer = none := by
    by_contra c
    exact training (pause (Option.isSome_iff_ne_none.2 c))
  refine ⟨(by simp [LineUnit.startTraining]), (by simp [LineUnit.startTraining]), fun c => (by cases c), ?_, ?_,
    fun _ => rfl, fun _ => ⟨rfl, none_⟩, fun c => absurd (recentre c) active, fun _ => tx active, run, Nat.zero_le _,
    fun _ => Nat.zero_le _, hold, after⟩
  · exact ⟨fun c => absurd (silence.1 c) active, fun c => by cases c⟩
  · exact ⟨fun c => absurd (beacon.1 c) active, fun c => by cases c⟩

theorem EndUnit.enterTraining_shifts (u : EndUnit) (x : LineId) (cause : TrainingCause) :
    u.Shifts wmin (u.enterTraining x cause) :=
  u.lineTo_shifts x (fun _ => rfl) (fun _ => rfl)
    (fun n kept recentre => (kept.leaveFor (st := .dark) recentre (.inl rfl)).startTraining cause
      (by simp [LineUnit.leaveFor]) (by simp [LineUnit.leaveFor]))
    (fun n kept => kept.inactive (by simp [LineUnit.startTraining]) rfl)

/-- Entry to SETTLING from DARK or FAILED, and a settle time that starts again. -/
theorem LineUnit.Kept.enterSettling (h : n.Kept) (settle : Nat) (retrain : Bool) (active : n.state ≠ .active)
    (training : n.state ≠ .training) : (n.enterSettling settle retrain).Kept := by
  obtain ⟨-, -, -, silence, beacon, pause, wants, recentre, tx, run, sweeps, -, hold, after⟩ := h
  exact ⟨(by simp [LineUnit.enterSettling]), (by simp [LineUnit.enterSettling]), fun _ => rfl,
    ⟨fun c => absurd (silence.1 c) active, fun c => (by cases c)⟩, ⟨fun c => absurd (beacon.1 c) active, fun c => (by cases c)⟩,
    fun c => absurd (pause c) training, fun c => absurd (wants c).1 training, fun c => absurd (recentre c) active,
    fun _ => tx active, run, sweeps, fun c => (by cases c), hold, after⟩

theorem EndUnit.enterSettling_shifts {settle : Nat} {retrain : Bool} (active : (u.line x).state ≠ .active)
    (training : (u.line x).state ≠ .training) : u.Shifts wmin (u.modLine x (LineUnit.enterSettling settle retrain)) :=
  .line rfl ⟨training, active⟩ rfl (fun kept => kept.enterSettling _ _ active training)
    (fun kept => kept.inactive (by simp [LineUnit.enterSettling]) rfl)

theorem EndUnit.wake_shifts {settle : Nat} {sense : Bool} (u : EndUnit) (x : LineId) :
    u.Shifts wmin (u.modLine x (LineUnit.wake settle sense)) := by
  by_cases wakes : (u.line x).state = .dark ∧ (u.line x).carrier ∧ sense
  · have whole : u.modLine x (LineUnit.wake settle sense) = u.modLine x (LineUnit.enterSettling settle false) := by
      unfold EndUnit.modLine LineUnit.wake
      rw [if_pos wakes]
    rw [whole]
    exact EndUnit.enterSettling_shifts (by rw [wakes.1]; decide) (by rw [wakes.1]; decide)
  · have stays : u.modLine x (LineUnit.wake settle sense) = u := EndUnit.modLine_same (if_neg wakes)
    rw [stays]
    exact .refl wmin u

/-- What a change of an input makes of a line. -/
theorem EndUnit.inputChanged_shifts {settle : Nat} {present : Bool} (u : EndUnit) (x : LineId) :
    u.Shifts wmin (u.inputChanged settle present x) := by
  unfold EndUnit.inputChanged
  split
  case h_1 => exact u.wake_shifts x
  case h_2 settling =>
    refine .line rfl (by rw [settling]; decide) rfl (fun kept => ?_) id
    obtain ⟨a₁, settle, rest⟩ := kept
    exact ⟨a₁, ⟨fun _ => settling, fun _ => rfl⟩, rest⟩
  all_goals
    split
    · exact .refl wmin u
    · exact u.enterDark_shifts x

theorem EndUnit.senseChanged_shifts {settle : Nat} {coupled : Bool} (u : EndUnit) :
    u.Shifts wmin (u.senseChanged settle coupled) :=
  (u.inputChanged_shifts .lineA).trans (EndUnit.inputChanged_shifts _ .lineB)

theorem EndUnit.takeInputs_shifts {settle : Nat} (u : EndUnit) : u.Shifts wmin (u.takeInputs settle) :=
  (u.wake_shifts .lineA).trans (EndUnit.wake_shifts _ .lineB)

theorem EndUnit.silenced_shifts (u : EndUnit) (x : LineId) : u.Shifts wmin (u.silenced x) := by
  unfold EndUnit.silenced
  split
  · exact u.enterTraining_shifts x _
  · exact u.enterDark_shifts x

/-- The settle time of a SETTLING line ends (R69). -/
theorem EndUnit.settleExpired_shifts (settling : (u.line x).state = .settling) : u.Shifts wmin (u.settleExpired x) := by
  unfold EndUnit.settleExpired
  dsimp only
  split
  · refine .line rfl (by rw [settling]; decide) rfl (fun kept => ?_) (fun kept => ?_)
    · exact kept.startTraining _ (by rw [settling]; decide) (by rw [settling]; decide)
    · exact kept.inactive (by simp [LineUnit.startTraining]) rfl
  · exact u.enterDark_shifts x

/-! ## What follows a change of the lines (R78, R82, R101) -/

theorem EndUnit.abandonWithoutPartner_shifts (u : EndUnit) (x : LineId) : u.Shifts wmin (u.abandonWithoutPartner x) := by
  unfold EndUnit.abandonWithoutPartner
  split
  · exact .abandonRecentre u x
  · exact .refl wmin u

theorem EndUnit.Speaks.shifts (h : u.Speaks v) (sender : v.sender = u.sender) : u.Shifts wmin v where
  sense := h.sense
  carrier x := (h.steadies.line x).1
  idle := by rw [sender]; exact id
  ready := by rw [sender]; exact id
  formed formed := formed.says h
  windows _ := h.steadies.windows

theorem EndUnit.afterLines_shifts (u : EndUnit) : u.Shifts wmin u.afterLines := by
  refine ((u.abandonWithoutPartner_shifts .lineA).trans (EndUnit.abandonWithoutPartner_shifts _ .lineB)).trans ?_
  unfold EndUnit.afterLines EndUnit.forgetPeer
  split
  · exact .refl wmin _
  · exact (EndUnit.Speaks.beside ..).shifts rfl

/-- Once the recentres without a partner are given up, every recentre that waits has its partner. -/
theorem EndUnit.afterLines_partnered (u : EndUnit) : u.afterLines.Partnered := by
  have states := u.eases_afterLines.lines
  have left : ∀ (w : EndUnit) (x : LineId), ((w.abandonWithoutPartner x).line x).recentre = .requested →
      (w.line x.partner).state = .active := fun w x requested => by
    unfold EndUnit.abandonWithoutPartner at requested
    split at requested
    · rw [EndUnit.abandonRecentre_recentre] at requested
      cases requested
    · rename_i kept
      simpa [requested, LineUnit.isActive] using kept
  have other : ∀ (w : EndUnit) (x : LineId), (w.abandonWithoutPartner x).line x.partner = w.line x.partner := fun w x => by
    unfold EndUnit.abandonWithoutPartner
    split
    · exact w.abandonRecentre_partner x
    · rfl
  have forgets : ∀ (w : EndUnit) x, w.forgetPeer.line x = w.line x := fun w x => by
    unfold EndUnit.forgetPeer
    split
    · rfl
    · cases x <;> rfl
  intro x requested
  rw [(states _).1]
  unfold EndUnit.afterLines at requested
  rw [forgets] at requested
  cases x with
  | lineA =>
    have same : ((u.abandonWithoutPartner .lineA).abandonWithoutPartner .lineB).line .lineA = _ := other _ .lineB
    rw [same] at requested
    exact left u .lineA requested
  | lineB =>
    have partner := left _ .lineB requested
    have same := (EndUnit.Eases.refl u).abandonWithoutPartner (x := .lineA) |>.lines .lineA
    exact same.1 ▸ partner

/-- The frame of an end that ends, whatever its lines are. -/
theorem EndUnit.endFrame_sound (formed : u.Formed) (partnered : u.Partnered) (ready : u.sender.Ready) : (u.endFrame o).Sound := by
  have rest : (u.endFrame o).sender.AtRest := by
    by_cases held : u.sender.frame = none
    · rw [EndUnit.endFrame_none held]
      exact ⟨held, ready.idle held⟩
    · exact EndUnit.endFrame_atRest held o
  exact ⟨formed.endFrame, partnered.endFrame, .atRest rest, rest.ready⟩

/-- What the sender makes of changed lines leaves the end sound. -/
theorem EndUnit.senderAfterLines_retains (u : EndUnit) : u.Retains wmin (u.senderAfterLines b) ∧
    (u.Formed → u.Partnered → u.sender.Ready → (u.senderAfterLines b).Sound) := by
  unfold EndUnit.senderAfterLines
  split
  · exact ⟨(EndUnit.Retains.refl wmin u).endFrame, EndUnit.endFrame_sound⟩
  · rename_i active
    split
    · rename_i left
      obtain ⟨sent, gone⟩ := Bool.and_eq_true_iff.1 left
      split
      · exact ⟨(EndUnit.Retains.refl wmin u).endFrame, EndUnit.endFrame_sound⟩
      · have partner : (u.line u.sender.currentLine.partner).state = .active := by
          obtain ⟨y, active⟩ := EndUnit.anyActive_iff.1 (by simpa using active)
          rcases LineId.eq_or_partner u.sender.currentLine y with rfl | rfl
          · simp [LineUnit.isActive, active] at gone
          · exact active
        have busy : u.sender.state ≠ .idle := fun idle => by
          rw [idle] at sent
          cases sent
        have sound : u.Formed → u.Partnered → u.sender.Ready → (u.moveFrame b).Sound := fun formed partnered ready =>
          EndUnit.moveFrame_sound formed partnered partner (ready.idle.held (.inl busy))
        exact ⟨u.moveFrame_steadies.retains (fun idle => EndUnit.moveFrame_idle (idle.held (.inl busy)))
          fun h => sound h.formed h.partnered h.ready, sound⟩
    · rename_i stays
      refine ⟨.refl wmin u, fun formed partnered ready => ⟨formed, partnered, fun sent => ?_, ready⟩⟩
      have held : u.sender.state.sent = true := by rcases sent with c | c <;> rw [c] <;> rfl
      simpa [held, LineUnit.isActive] using stays

/-- A change of the lines of an end, once its partner lines and its sender have followed. -/
theorem EndUnit.Shifts.follow (h : u.Shifts wmin v) : u.Retains wmin (v.afterLines.senderAfterLines b) := by
  have eased := h.trans v.afterLines_shifts
  obtain ⟨kept, sound⟩ := v.afterLines.senderAfterLines_retains (b := b) (wmin := wmin)
  exact ⟨kept.sense.trans eased.sense, fun x => (kept.carrier x).trans (eased.carrier x), kept.idle ∘ eased.idle,
    fun s => sound (eased.formed s.formed) v.afterLines_partnered (eased.ready s.ready),
    fun least => kept.windows least ∘ eased.windows least⟩

/-- A change of the lines that makes none ACTIVE or inactive, marks none and leaves the sender. -/
theorem EndUnit.Shifts.retains (h : u.Shifts wmin v)
    (line : ∀ x, ((v.line x).state = .active ↔ (u.line x).state = .active) ∧ (v.line x).recentre = (u.line x).recentre)
    (sender : v.sender = u.sender) : u.Retains wmin v := by
  refine ⟨h.sense, h.carrier, h.idle, fun sound => ⟨h.formed sound.formed, fun x requested => ?_, fun sent => ?_,
    h.ready sound.ready⟩, h.windows⟩
  · rw [(line x).2] at requested
    exact (line _).1.2 (sound.partnered x requested)
  · rw [sender] at sent ⊢
    exact (line _).1.2 (sound.sent sent)

theorem LineUnit.wake_active (n : LineUnit) (settle : Nat) (sense : Bool) :
    ((n.wake settle sense).state = .active ↔ n.state = .active) ∧ (n.wake settle sense).recentre = n.recentre := by
  unfold LineUnit.wake
  split
  · rename_i wakes
    simp [wakes.1, LineUnit.enterSettling]
  · exact ⟨Iff.rfl, rfl⟩

/-- Each line takes its inputs as they stand (R65). -/
theorem EndUnit.takeInputs_retains {settle : Nat} (u : EndUnit) : u.Retains wmin (u.takeInputs settle) :=
  u.takeInputs_shifts.retains (fun x => by
    cases x
    · exact u.lineA.wake_active settle u.sense
    · exact u.lineB.wake_active settle u.sense) rfl

end Sys2Proof.Machine
end

section
/-! PROOF. The trainer, its sweeps, and the engagement at one end: what they keep (R73, R74, R76, R78, R80, R147). -/

namespace Sys2Proof.Machine

open Sys2Proof

variable {u v w : EndUnit} {n m : LineUnit} {x y : LineId} {b : LineFrame} {t : Trainer} {o : FrameOutcome} {wmin : Nat}
  {map : List Bool}

/-! ## The trainer takes a line (R73, R74) -/

/-- A line that waits, taken by a free trainer. -/
theorem EndUnit.startFullSweep_retains (free : u.trainer.job = .free) (waits : (u.line x).waitsForTrainer = true) :
    u.Retains wmin (u.startFullSweep x) := by
  obtain ⟨state, wants⟩ : (u.line x).state = .training ∧ (u.line x).wantsSweep = true := by
    simpa [LineUnit.waitsForTrainer] using waits
  have line : ∀ y, (u.startFullSweep x).line y = (u.setLine x { u.line x with wantsSweep := false }).line y := fun y => by
    cases x <;> cases y <;> rfl
  have sender : (u.startFullSweep x).sender = u.sender := by cases x <;> rfl
  have steadies : u.Steadies (u.startFullSweep x) := ⟨by cases x <;> rfl, fun y => by
    rw [line]
    refine EndUnit.forall_setLine (P := fun y n => n.carrier = (u.line y).carrier ∧
      (n.state = .active → (u.line y).state = .active) ∧ n.record.window = (u.line y).record.window) ?_ ?_ y
    exacts [⟨rfl, id, rfl⟩, ⟨rfl, id, rfl⟩]⟩
  refine steadies.retains (by rw [sender]; exact id) fun sound => ?_
  obtain ⟨formed, partnered, sent, ready⟩ := sound
  have kept := formed.line x
  obtain ⟨a₁, a₂, a₃, a₄, a₅, a₆, ask, recentre, a₉, a₁₀, a₁₁, a₁₂, a₁₃, a₁₄⟩ := kept
  have none_ : (u.line x).recentre = .none := by
    by_contra marked
    rw [recentre marked] at state
    cases state
  have same : ∀ y, ((u.startFullSweep x).line y).recentre = (u.line y).recentre ∧
      ((u.startFullSweep x).line y).state = (u.line y).state := fun y => by
    rw [line]
    refine EndUnit.forall_setLine (P := fun y n => n.recentre = (u.line y).recentre ∧ n.state = (u.line y).state) ?_ ?_ y
    exacts [⟨rfl, rfl⟩, ⟨rfl, rfl⟩]
  have sweepless : ∀ y, (u.line y).recentre ≠ .sweeping := fun y c => by
    have sweeps := (formed.sweeping y).2 c
    rw [free] at sweeps
    cases sweeps
  refine ⟨⟨fun y => ?_, List.length_replicate, fun y sweeps => ?_, fun y => ?_, fun y => ?_⟩, fun y => ?_, ?_, ?_⟩
  · rw [line]
    refine EndUnit.forall_setLine (P := fun _ n => n.Kept) ?_ (formed.line _) y
    exact ⟨a₁, a₂, a₃, a₄, a₅, a₆, fun c => (by cases c), recentre, a₉, a₁₀, a₁₁, a₁₂, a₁₃, a₁₄⟩
  · obtain rfl := TrainerJob.fullSweep.inj sweeps
    rw [line, EndUnit.line_setLine_self]
    exact ⟨state, (ask wants).2, rfl⟩
  · rw [(same y).1]
    exact ⟨fun c => (by cases c), fun c => absurd c (sweepless y)⟩
  · rw [(same _).1, (same _).1]
    exact formed.single y
  · rw [(same _).1, (same _).2]
    exact partnered y
  · unfold EndUnit.SentOnActive
    rw [sender, (same _).2]
    exact sent
  · rwa [sender]

theorem EndUnit.trainerTakes_retains (u : EndUnit) : u.Retains wmin u.trainerTakes := by
  unfold EndUnit.trainerTakes
  split
  · exact .refl wmin u
  · rename_i free
    split
    · exact EndUnit.startFullSweep_retains (by simpa using free) ‹_›
    · split
      · exact EndUnit.startFullSweep_retains (by simpa using free) ‹_›
      · exact .refl wmin u

/-- A line that keeps its state is replaced, the trainer free of it and the sender left. -/
theorem EndUnit.Retains.settle {t : Trainer} (carrier : m.carrier = (u.line x).carrier)
    (state : u.Formed → m.state = (u.line x).state)
    (formed : u.Formed → m.Kept ∧ m.recentre = .none ∧ u.trainer.FreeOf x t)
    (windows : 4 ≤ wmin → (u.line x).WindowKept → m.WindowKept) :
    u.Retains wmin { u.setLine x m with trainer := t } := by
  have shifts := EndUnit.Shifts.leave carrier formed windows
  refine ⟨shifts.sense, shifts.carrier, shifts.idle, fun sound => ?_, shifts.windows⟩
  obtain ⟨old, partnered, sent, ready⟩ := sound
  have recentre := (formed old).2.1
  have line : ∀ y, EndUnit.line { u.setLine x m with trainer := t } y = (u.setLine x m).line y := fun y => by
    cases y <;> rfl
  have sender : EndUnit.sender { u.setLine x m with trainer := t } = u.sender := EndUnit.sender_setLine ..
  have same : ∀ y, (EndUnit.line { u.setLine x m with trainer := t } y).state = (u.line y).state := fun y => by
    rw [line]
    exact EndUnit.forall_setLine (P := fun y n => n.state = (u.line y).state) (state old) rfl y
  refine ⟨shifts.formed old, fun y requested => ?_, ?_, shifts.ready ready⟩
  · rw [same]
    refine partnered y ?_
    rw [line] at requested
    revert requested
    refine EndUnit.forall_setLine (P := fun y n => n.recentre = .requested → (u.line y).recentre = .requested)
      (fun c => ?_) id y
    rw [recentre] at c
    cases c
  · unfold EndUnit.SentOnActive
    rw [sender, same]
    exact sent

/-- The pause of a line in TRAINING ends. -/
theorem EndUnit.pauseEnded_retains (state : (u.line x).state = .training) (pause : (u.line x).pauseTimer.isSome) :
    u.Retains wmin (u.modLine x (fun n => { n with pauseTimer := none, wantsSweep := true })) := by
  have whole : u.modLine x (fun n => { n with pauseTimer := none, wantsSweep := true }) =
      { u.setLine x { u.line x with pauseTimer := none, wantsSweep := true } with trainer := u.trainer } := by
    cases x <;> rfl
  rw [whole]
  refine .settle rfl (fun _ => rfl) (fun formed => ?_) (fun _ => id)
  obtain ⟨a₁, a₂, a₃, a₄, a₅, -, -, recentre, a₉, a₁₀, a₁₁, a₁₂, a₁₃, a₁₄⟩ := formed.line x
  have none_ : (u.line x).recentre = .none := by
    by_contra marked
    rw [recentre marked] at state
    cases state
  refine ⟨⟨a₁, a₂, a₃, a₄, a₅, fun c => (by cases c), fun _ => ⟨state, rfl⟩, recentre, a₉, a₁₀, a₁₁, a₁₂, a₁₃, a₁₄⟩, none_,
    id, fun y sweeps => ⟨fun c => ?_, rfl⟩, fun _ => rfl⟩
  subst c
  rcases sweeps with sweeps | sweeps
  · obtain ⟨-, c, -⟩ := formed.full _ sweeps
    rw [c] at pause
    cases pause
  · rw [(formed.sweeping _).1 sweeps] at none_
    cases none_

/-! ## Full sweeps end (R74, R76) -/

/-- A line whose full sweep has ended, and what it enters. -/
theorem EndUnit.fullSweepOver_shifts {g : LineUnit → LineUnit} (u : EndUnit) (job : u.trainer.job = .fullSweep x)
    (length : map.length = 64) (carrier : ∀ n, (g n).carrier = n.carrier) (recentre : ∀ n, (g n).recentre = n.recentre)
    (kept : (u.line x).Kept → (u.line x).state = .training → (u.line x).pauseTimer = none → (u.line x).wantsSweep = false →
      (u.line x).recentre = .none → (g (u.line x)).Kept)
    (windows : 4 ≤ wmin → (u.line x).WindowKept → (g (u.line x)).WindowKept) :
    u.Shifts wmin ((u.trainerDone map).modLine x g) := by
  have whole : (u.trainerDone map).modLine x g =
      { u.setLine x (g (u.line x)) with trainer := { job := .free, passMap := map } } := by cases x <;> rfl
  rw [whole]
  refine .leave (carrier _) (fun formed => ?_) windows
  obtain ⟨state, pause, wants⟩ := formed.full x job
  have none_ : (u.line x).recentre = .none := by
    by_contra marked
    rw [(formed.line x).recentring marked] at state
    cases state
  exact ⟨kept (formed.line x) state pause wants none_, (recentre _).trans none_, .done (.inl job) length⟩

/-- A line that becomes ACTIVE after its sweep. -/
theorem LineUnit.Kept.activates {silence beacon : Nat} {r : TrainingRecord} {k : Sender} (h : n.Kept)
    (state : n.state = .training) (pause : n.pauseTimer = none) (wants : n.wantsSweep = false)
    (recentre : n.recentre = .none) (sweeps : r.sweeps ≤ 3) :
    (LineUnit.enterActive silence beacon b k { n with record := r }).Kept := by
  obtain ⟨-, settle, retrain, -, -, -, -, -, -, -, -, -, hold, after⟩ := h
  refine (LineUnit.queueBeacon_speaks rfl).kept ⟨(by simp), ⟨fun c => ?_, fun c => (by cases c)⟩, fun c => ?_,
    ⟨fun _ => rfl, fun _ => rfl⟩, ⟨fun _ => rfl, fun _ => rfl⟩, fun c => ?_, fun c => ?_, fun c => absurd recentre c,
    fun c => absurd rfl c, Nat.zero_le _, sweeps, fun c => (by cases c), hold, after⟩
  · exact absurd (state.symm.trans (settle.1 c)) (by decide)
  · exact absurd (state.symm.trans (retrain c)) (by decide)
  · change n.pauseTimer.isSome = true at c
    rw [pause] at c
    cases c
  · exact absurd (wants.symm.trans c) (by decide)

theorem LineUnit.enterActive_parts {silence beacon : Nat} {k : Sender} (n : LineUnit) :
    (n.enterActive silence beacon b k).carrier = n.carrier ∧ (n.enterActive silence beacon b k).recentre = n.recentre ∧
    (n.enterActive silence beacon b k).record = n.record := by
  unfold LineUnit.enterActive LineUnit.queueBeacon
  rw [LineUnit.serve_rest]
  exact ⟨rfl, rfl, rfl⟩

/-- A full sweep that passed. -/
theorem EndUnit.fullSweepPassed_shifts {silence beacon : Nat} {k : Sender} {out : SweepOutcome} {win : Window} (u : EndUnit)
    (job : u.trainer.job = .fullSweep x) (length : map.length = 64) (sound : 4 ≤ wmin → win.Sound) :
    u.Shifts wmin ((u.trainerDone map).modLine x (fun n =>
      LineUnit.enterActive silence beacon b k { n with record := n.record.swept out (some win) })) := by
  refine EndUnit.fullSweepOver_shifts (g := fun n =>
      LineUnit.enterActive silence beacon b k { n with record := n.record.swept out (some win) }) u job length (fun n => ?_)
    (fun n => ?_) (fun kept state pause wants recentre => ?_) (fun least _ => ?_)
  · exact (LineUnit.enterActive_parts _).1
  · exact (LineUnit.enterActive_parts _).2.1
  · have sweeps : (u.line x).record.sweeps ≤ 2 := by
      obtain ⟨-, -, -, -, -, -, -, -, -, -, -, short, -, -⟩ := kept
      exact short state
    exact kept.activates state pause wants recentre (Nat.succ_le_succ sweeps)
  · unfold LineUnit.WindowKept
    rw [(LineUnit.enterActive_parts _).2.2]
    exact ⟨fun _ => rfl, fun w h => Option.some.inj h ▸ sound least⟩

/-- A line whose sweep has failed: FAILED after the third, and a pause before (R74). -/
def LineUnit.pausedOrFailed (n : LineUnit) : LineUnit :=
  if 3 ≤ n.record.sweeps then { n with state := .failed } else { n with pauseTimer := some Config.pauseTime }

theorem LineUnit.pausedOrFailed_same (n : LineUnit) : n.pausedOrFailed.carrier = n.carrier ∧
    n.pausedOrFailed.recentre = n.recentre ∧ n.pausedOrFailed.record = n.record ∧
    (n.pausedOrFailed.state = .active → n.state = .active) := by
  unfold LineUnit.pausedOrFailed
  split
  · exact ⟨rfl, rfl, rfl, fun c => by cases c⟩
  · exact ⟨rfl, rfl, rfl, id⟩

/-- A line in TRAINING that its trainer has swept without success. -/
theorem LineUnit.Kept.pausedOrFailed {r : TrainingRecord} (h : n.Kept) (state : n.state = .training)
    (pause : n.pauseTimer = none) (wants : n.wantsSweep = false) (recentre : n.recentre = .none) (sweeps : r.sweeps ≤ 3) :
    (LineUnit.pausedOrFailed { n with record := r }).Kept := by
  obtain ⟨-, settle, retrain, silence, beacon, -, -, -, tx, run, -, -, hold, after⟩ := h
  have settle : ¬ n.settleTimer.isSome := fun c => absurd (state.symm.trans (settle.1 c)) (by decide)
  have silence : ¬ n.silenceTimer.isSome := fun c => absurd (state.symm.trans (silence.1 c)) (by decide)
  have beacon : ¬ n.beaconTimer.isSome := fun c => absurd (state.symm.trans (beacon.1 c)) (by decide)
  have retrain : ¬ n.byRetrain = true := fun c => absurd (state.symm.trans (retrain c)) (by decide)
  have pause : ¬ n.pauseTimer.isSome := by simp [pause]
  have wants : ¬ n.wantsSweep = true := by simp [wants]
  have idle := tx (by rw [state]; decide)
  unfold LineUnit.pausedOrFailed
  split
  · exact ⟨(by simp), ⟨fun c => absurd c settle, fun c => (by cases c)⟩, fun c => absurd c retrain,
      ⟨fun c => absurd c silence, fun c => (by cases c)⟩, ⟨fun c => absurd c beacon, fun c => (by cases c)⟩,
      fun c => absurd c pause, fun c => absurd c wants, fun c => absurd recentre c, fun _ => idle, run, sweeps,
      fun c => (by cases c), hold, after⟩
  · rename_i few
    exact ⟨(by simp [state]), ⟨fun c => absurd c settle, fun c => absurd (state.symm.trans c) (by decide)⟩,
      fun c => absurd c retrain, ⟨fun c => absurd c silence, fun c => absurd (state.symm.trans c) (by decide)⟩,
      ⟨fun c => absurd c beacon, fun c => absurd (state.symm.trans c) (by decide)⟩, fun _ => state,
      fun c => absurd c wants, fun c => absurd recentre c, fun _ => idle, run, sweeps,
      fun _ => Nat.lt_succ_iff.1 (Nat.not_le.1 few), hold, after⟩

/-- A full sweep that failed: FAILED after the third, a pause before. -/
theorem EndUnit.fullSweepFailed_shifts {out : SweepOutcome} (u : EndUnit) (job : u.trainer.job = .fullSweep x)
    (length : map.length = 64) : u.Shifts wmin ((u.trainerDone map).modLine x (fun n =>
      LineUnit.pausedOrFailed { n with record := n.record.swept out none })) := by
  refine EndUnit.fullSweepOver_shifts (g := fun n => LineUnit.pausedOrFailed { n with record := n.record.swept out none })
    u job length (fun n => ?_) (fun n => ?_) (fun kept state pause wants recentre => ?_) (fun _ kept => ?_)
  · exact (LineUnit.pausedOrFailed_same _).1
  · exact (LineUnit.pausedOrFailed_same _).2.1
  · have sweeps : (u.line x).record.sweeps ≤ 2 := by
      obtain ⟨-, -, -, -, -, -, -, -, -, -, -, short, -, -⟩ := kept
      exact short state
    exact kept.pausedOrFailed state pause wants recentre (Nat.succ_le_succ sweeps)
  · obtain ⟨-, -, record, active⟩ := LineUnit.pausedOrFailed_same
      { u.line x with record := (u.line x).record.swept out none }
    exact kept.of_same active (by rw [record]; rfl)

/-! ## Recentres begin and end (R77, R78, R80) -/

/-- The line of a turn is marked. -/
theorem EndUnit.requestRecentre_retains (mine : (u.line x).state = .active ∧ (u.line x).recentre = .none)
    (partner : (u.line x.partner).state = .active ∧ (u.line x.partner).recentre = .none) :
    u.Retains wmin (u.modLine x (fun n => { n with recentre := .requested })) := by
  have line : ∀ (P : LineId → LineUnit → Prop), P x { u.line x with recentre := .requested } →
      P x.partner (u.line x.partner) → ∀ y, P y ((u.modLine x (fun n => { n with recentre := .requested })).line y) :=
    fun P here there y => EndUnit.forall_setLine here there y
  have same : ∀ y, ((u.modLine x (fun n => { n with recentre := .requested })).line y).state = (u.line y).state ∧
      ((u.modLine x (fun n => { n with recentre := .requested })).line y).carrier = (u.line y).carrier ∧
      ((u.modLine x (fun n => { n with recentre := .requested })).line y).record = (u.line y).record :=
    line (fun y n => n.state = (u.line y).state ∧ n.carrier = (u.line y).carrier ∧ n.record = (u.line y).record)
      ⟨rfl, rfl, rfl⟩ ⟨rfl, rfl, rfl⟩
  have steadies : u.Steadies (u.modLine x (fun n => { n with recentre := .requested })) :=
    ⟨by simp, fun y => ⟨(same y).2.1, fun active => (same y).1 ▸ active, by rw [(same y).2.2]⟩⟩
  refine steadies.retains (by simp) fun sound => ?_
  obtain ⟨⟨kept, map, full, sweeping, single⟩, -, sent, ready⟩ := sound
  have job : ∀ y, u.trainer.job ≠ .recentreSweep y := fun y sweeps => by
    have marked := (sweeping y).1 sweeps
    rcases LineId.eq_or_partner x y with rfl | rfl
    · rw [mine.2] at marked
      cases marked
    · rw [partner.2] at marked
      cases marked
  refine ⟨⟨?_, by simpa using map, ?_, fun y => ?_, fun y => ?_⟩, fun y _ => ?_, ?_, by simpa using ready⟩
  · refine line (fun _ n => n.Kept) ?_ (kept _)
    obtain ⟨a₁, a₂, a₃, a₄, a₅, a₆, a₇, -, a₉, a₁₀, a₁₁, a₁₂, a₁₃, a₁₄⟩ := kept x
    exact ⟨a₁, a₂, a₃, a₄, a₅, a₆, a₇, fun _ => mine.1, a₉, a₁₀, a₁₁, a₁₂, a₁₃, a₁₄⟩
  · rw [EndUnit.trainer_modLine]
    exact line (fun y n => u.trainer.job = .fullSweep y → n.state = .training ∧ n.pauseTimer = none ∧ n.wantsSweep = false)
      (full x) (full _)
  · rw [EndUnit.trainer_modLine]
    refine ⟨fun sweeps => absurd sweeps (job y), fun marked => ?_⟩
    rcases LineId.eq_or_partner x y with rfl | rfl
    · rw [EndUnit.line_modLine_self] at marked
      cases marked
    · rw [EndUnit.line_modLine_partner, partner.2] at marked
      cases marked
  · rcases LineId.eq_or_partner x y with rfl | rfl
    · rw [EndUnit.line_modLine_partner]
      exact fun _ => partner.2
    · rw [EndUnit.line_modLine_partner]
      exact fun c => absurd partner.2 c
  · rw [(same _).1]
    rcases LineId.eq_or_partner x y with rfl | rfl
    · exact partner.1
    · rw [LineId.partner_partner]
      exact mine.1
  · unfold EndUnit.SentOnActive
    rw [EndUnit.sender_modLine, (same _).1]
    exact sent

/-- A recentre sweep that has ended, with the window it recorded. -/
theorem EndUnit.recentreOver_retains {r : RecentreOutcome} {win : Option Window} (u : EndUnit)
    (job : u.trainer.job = .recentreSweep x) (length : map.length = 64) (sound : 4 ≤ wmin → ∀ w, win = some w → w.Sound) :
    u.Retains wmin ((u.trainerDone map).modLine x (LineUnit.recentreOver r win)) := by
  have whole : (u.trainerDone map).modLine x (LineUnit.recentreOver r win) =
      { u.setLine x ((u.line x).recentreOver r win) with trainer := { job := .free, passMap := map } } := by
    cases x <;> rfl
  rw [whole]
  refine .settle rfl (fun _ => rfl) (fun formed => ⟨?_, rfl, .done (.inr job) length⟩) (fun least kept => ?_)
  · obtain ⟨a₁, a₂, a₃, a₄, a₅, a₆, a₇, -, a₉, a₁₀, a₁₁, a₁₂, a₁₃, a₁₄⟩ := formed.line x
    exact ⟨a₁, a₂, a₃, a₄, a₅, a₆, a₇, fun c => absurd rfl c, a₉, a₁₀, a₁₁, a₁₂, a₁₃, a₁₄⟩
  · obtain ⟨some_, each⟩ := kept
    unfold LineUnit.recentreOver
    cases win with
    | none => exact ⟨some_, each⟩
    | some w => exact ⟨fun _ => rfl, fun v h => Option.some.inj h ▸ sound least w rfl⟩

/-! ## The engagement at an end (R147) -/

theorem EndUnit.endFrame_gone (u : EndUnit) (o : FrameOutcome) : (u.endFrame o).sender.frame = none := by
  by_cases held : u.sender.frame = none
  · rwa [EndUnit.endFrame_none held]
  · exact (EndUnit.endFrame_atRest held o).1

/-- Both lines DARK, everything of the end given up, its sender without a frame. -/
theorem EndUnit.engage_retains (u : EndUnit) (gone : u.sender.frame = none) : u.Retains wmin u.engage := by
  have shifts := (u.enterDark_shifts (wmin := wmin) .lineA).trans (EndUnit.enterDark_shifts _ .lineB)
  obtain ⟨-, -, -, left, -, -, dark⟩ := (EndUnit.Fades.refl u).engage gone
  have line : ∀ y, u.engage.line y = ((u.enterDark .lineA).enterDark .lineB).line y := fun y => by cases y <;> rfl
  refine ⟨shifts.sense, fun y => ?_, shifts.idle, fun sound => ?_, fun least kept y => ?_⟩
  · rw [line]
    exact shifts.carrier y
  · obtain ⟨kept, map, -, -, -⟩ := shifts.formed sound.formed
    have ready := shifts.ready sound.ready
    have none_ : ∀ y, (u.engage.line y).recentre = .none := fun y => by
      by_contra marked
      rw [line] at marked
      have active := (kept y).recentring marked
      rw [← line, (dark y).1] at active
      cases active
    refine ⟨⟨fun y => ?_, map, fun y c => (by cases c), fun y => ?_, fun y c => absurd (none_ y) c⟩, fun y c => ?_,
      .atRest ⟨left, ready.idle left⟩, ready⟩
    · rw [line]
      exact kept y
    · rw [none_]
      exact ⟨fun c => (by cases c), fun c => (by cases c)⟩
    · rw [none_] at c
      cases c
  · rw [line]
    exact shifts.windows least kept y

end Sys2Proof.Machine
end

section
/-! PROOF. What a command keeps beside the lines: the queue of commands, the inputs, and the least window width. -/

namespace Sys2Proof.Machine

open Sys2Proof

variable {s t r : State} {e d : EndId} {x y : LineId} {l : LaneId} {c : TrafficClass}

/-! ## Changes beside the lines and the inputs -/

/-- The inputs, the lines, the trainers and the senders of the node as they were, and the queue of commands. -/
structure State.Beside (s t : State) : Prop where
  unit : ∀ e, State.SameUnit e s t
  lrst : ∀ l, (t.lane l).lrst = (s.lane l).lrst
  pending : t.pending = s.pending
  nrst : t.nrst = s.nrst
  wmin : t.store.working.wmin = s.store.working.wmin
  bypass : t.bypass = s.bypass

theorem State.SameUnit.of_eq (h : t.endUnit e = s.endUnit e) : State.SameUnit e s t := by
  unfold State.SameUnit State.line
  rw [h]
  exact ⟨rfl, fun _ => rfl, rfl, rfl, rfl, rfl⟩

theorem State.Beside.refl (s : State) : s.Beside s := ⟨fun _ => .of_eq rfl, fun _ => rfl, rfl, rfl, rfl, rfl⟩

theorem State.Beside.trans (h : s.Beside t) (k : t.Beside r) : s.Beside r :=
  ⟨fun e => (h.unit e).trans (k.unit e), fun l => (k.lrst l).trans (h.lrst l), k.pending.trans h.pending,
    k.nrst.trans h.nrst, k.wmin.trans h.wmin, k.bypass.trans h.bypass⟩

/-- The parts of the node that hold neither an end nor a lane. -/
theorem State.Beside.of_rest (h : s.Beside t) (end1 : r.end1 = t.end1) (end2 : r.end2 = t.end2) (laneA : r.laneA = t.laneA)
    (laneB : r.laneB = t.laneB) (pending : r.pending = t.pending) (nrst : r.nrst = t.nrst)
    (wmin : r.store.working.wmin = t.store.working.wmin) (bypass : r.bypass = t.bypass) : s.Beside r :=
  h.trans ⟨fun e => .of_eq (by cases e; exacts [end1, end2]),
    fun l => congrArg LanePort.lrst (by cases l; exacts [laneA, laneB]), pending, nrst, wmin, bypass⟩

theorem State.Beside.setStore (h : s.Beside t) {w : Store} (k : w.working = t.store.working) :
    s.Beside { t with store := w } := h.of_rest rfl rfl rfl rfl rfl rfl (congrArg Settings.wmin k) rfl

theorem State.Beside.modLane (h : s.Beside t) {g : LanePort → LanePort} (k : ∀ p, (g p).lrst = p.lrst) :
    s.Beside (t.modLane l g) :=
  h.trans ⟨fun e => .of_eq (by simp), fun m => by
    rcases LaneId.eq_or_other l m with rfl | rfl
    · rw [State.lane_modLane_self, k]
    · rw [State.lane_modLane_other], by simp, by simp, by simp, by simp⟩

/-- The state, the queues and the counters of an end. -/
theorem State.Beside.traffic (h : s.Beside t) {g : EndUnit → EndUnit}
    (k : ∀ u : EndUnit, g u = { u with state := (g u).state, queues := (g u).queues, counters := (g u).counters }) :
    s.Beside (t.modEnd e g) := by
  refine h.trans ⟨fun d => ?_, fun m => by simp, by simp, by simp, by simp, by simp⟩
  rcases EndId.eq_or_other e d with rfl | rfl
  · unfold State.SameUnit State.line
    rw [State.endUnit_modEnd_self, k]
    exact ⟨rfl, fun x => by cases x <;> rfl, rfl, rfl, rfl, rfl⟩
  · exact .of_eq (State.endUnit_modEnd_other ..)

theorem State.Beside.count (h : s.Beside t) {g : EndCounters → EndCounters} : s.Beside (t.count e g) := h.traffic fun _ => rfl

theorem State.Beside.enqueue (h : s.Beside t) {f : DataRecord} : s.Beside (t.enqueue e f) := h.traffic fun _ => rfl

theorem State.Beside.engine (h : s.Beside t) (k : t.EngineFrame r) : s.Beside r := by
  obtain ⟨pending, nrst, -, -, -, -, bypass, store⟩ := k.rest
  exact h.trans ⟨k.sameUnit, fun l => by rw [k.lanes l], pending, nrst, by rw [store], bypass⟩

theorem State.Beside.raiseBoth (h : s.Beside t) {n : Notice} : s.Beside (t.raiseBoth n) :=
  h.engine (State.EngineFrame.refl t).raiseBoth

theorem State.Beside.lose (h : s.Beside t) {c : LossReason} : s.Beside (t.lose c l) := h.modLane fun p => by simp

theorem State.Beside.loseRecord (h : s.Beside t) {c : LossReason} {f : DataRecord} : s.Beside (t.loseRecord c f) := by
  unfold State.loseRecord
  split
  · exact h
  · exact h.lose

theorem LanePort.lrst_deliver (p : LanePort) (a : ReceiveEntry) : (p.deliver a).lrst = p.lrst := by
  unfold LanePort.deliver LanePort.receive
  split
  · split
    · rfl
    · split <;> rfl
  · rfl

theorem State.Beside.deliver (h : s.Beside t) {a : ReceiveEntry} : s.Beside (t.deliver a) := by
  unfold State.deliver
  split
  · exact (h.modLane fun p => p.lrst_deliver a).modLane fun p => p.lrst_deliver a
  · exact h.of_rest rfl rfl rfl rfl rfl rfl rfl rfl

theorem State.Beside.foldl {α : Type} {f : State → α → State} (k : ∀ t a, State.Beside t (f t a)) (as : List α)
    (h : s.Beside t) : s.Beside (as.foldl f t) := by
  induction as generalizing t with
  | nil => exact h
  | cons a as ih => exact ih (h.trans (k t a))

/-! ## The switch (chapters 6 and 7) -/

theorem State.Beside.queueSend (h : s.Beside t) {a : SendRecord} : s.Beside (t.queueSend l a) := h.modLane fun _ => rfl

theorem State.Beside.setSendQueue (h : s.Beside t) {q : List SendRecord} : s.Beside (t.setSendQueue l q) :=
  h.modLane fun _ => rfl

theorem State.judgeSend_beside (s : State) (l : LaneId) (m : Message) : s.Beside (s.judgeSend l m).2 := by
  have h := State.Beside.refl s
  unfold State.judgeSend
  dsimp only
  split
  · split
    · exact h
    · split
      · exact h.deliver
      · split
        · exact h
        · exact h.deliver.queueSend
  · split
    · exact h
    · exact h
    · exact h
    · exact h.deliver
    · split
      · exact h
      · exact h.queueSend

theorem State.Beside.placeCopy (h : s.Beside t) {a : SendRecord} {copy : Option (EndId × Nat)} {placed : Bool} :
    s.Beside (t.placeCopy l a copy placed).2 := by
  unfold State.placeCopy
  split
  · exact h
  · split
    · exact h
    · split
      · exact h.lose
      · split
        · exact h.enqueue
        · exact h

theorem State.examineHead_beside (s : State) (l : LaneId) : s.Beside (s.examineHead l).2 := by
  have h := State.Beside.refl s
  unfold State.examineHead
  split
  · exact h
  · split
    · unfold State.examineBroadcast
      split
      · exact h.setSendQueue.lose
      · dsimp only
        split
        · exact h.placeCopy.placeCopy.setSendQueue
        · exact h.placeCopy.placeCopy.setSendQueue
    · unfold State.examineUnicast
      dsimp only
      split
      · exact h.setSendQueue.lose
      · split
        · split
          · exact h.setSendQueue.lose
          · split
            · exact h.setSendQueue.enqueue
            · exact h
        · exact h.setSendQueue.deliver
        · exact h.setSendQueue.lose
        · exact h.setSendQueue.lose
        · exact h.setSendQueue.lose

theorem State.resolverOpportunity_beside (s : State) : s.Beside s.resolverOpportunity := by
  have examined := s.examineHead_beside s.resolver
  unfold State.resolverOpportunity
  dsimp only
  split
  · rename_i t first
    rw [first] at examined
    exact examined.of_rest rfl rfl rfl rfl rfl rfl rfl rfl
  · rename_i t first
    rw [first] at examined
    have second := t.examineHead_beside s.resolver.other
    split
    · rename_i r other
      rw [other] at second
      exact (examined.trans second).of_rest rfl rfl rfl rfl rfl rfl rfl rfl
    · rename_i r other
      rw [other] at second
      exact examined.trans second

theorem State.examineBroadcastFrame_beside {f : DataFrame} (k : s.examineBroadcastFrame e f = some r) : s.Beside r := by
  have h := State.Beside.refl s
  unfold State.examineBroadcastFrame at k
  dsimp only at k
  split at k
  · cases k
  split at k
  · cases k
    exact h.deliver
  split at k
  · cases k
    exact h.deliver.count
  split at k
  · cases k
    exact h.deliver.enqueue
  · cases k

theorem State.examineThrough_beside {p : Nat} {o : Orientation} {f : DataFrame} (k : s.examineThrough e p o f = some r) :
    s.Beside r := by
  have h := State.Beside.refl s
  unfold State.examineThrough at k
  dsimp only at k
  split at k
  · cases k
    exact h.count
  split at k
  · cases k
    exact h.count
  split at k
  · cases k
    exact h.enqueue
  · cases k

theorem State.examineData_beside {f : DataFrame} (k : s.examineData e f = some r) : s.Beside r := by
  have h := State.Beside.refl s
  unfold State.examineData at k
  split at k
  · exact State.examineBroadcastFrame_beside k
  split at k
  · cases k
    exact h.count
  split at k
  · split at k
    · split at k
      · cases k
        exact h.count
      split at k
      · cases k
      · cases k
        exact h.deliver
    · exact State.examineThrough_beside k
  · cases k
    exact h.count

theorem State.Beside.purgeOne (h : s.Beside t) {f : DataRecord} : s.Beside (t.purgeOne e f).2 := by
  unfold State.purgeOne
  split
  · exact h
  · split
    · exact h.count
    · split
      · exact h.lose
      · split
        · split <;> exact h
        · exact h.deliver
        · exact h.lose
        · exact h.lose
        · exact h.lose

theorem State.Beside.purgeWalk (q : List DataRecord) (h : s.Beside t) : s.Beside (State.purgeWalk e q t).2.2 := by
  induction q generalizing t with
  | nil => exact h
  | cons f q ih =>
    have k := ih (h.purgeOne (e := e) (f := f))
    unfold State.purgeWalk
    dsimp only
    split <;> exact k

theorem State.Beside.purgeClass (h : s.Beside t) : s.Beside (t.purgeClass e c).2 := by
  have k := State.Beside.purgeWalk (e := e) ((t.endUnit e).queues.classQueue c) h
  unfold State.purgeClass
  dsimp only
  split
  · exact (k.traffic fun _ => rfl).traffic fun _ => rfl
  · exact k.traffic fun _ => rfl

theorem State.Beside.purgeQueues (qs : List (EndId × TrafficClass)) (h : s.Beside t) :
    s.Beside (State.purgeQueues qs t).2 := by
  induction qs generalizing t with
  | nil => exact h
  | cons q qs ih => exact ih h.purgeClass

theorem State.purgeAtCommit_beside (s : State) : s.Beside s.purgeAtCommit := by
  unfold State.purgeAtCommit
  refine State.Beside.foldl (fun t p => ?_) _ (State.Beside.purgeQueues purgeOrder (.refl s))
  unfold State.placeAside
  split
  · exact (State.Beside.refl t).enqueue
  · exact (State.Beside.refl t).loseRecord

/-! ## End states, requests and the store -/

/-- An operation that frames an end and leaves its unit. -/
theorem State.Beside.event (h : s.Beside t) (k : State.EndEventFrame e t r) (unit : State.SameUnit e t r) : s.Beside r := by
  obtain ⟨⟨pending, nrst, -, -, -, -, bypass, store⟩, other, lanes⟩ := k
  refine h.trans ⟨fun d => ?_, fun l => by rw [lanes l], pending, nrst, by rw [store], bypass⟩
  rcases EndId.eq_or_other e d with rfl | rfl
  · exact unit
  · unfold State.SameUnit State.line
    rw [other]
    exact ⟨rfl, fun x => by cases x <;> rfl, rfl, rfl, rfl, rfl⟩

theorem State.Beside.decideEnd (h : s.Beside t) {tag : Bool} : s.Beside (t.decideEnd e tag) :=
  h.event ((State.EventFrame.refl e t).decideEnd).frame (t.decideEnd_unit e tag).1

theorem State.Beside.votesAtEngine (h : s.Beside t) {old : Votes} : s.Beside (t.votesAtEngine old) :=
  h.engine (State.votesAtEngine_engineFrame t old)

theorem State.Beside.storeDone (h : s.Beside t) : s.Beside t.storeDone := by
  unfold State.storeDone
  dsimp only
  have done := h.of_rest (r := { t with store := { t.store with activity := .idle, writingLane := none, operation := none } })
    rfl rfl rfl rfl rfl rfl rfl rfl
  split
  · exact done.engine (State.EngineFrame.refl _).raise
  · exact done

end Sys2Proof.Machine
end

section
/-! PROOF. What every command but the resets, the end of start-up and the changes of an input keeps: the inputs, and all that
goes with the lines and the senders. -/

namespace Sys2Proof.Machine

open Sys2Proof

variable {s t r : State} {e d : EndId} {x y : LineId} {l : LaneId} {o : FrameOutcome}

/-- What a command keeps of the node. -/
structure State.Runs (s t : State) : Prop where
  ends : ∀ e, (s.endUnit e).Retains s.store.working.wmin (t.endUnit e)
  lrst : ∀ l, (t.lane l).lrst = (s.lane l).lrst
  pending : t.pending = s.pending
  nrst : t.nrst = s.nrst
  wmin : t.store.working.wmin = s.store.working.wmin

theorem State.SameUnit.retains {wmin : Nat} (h : State.SameUnit e s t) : (s.endUnit e).Retains wmin (t.endUnit e) := by
  obtain ⟨sense, line, -, trainer, sender, -⟩ := h
  refine EndUnit.Speaks.retains ⟨fun x => ?_, trainer, sense⟩ sender
  have same : (t.endUnit e).line x = (s.endUnit e).line x := line x
  rw [same]
  exact .refl _

theorem State.Runs.refl (s : State) : s.Runs s := ⟨fun _ => .refl _ _, fun _ => rfl, rfl, rfl, rfl⟩

theorem State.Runs.trans (h : s.Runs t) (k : t.Runs r) : s.Runs r :=
  ⟨fun e => (h.ends e).trans (h.wmin ▸ k.ends e), fun l => (k.lrst l).trans (h.lrst l), k.pending.trans h.pending,
    k.nrst.trans h.nrst, k.wmin.trans h.wmin⟩

theorem State.Beside.runs (h : s.Beside t) : s.Runs t :=
  ⟨fun e => (h.unit e).retains, h.lrst, h.pending, h.nrst, h.wmin⟩

theorem State.Runs.setBypass (h : s.Runs t) {b : Bypass} : s.Runs { t with bypass := b } :=
  ⟨fun e => by cases e; exacts [h.ends .end1, h.ends .end2], fun l => by cases l; exacts [h.lrst .laneA, h.lrst .laneB],
    h.pending, h.nrst, h.wmin⟩

theorem State.Runs.testRelease (h : s.Runs t) : s.Runs t.testRelease := by
  unfold State.testRelease
  split
  · exact h.setBypass
  · exact h

theorem State.Runs.beside (h : s.Runs t) (k : t.Beside r) : s.Runs r := h.trans k.runs

theorem State.Runs.engine (h : s.Runs t) (k : t.EngineFrame r) : s.Runs r := h.beside ((State.Beside.refl t).engine k)

/-- An operation of one end, its unit given. -/
theorem State.Runs.event (h : s.Runs t) (k : State.EndEventFrame e t r)
    (unit : (t.endUnit e).Retains t.store.working.wmin (r.endUnit e)) : s.Runs r := by
  obtain ⟨⟨pending, nrst, -, -, -, -, -, store⟩, other, lanes⟩ := k
  refine h.trans ⟨fun d => ?_, fun l => by rw [lanes l], pending, nrst, by rw [store]⟩
  rcases EndId.eq_or_other e d with rfl | rfl
  · exact unit
  · refine State.SameUnit.retains ?_
    unfold State.SameUnit State.line
    rw [other]
    exact ⟨rfl, fun x => by cases x <;> rfl, rfl, rfl, rfl, rfl⟩

theorem State.Runs.modEnd (h : s.Runs t) {g : EndUnit → EndUnit}
    (k : (t.endUnit e).Retains t.store.working.wmin (g (t.endUnit e))) : s.Runs (t.modEnd e g) :=
  h.event (State.EndEventFrame.modEnd t e g) (by rwa [State.endUnit_modEnd_self])

theorem State.Runs.modLine (h : s.Runs t) {g : LineUnit → LineUnit} (k : (t.line e x).Speaks (g (t.line e x))) :
    s.Runs (t.modLine e x g) := h.modEnd ((EndUnit.Retains.refl _ _).line k)

/-! ## The operations of one end -/

theorem State.Runs.endFrame (h : s.Runs t) : s.Runs (t.endFrame o e) :=
  h.event ((State.EndFrame.refl e t).endFrame.event).frame
    (by rw [State.endUnit_endFrame_self]; exact (EndUnit.Retains.refl _ _).endFrame)

theorem State.Runs.answer (h : s.Runs t) {a : WaitingReply} : s.Runs (t.answer e x a) := by
  rw [State.answer_eq]
  exact h.modEnd (EndUnit.Retains.refl _ _).answer

theorem State.Runs.earn (h : s.Runs t) {a : WaitingReply} : s.Runs (t.earn e x a) := by
  rw [State.earn_eq]
  exact h.modEnd (EndUnit.Retains.refl _ _).earn

/-- A change of the lines of an end, and what follows it. -/
theorem State.Runs.afterLines (h : s.Runs t) {g : EndUnit → EndUnit}
    (k : (t.endUnit e).Shifts t.store.working.wmin (g (t.endUnit e))) : s.Runs ((t.modEnd e g).afterLines e) := by
  have changed := (State.EndEventFrame.modEnd t e g).trans (State.EndEventFrame.modEnd _ e EndUnit.afterLines)
  have followed := changed.trans ((State.EndFrame.refl e _).senderAfterLines.event).frame
  rw [State.afterLines_eq]
  refine State.Runs.beside (h.event followed ?_) (State.Beside.refl _).decideEnd
  rw [State.endUnit_senderAfterLines, State.endUnit_modEnd_self, State.endUnit_modEnd_self]
  exact k.follow

/-- What follows where the lines stand. -/
theorem State.Runs.afterLines_same (h : s.Runs t) : s.Runs (t.afterLines e) := by
  have same := h.afterLines (e := e) (g := id) (.refl _ _)
  rwa [State.modEnd_same rfl] at same

theorem State.Runs.lineSilent (h : s.Runs t) : s.Runs (t.lineSilent e x) :=
  h.afterLines ((t.endUnit e).silenced_shifts x)

theorem State.Runs.endTransmission (h : s.Runs t) : s.Runs (t.endTransmission e x) := by
  rw [State.endTransmission_eq]
  exact h.modEnd (EndUnit.Retains.refl _ _).endTransmission

/-! ## The sender (R94 to R101) -/

theorem State.Runs.sendHeld (h : s.Runs t)
    (sent : (t.endUnit e).sender.state = .awaiting ∨ (t.endUnit e).sender.state = .backing) : s.Runs (t.sendHeld e) := by
  rw [State.sendHeld_eq]
  exact h.modEnd ((EndUnit.Retains.refl _ _).sendHeld (sent.imp_right .inl))

theorem State.Runs.firstSend (h : s.Runs t) (pending : (t.endUnit e).sender.state = .pending) : s.Runs (t.firstSend e) := by
  rw [State.firstSend_eq]
  have busy : (t.endUnit e).sender.state ≠ .idle := by rw [pending]; decide
  refine h.modEnd ((EndUnit.Retains.refl _ _).firstSend (fun idle => idle.held (.inl busy)) fun ready => ?_)
  by_contra waits
  have awaiting := ready.waits (by simpa using waits)
  rw [pending] at awaiting
  cases awaiting

theorem State.Runs.offerFrame (h : s.Runs t) : s.Runs (t.offerFrame e) := by
  unfold State.offerFrame
  dsimp only
  split
  · rename_i offers
    split
    · exact h
    · rename_i f q _
      rw [State.takeFrame_eq, State.modEnd_modEnd]
      refine h.modEnd (EndUnit.Retains.takeFrame ?_ offers.1)
      exact (EndUnit.Retains.refl _ (t.endUnit e)).beside _ _ _ q _
  · exact h

theorem SenderState.sent_iff {n : SenderState} : n.sent = true ↔ n = .awaiting ∨ n = .backing := by
  cases n <;> decide

/-- A sender whose frame has been sent turns to BACKING, or stays as it is but for its counts. -/
theorem State.Runs.modSender (h : s.Runs t) {g : Sender → Sender}
    (sent : (t.endUnit e).sender.state = .awaiting ∨ (t.endUnit e).sender.state = .backing)
    (frame : ∀ n, (g n).frame = n.frame) (line : ∀ n, (g n).currentLine = n.currentLine)
    (waits : (g (t.endUnit e).sender).waitsHold = true →
      (t.endUnit e).sender.waitsHold = true ∧ (g (t.endUnit e).sender).state = (t.endUnit e).sender.state) :
    s.Runs (t.modSender e g) := by
  have busy : (t.endUnit e).sender.state ≠ .idle := by rcases sent with c | c <;> rw [c] <;> decide
  refine h.modEnd ((EndUnit.Retains.refl _ _).setSender (fun idle none => ?_) (fun ready c => ?_) fun active _ => ?_)
  · rw [frame] at none
    exact absurd none (idle.held (.inl busy))
  · obtain ⟨old, same⟩ := waits c
    exact same.trans (ready.waits old)
  · rw [line]
    exact active sent

theorem State.sender_modSender (g : Sender → Sender) :
    ((t.modSender e g).endUnit e).sender = g (t.endUnit e).sender := by
  unfold State.modSender
  rw [State.endUnit_modEnd_self]

/-- The sender of a frame that a HOLD has reached: one HOLD more, the sends begun anew. -/
def Sender.heldOff (n : Sender) : Sender := { n with holds := n.holds + 1, sends := 0, waitsHold := false }

/-- A matching HOLD at its end, before the sender turns to BACKING or gives its frame up. -/
def State.heldOff (e : EndId) (s : State) : State :=
  (((s.count e EndCounters.addHold).modEnd e EndUnit.withdraw)).modSender e Sender.heldOff

theorem State.onHold_eq (s : State) (e : EndId) : s.onHold e =
    if Config.maxHolds ≤ (s.endUnit e).sender.holds + 1 then (s.heldOff e).endFrame .congested e
    else (s.heldOff e).modSender e (fun n => { n with state := .backing, timer := .holdWait }) := by
  cases e <;> rfl

theorem State.heldOff_sender (s : State) (e : EndId) : ((s.heldOff e).endUnit e).sender = (s.endUnit e).sender.heldOff := by
  cases e <;> rfl

/-- A matching HOLD leaves the sender BACKING, or ends its frame. -/
theorem State.Runs.onHold (h : s.Runs t)
    (sent : (t.endUnit e).sender.state = .awaiting ∨ (t.endUnit e).sender.state = .backing) : s.Runs (t.onHold e) := by
  have counted : s.Runs (t.count e EndCounters.addHold) := h.beside (State.Beside.refl t).count
  have withdrawn := counted.modEnd (e := e) (g := EndUnit.withdraw) ((EndUnit.withdraw_speaks _).retains rfl)
  have unit : (((t.count e EndCounters.addHold).modEnd e EndUnit.withdraw).endUnit e).sender = (t.endUnit e).sender := by
    cases e <;> rfl
  have held : s.Runs (t.heldOff e) :=
    withdrawn.modSender (by rwa [unit]) (fun _ => rfl) (fun _ => rfl) (fun c => by cases c)
  rw [State.onHold_eq]
  split
  · exact held.endFrame
  · refine held.modSender ?_ (fun _ => rfl) (fun _ => rfl) (fun c => ?_)
    · rw [State.heldOff_sender]
      exact sent
    · rw [State.heldOff_sender] at c
      cases c

theorem State.Runs.moveFrame (h : s.Runs t) (sent : (t.endUnit e).sender.state = .awaiting)
    (active : (t.line e (t.endUnit e).sender.currentLine.partner).state = .active) : s.Runs (t.moveFrame e) := by
  rw [State.moveFrame_eq]
  exact h.modEnd ((EndUnit.Retains.refl _ _).moveFrame sent active)

/-- The sends on a line are exhausted: its run counts up, and the frame moves or ends. -/
theorem State.Runs.sendsExhausted (h : s.Runs t) (sent : (t.endUnit e).sender.state = .awaiting) :
    s.Runs (t.sendsExhausted e) := by
  unfold State.sendsExhausted
  dsimp only
  generalize ((t.endUnit e).line (t.endUnit e).sender.currentLine).unanswered + 1 = run
  generalize spent : (if decide (Config.maxUnanswered ≤ run) = true then 0 else run) = k
  have counted : s.Runs (t.modLine e (t.endUnit e).sender.currentLine (fun n => { n with unanswered := k })) :=
    h.modLine (LineUnit.run_speaks fun _ => by
      rw [← spent]
      split
      · exact Nat.zero_le _
      · rename_i few
        exact Nat.lt_succ_iff.1 (Nat.not_le.1 (decide_eq_true_iff.not.1 few)))
  have ended : s.Runs (if (!(t.endUnit e).sender.moved && ((t.endUnit e).line (t.endUnit e).sender.currentLine.partner).isActive)
      = true then (t.modLine e (t.endUnit e).sender.currentLine (fun n => { n with unanswered := k })).moveFrame e
      else (t.modLine e (t.endUnit e).sender.currentLine (fun n => { n with unanswered := k })).endFrame .noAnswer e) := by
    split
    · rename_i moves
      obtain ⟨-, active⟩ := Bool.and_eq_true_iff.1 moves
      refine counted.moveFrame (by simpa using sent) ?_
      rw [State.endUnit_modLine_self, EndUnit.sender_modLine, State.line_modLine_partner]
      exact LineUnit.isActive_iff.1 active
    · exact counted.endFrame
  split
  · exact ended.lineSilent
  · exact ended

/-- The end of a send leaves the sender. -/
theorem State.sendOver_sender (s : State) (e : EndId) : ((s.sendOver e).endUnit e).sender = (s.endUnit e).sender := by
  have kept : ∀ x, ((s.endTransmission e x).endUnit e).sender = (s.endUnit e).sender := fun x => by
    rw [State.endTransmission_eq, State.endUnit_modEnd_self]
    unfold EndUnit.endTransmission EndUnit.holdFollows
    split
    · rfl
    · split <;> simp
  unfold State.sendOver
  dsimp only
  split
  · exact kept _
  · rfl

/-- The reply timeout runs out. -/
theorem State.Runs.replyTimedOut (h : s.Runs t) (sent : (t.endUnit e).sender.state = .awaiting) :
    s.Runs (t.replyTimedOut e) := by
  have sendEnds : s.Runs (t.sendOver e) := by
    unfold State.sendOver
    dsimp only
    split
    · exact h.endTransmission
    · exact h
  have same := t.sendOver_sender e
  have counted : s.Runs ((t.sendOver e).modSender e (fun n => { n with holds := 0 })) :=
    sendEnds.modSender (by rw [same]; exact .inl sent) (fun _ => rfl) (fun _ => rfl) (fun c => ⟨c, rfl⟩)
  have awaiting : (((t.sendOver e).modSender e (fun n => { n with holds := 0 })).endUnit e).sender.state = .awaiting := by
    rw [State.sender_modSender, same]
    exact sent
  unfold State.replyTimedOut
  dsimp only
  split
  · exact counted.sendHeld (.inl awaiting)
  · exact counted.sendsExhausted awaiting

/-! ## Arrivals (R72, R90 to R104) -/

theorem State.Runs.countCheckError (h : s.Runs t) : s.Runs (t.countCheckError e x) :=
  h.modLine (LineUnit.checkError_speaks _)

theorem State.Runs.arrive {kind : Byte} {f : RawFrame} {valid : State → State} (h : ∀ r, s.Runs r → s.Runs (valid r)) :
    s.Runs (s.arrive e x kind f valid) := by
  unfold State.arrive
  split
  · exact .refl s
  · rename_i active
    split
    · exact (State.Runs.refl s).countCheckError
    · refine h _ ((State.Runs.refl s).modLine (LineUnit.silence_speaks (LineUnit.isActive_iff.1 (by simpa using active)) _))

theorem State.Runs.takeAwaiting {β : Type} {f : RawFrame} {decode : List Byte → Option β} {handle : β → State → State}
    (k : s.Runs t) (h : ∀ b, s.Runs (handle b t)) : s.Runs (t.takeAwaiting e x f decode handle) := by
  have fresh : s.Runs (match decode f.body with
      | none => t.earn e x (.plain (frameBit f) (.refuse .malformed))
      | some b => handle b t) := by
    split
    · exact k.earn
    · exact h _
  unfold State.takeAwaiting
  dsimp only
  split
  · exact fresh
  · split
    · exact k.answer
    · exact fresh

theorem State.Runs.takeUnanswered {β : Type} {f : RawFrame} {decode : List Byte → Option β} {handle : β → State → State}
    (k : s.Runs t) (h : ∀ b, s.Runs (handle b t)) : s.Runs (t.takeUnanswered e x f decode handle) := by
  unfold State.takeUnanswered
  split
  · exact k.countCheckError
  · exact h _

/-- A control frame of the engine. -/
theorem State.Runs.controlArrives {β : Type} {kind : Byte} {f : RawFrame} {decode : List Byte → Option β}
    {engine : β → State → State} (h : ∀ b r, State.EngineFrame r (engine b r)) :
    s.Runs (s.controlArrives e x kind f decode engine) :=
  .arrive fun _ k => k.takeAwaiting fun b => k.earn.engine (h b _)

theorem State.Runs.onReply {bit : Bool} {handle : State → State} (k : s.Runs t)
    (h : ∀ r, s.Runs r → (r.endUnit e).sender.state = .awaiting ∨ (r.endUnit e).sender.state = .backing →
      s.Runs (handle r)) : s.Runs (t.onReply e bit handle) := by
  unfold State.onReply
  split
  · rename_i answers
    refine h _ (k.modLine (LineUnit.run_speaks fun _ => Nat.zero_le _)) ?_
    unfold State.endRun
    rw [State.endUnit_modLine_self, EndUnit.sender_modLine]
    simp only [Sender.matches, Bool.and_eq_true] at answers
    exact SenderState.sent_iff.1 answers.1
  · exact k

/-- A BEACON's identity. -/
theorem State.Runs.takeBeacon (h : s.Runs t) {p : PeerId} : s.Runs (t.takeBeacon e p) :=
  State.Runs.beside (h.modEnd ((EndUnit.Retains.refl _ (t.endUnit e)).beside _ (some p) _ _ _))
    (State.Beside.refl _).decideEnd

theorem State.Runs.examineArrival (h : s.Runs t) {bit : Bool} {f : DataFrame} : s.Runs (t.examineArrival e x bit f) := by
  unfold State.examineArrival
  split
  · exact h.earn
  · split
    · exact (h.beside (State.Beside.refl t).count).earn
    · split
      · rename_i r taken
        exact (h.beside (State.examineData_beside taken)).earn
      · exact h.earn

/-! ## Sweeps, recentres and holds -/

/-- A full sweep ends as one change of the end's lines, with LINE-FAULT at both lanes after the third failure. -/
theorem State.fullSweepEnded_passed {runs : List Nat} {out : SweepOutcome} {w : Window}
    (found : fullSweepResult s.store.working.wmin (s.store.working.offset e x) (sweepMap runs 0 63) = (out, some w)) :
    s.fullSweepEnded e x runs = (s.modEnd e (fun u => (u.trainerDone (sweepMap runs 0 63)).modLine x (fun n =>
      LineUnit.enterActive s.silenceTime s.beaconPeriod (s.beaconFrame e) u.sender
        { n with record := n.record.swept out (some w) }))).afterLines e := by
  unfold State.fullSweepEnded
  dsimp only
  rw [found, if_pos (show (out, some w).2.isSome = true from rfl), State.enterActive_eq]
  cases e <;> cases x <;> rfl

theorem State.sweepFailed_eq (s : State) (e : EndId) (x : LineId) : s.sweepFailed e x =
    (if 3 ≤ (s.line e x).record.sweeps then s.raiseBoth .lineFault else s).modLine e x LineUnit.pausedOrFailed := by
  unfold State.sweepFailed
  split
  · rename_i last
    have failed : (s.line e x).pausedOrFailed = { s.line e x with state := .failed } := if_pos last
    rw [if_pos (show 3 ≤ _ from last), State.modLine_congr failed.symm]
    cases e <;> rfl
  · rename_i few
    rw [if_neg (show ¬ 3 ≤ _ from few)]
    exact State.modLine_congr (if_neg few).symm

theorem State.fullSweepEnded_failed {runs : List Nat} {out : SweepOutcome}
    (found : fullSweepResult s.store.working.wmin (s.store.working.offset e x) (sweepMap runs 0 63) = (out, none)) :
    s.fullSweepEnded e x runs =
      ((if 3 ≤ (s.line e x).record.sweeps + 1 then s.raiseBoth .lineFault else s).modEnd e (fun u =>
        (u.trainerDone (sweepMap runs 0 63)).modLine x (fun n =>
          LineUnit.pausedOrFailed { n with record := n.record.swept out none }))).afterLines e := by
  have line : ((s.modEnd e (EndUnit.trainerDone (sweepMap runs 0 63))).modLine e x
      (fun n => { n with record := n.record.swept out none })).line e x =
      { s.line e x with record := (s.line e x).record.swept out none } := by
    cases e <;> cases x <;> rfl
  unfold State.fullSweepEnded
  dsimp only
  rw [found, if_neg (show ¬ (out, (none : Option Window)).2.isSome = true from Bool.false_ne_true), State.sweepFailed_eq, line]
  by_cases last : 3 ≤ (s.line e x).record.sweeps + 1
  · rw [if_pos last, if_pos (show 3 ≤ ((s.line e x).record.swept out none).sweeps from last)]
    cases e <;> cases x <;> rfl
  · rw [if_neg last, if_neg (show ¬ 3 ≤ ((s.line e x).record.swept out none).sweeps from last)]
    cases e <;> cases x <;> rfl

theorem State.Runs.fullSweepEnded {runs : List Nat} (job : (s.endUnit e).trainer.job = .fullSweep x) :
    s.Runs (s.fullSweepEnded e x runs) := by
  have length := sweepMap_length runs 0 63
  cases found : fullSweepResult s.store.working.wmin (s.store.working.offset e x) (sweepMap runs 0 63) with
  | mk out result =>
    cases result with
    | some w =>
      rw [State.fullSweepEnded_passed found]
      refine (State.Runs.refl s).afterLines ((s.endUnit e).fullSweepPassed_shifts job length fun least => ?_)
      exact fullSweepResult_sound least (congrArg Prod.snd found)
    | none =>
      rw [State.fullSweepEnded_failed found]
      have told : s.Runs (if 3 ≤ (s.line e x).record.sweeps + 1 then s.raiseBoth .lineFault else s) := by
        split
        · exact (State.Beside.refl s).raiseBoth.runs
        · exact .refl s
      refine told.afterLines ?_
      have unit : (if 3 ≤ (s.line e x).record.sweeps + 1 then s.raiseBoth .lineFault else s).endUnit e = s.endUnit e := by
        split <;> simp
      rw [unit]
      exact (s.endUnit e).fullSweepFailed_shifts job length

theorem State.Runs.recentreEnded {runs : List Nat} (job : (s.endUnit e).trainer.job = .recentreSweep x) :
    s.Runs (s.recentreEnded e x runs) := by
  have length := sweepMap_length runs ((s.line e x).record.phase - 8) (min 63 ((s.line e x).record.phase + 8))
  unfold State.recentreEnded
  dsimp only
  split
  · rename_i w found
    rw [State.modEnd_modLine]
    refine (State.Runs.refl s).modEnd ?_
    refine (s.endUnit e).recentreOver_retains job length fun least v same => ?_
    obtain rfl := Option.some.inj same
    exact recentreResult_sound (by simpa using least) found
  · refine State.Runs.afterLines ?_ (EndUnit.enterTraining_shifts _ x _)
    rw [State.modEnd_modLine]
    refine (State.Runs.refl s).modEnd ?_
    exact (s.endUnit e).recentreOver_retains job length fun _ v same => by cases same

theorem State.Runs.holdEnded (h : s.Runs t) : s.Runs (t.holdEnded e x) := by
  rw [State.holdEnded_eq]
  exact h.modEnd ((t.endUnit e).holdEnded_retains x)

theorem State.Runs.queueBeacon (h : s.Runs t) (active : (t.line e x).state = .active) : s.Runs (t.queueBeacon e x) := by
  rw [State.queueBeacon_eq]
  exact h.modLine (LineUnit.queueBeacon_speaks active)

/-- A recentre starts on a line that may be recentred. -/
theorem State.Runs.startRecentre (h : s.Runs t) (may : (t.endUnit e).mayRecentre x = true) : s.Runs (t.startRecentre e x) := by
  simp only [EndUnit.mayRecentre, LineUnit.recentrable, LineUnit.isActive, Bool.and_eq_true, beq_iff_eq] at may
  obtain ⟨⟨mine, partner⟩, -⟩ := may
  have marked : s.Runs (t.modLine e x (fun n => { n with recentre := .requested })) :=
    h.modEnd (EndUnit.requestRecentre_retains mine partner)
  have asked := marked.engine ((State.EngineFrame.refl _).sendControl (e := e) (f := .patternRequest x true))
  unfold State.startRecentre
  dsimp only
  split
  · exact asked
  · exact asked.modEnd (EndUnit.Retains.refl _ _).abandonRecentre

theorem State.Runs.recentreTurn (h : s.Runs t) : s.Runs t.recentreTurn := by
  have turned := h.beside ((State.Beside.refl t).of_rest
    (r := { t with rotation := nextTurn t.rotation, recentreTimer := some Config.recentrePeriod }) rfl rfl rfl rfl rfl rfl rfl rfl)
  unfold State.recentreTurn
  dsimp only
  split
  · rename_i may
    exact turned.startRecentre may
  · exact turned

/-! ## The bypass and the votes (R145 to R150) -/

theorem State.Runs.engageEnd (h : s.Runs t) : s.Runs (t.engageEnd e) := by
  have ended := h.endFrame (e := e) (o := .bypass)
  have lost := ended.beside (State.Beside.foldl (fun r d => (State.Beside.refl r).loseRecord (c := .bypass) (f := d))
    (((t.endFrame .bypass e).endUnit e).queues.classRecords) (.refl _))
  have engaged := lost.modEnd (e := e) (g := EndUnit.engage) (EndUnit.engage_retains _ (by
    rw [State.endUnit_loseRecords, State.endUnit_endFrame_self]
    exact EndUnit.endFrame_gone ..))
  unfold State.engageEnd
  dsimp only
  split
  · exact engaged.beside (State.Beside.refl _).raiseBoth
  · exact engaged

theorem State.Beside.engageLane (h : s.Beside t) : s.Beside (t.engageLane l) := by
  unfold State.engageLane
  exact (State.Beside.foldl (fun r _ => (State.Beside.refl r).lose) _ h).modLane fun _ => rfl

theorem State.Beside.stoodDown (h : s.Beside t) : s.Beside { t.clearDirectory with engine := t.clearDirectory.engine.engage } :=
  h.of_rest rfl rfl rfl rfl rfl rfl rfl rfl

theorem State.Runs.engage (h : s.Runs t) : s.Runs t.engage := by
  have begun := (h.setBypass (b := { t.bypass with state := .engaging, transition := some Config.relayTime })).beside
    ((State.Beside.refl _).raiseBoth (n := .bypassChange))
  have ends := begun.engageEnd (e := .end1) |>.engageEnd (e := .end2)
  have lanes := ends.beside ((State.Beside.refl _).engageLane (l := .laneA) |>.engageLane (l := .laneB))
  exact lanes.beside (State.Beside.refl _).stoodDown

theorem State.Runs.latch (h : s.Runs t) {c : LatchedCause} : s.Runs (t.latch c) := by
  have latched := (h.setBypass (b := { t.bypass with latched := c })).beside ((State.Beside.refl _).raiseBoth (n := .bypassChange))
  unfold State.latch
  dsimp only
  split
  · exact h
  · split
    · exact latched.engage
    · exact latched

theorem State.Runs.recombine (h : s.Runs t) : s.Runs t.recombine := by
  have combined := h.beside ((State.Beside.refl t).of_rest
    (r := { t with engine := { t.engine with effective := effectiveVotes t.laneA t.laneB } }) rfl rfl rfl rfl rfl rfl rfl rfl)
  unfold State.recombine
  dsimp only
  refine State.Runs.beside ?_ (State.Beside.refl _).votesAtEngine
  split
  · unfold State.bypassRequestChanged
    split
    · split
      · exact combined.engage
      · exact combined
    · exact combined.testRelease
  · exact combined

theorem State.Runs.releaseEnded (h : s.Runs t) : s.Runs t.releaseEnded := by
  have off := (h.setBypass (b := { t.bypass with state := .off, transition := none })).beside
    ((State.Beside.refl _).raiseBoth (n := .bypassChange))
  have taken := (off.modEnd (e := .end1) (g := EndUnit.takeInputs t.settleTime) (EndUnit.takeInputs_retains _)).modEnd
    (e := .end2) (g := EndUnit.takeInputs t.settleTime) (EndUnit.takeInputs_retains _)
  unfold State.releaseEnded
  split
  · exact h.engage
  · exact (taken.afterLines_same (e := .end1) |>.afterLines_same (e := .end2)).engine
      (State.EngineFrame.refl _).topologyChange

end Sys2Proof.Machine
end

section
/-! PROOF. Every command but the resets of the node and the end of start-up runs on the node whose input it has moved. -/

namespace Sys2Proof.Machine

open Sys2Proof

variable {s t r : State} {e d : EndId} {x y : LineId} {l : LaneId}

/-! ## Requests (chapter 9) -/

theorem State.Runs.handleKind {is : Byte → Bool} {f : List Byte → Reply × State} (h : ∀ body, s.Runs (f body).2) :
    s.Runs (s.handleKind l is f) := by
  unfold State.handleKind
  split
  · split
    · exact (h _).beside ((State.Beside.refl _).modLane fun _ => rfl)
    · exact .refl s
  · exact .refl s
  · exact .refl s

theorem State.Runs.handle {code : Byte} {f : List Byte → Reply × State} (h : ∀ body, s.Runs (f body).2) :
    s.Runs (s.handle l code f) := .handleKind h

theorem State.Runs.handleAttached {code : Byte} {f : List Byte → Reply × State} (h : ∀ body, s.Runs (f body).2) :
    s.Runs (s.handleAttached l code f) := by
  refine .handle (fun body => ?_)
  split
  · exact h body
  · exact .refl s

theorem State.Runs.noBody {p : Reply × State} (h : s.Runs p.2) (body : List Byte) : s.Runs (noBody s p body).2 := by
  unfold Machine.noBody
  split
  · exact h
  · exact .refl s

theorem State.Runs.withBody {β : Type} {decode : List Byte → Option β} {f : β → Reply × State}
    (h : ∀ b, s.Runs (f b).2) (body : List Byte) : s.Runs (withBody s decode f body).2 := by
  unfold Machine.withBody
  split
  · exact h _
  · exact .refl s

theorem State.Runs.ite {p : Prop} [Decidable p] (h : p → s.Runs t) : s.Runs (if p then t else s) := by
  split
  · exact h ‹_›
  · exact .refl s

/-- A change of one lane that leaves its reset, and the recombination of the votes. -/
theorem State.Runs.recombines (s : State) (l : LaneId) {g : LanePort → LanePort} (k : ∀ p, (g p).lrst = p.lrst) :
    s.Runs (s.modLane l g).recombine := ((State.Beside.refl s).modLane k).runs.recombine

theorem State.Runs.retrainLine (s : State) (e : EndId) (x : LineId) : s.Runs (s.retrainLine e x) := by
  refine .ite fun failed => (State.Runs.refl s).afterLines ?_
  have state : ((s.endUnit e).line x).state = .failed := failed
  exact EndUnit.enterSettling_shifts (by rw [state]; decide) (by rw [state]; decide)

theorem State.Runs.writeSetting (s : State) (l : LaneId) (w : SettingWrite) : s.Runs (s.writeSetting l w).2 := by
  unfold State.writeSetting
  split
  · exact .refl s
  split
  · exact .refl s
  split
  · exact .refl s
  · exact State.Beside.runs (.setStore (.refl s) rfl)

theorem State.Runs.lockCommissioning (s : State) (l : LaneId) : s.Runs (s.lockCommissioning l).2 := by
  unfold State.lockCommissioning
  split
  · exact .refl s
  split
  · exact .refl s
  split
  · exact .refl s
  · exact State.Beside.runs (.setStore (.refl s) rfl)

theorem LanePort.lrst_transact (p : LanePort) (pending : Bool) (bytes : List Byte) : (p.transact pending bytes).lrst = p.lrst := by
  unfold LanePort.transact LanePort.examineRequest
  dsimp only
  split
  · rfl
  · split
    · rfl
    · split <;> simp

/-! ## The commands -/

/-- The node whose input a command moves. -/
def State.withInput (s : State) : Instr → State
  | .couplerSenseChange e coupled => s.modEnd e (fun u => { u with sense := coupled })
  | .carrierChange e x present => s.modLine e x (fun n => { n with carrier := present })
  | .laneReset l => s.modLane l LanePort.laneReset
  | .laneResetRelease l => s.modLane l (fun p => { p with lrst := false })
  | .nodeResetRelease => { s with nrst := false }
  | _ => s

theorem State.Runs.senseChange (s : State) (e : EndId) (coupled : Bool) :
    State.Runs (s.modEnd e (fun u => { u with sense := coupled })) (s.senseChange e coupled) := by
  unfold State.senseChange
  split
  · rename_i same
    rw [State.modEnd_same (by rw [← same])]
    exact .refl s
  · dsimp only
    split
    · exact .refl _
    · exact (State.Runs.refl _).afterLines (EndUnit.senseChanged_shifts _)

theorem State.Runs.carrierChange (s : State) (e : EndId) (x : LineId) (present : Bool) :
    State.Runs (s.modLine e x (fun n => { n with carrier := present })) (s.carrierChange e x present) := by
  unfold State.carrierChange
  split
  · rename_i same
    rw [State.modLine_same (by rw [← same])]
    exact .refl s
  · dsimp only
    split
    · exact .refl _
    · exact (State.Runs.refl _).afterLines (EndUnit.inputChanged_shifts _ x)

/-- Every command but the resets of the node and the end of start-up runs, its input moved. -/
theorem exec_runs (c : Instr) (s : State) : ∃ t, exec c s = .next t ∧
    (c = .powerOn ∨ c = .nodeReset ∨ c = .startUpComplete ∨ (s.withInput c).Runs t) := by
  have runs : ∀ {c : Instr} {t : State}, exec c s = .next t → (s.withInput c).Runs t → ∃ t, exec c s = .next t ∧
      (c = .powerOn ∨ c = .nodeReset ∨ c = .startUpComplete ∨ (s.withInput c).Runs t) :=
    fun h k => ⟨_, h, .inr (.inr (.inr k))⟩
  have here := State.Runs.refl s
  cases c with
  | powerOn => exact ⟨_, rfl, .inl rfl⟩
  | nodeReset => exact ⟨_, rfl, .inr (.inl rfl)⟩
  | startUpComplete => exact ⟨_, rfl, .inr (.inr (.inl rfl))⟩
  | nodeResetRelease => exact runs rfl (.refl _)
  | laneReset l => exact runs rfl (State.Runs.refl _).recombine
  | laneResetRelease l => exact runs rfl (.refl _)
  | couplerSenseChange e coupled => exact runs rfl (.senseChange s e coupled)
  | carrierChange e x present => exact runs rfl (.carrierChange s e x present)
  | settleTimerExpiry e x =>
    refine runs rfl (State.Runs.ite (s := s) fun settles => here.afterLines (EndUnit.settleExpired_shifts ?_))
    simp only [LineUnit.settles, Bool.and_eq_true, beq_iff_eq] at settles
    exact settles.1
  | fullSweepStart e => exact runs rfl (here.modEnd (EndUnit.trainerTakes_retains _))
  | fullSweepEnd e sweep =>
    refine runs rfl ?_
    split
    · exact .fullSweepEnded ‹_›
    · exact here
    · exact here
  | trainingPauseEnd e x =>
    exact runs rfl (State.Runs.ite (s := s) fun pauses => here.modEnd (EndUnit.pauseEnded_retains pauses.1 pauses.2))
  | silenceTimerExpiry e x => exact runs rfl (State.Runs.ite (s := s) fun _ => here.lineSilent)
  | recentreTurn => exact runs rfl (State.Runs.ite (s := s) fun _ => here.recentreTurn)
  | recentreSweepEnd e sweep =>
    refine runs rfl ?_
    split
    · exact .recentreEnded ‹_›
    · exact here
    · exact here
  | patternHoldEnd e x => exact runs rfl (State.Runs.ite (s := s) fun _ => here.holdEnded)
  | beaconDue e x =>
    refine runs rfl (State.Runs.ite (s := s) fun due => here.queueBeacon ?_)
    exact LineUnit.isActive_iff.1 (Bool.and_eq_true_iff.1 due).1
  | transmissionEnd e x => exact runs rfl here.endTransmission
  | unknownFrameKind e x kind f => exact runs rfl (.arrive fun _ k => k.answer)
  | beacon e x f => exact runs rfl (.arrive fun _ k => k.takeUnanswered fun _ => k.takeBeacon)
  | patternRequest e x f => exact runs rfl (.arrive fun _ k => k.takeAwaiting fun _ => k.earn)
  | alert e x f => exact runs rfl (.controlArrives fun _ r => (State.EngineFrame.refl r).onAlert)
  | tally e x f => exact runs rfl (.controlArrives fun _ r => (State.EngineFrame.refl r).onTally)
  | closure e x f => exact runs rfl (.controlArrives fun _ r => (State.EngineFrame.refl r).onClosure)
  | commit e x f => exact runs rfl (.controlArrives fun _ r => (State.EngineFrame.refl r).onCommit)
  | dissent e x f => exact runs rfl (.controlArrives fun _ r => (State.EngineFrame.refl r).onDissent)
  | defer e x f => exact runs rfl (.controlArrives fun _ r => (State.EngineFrame.refl r).onDefer)
  | data e x f => exact runs rfl (.arrive fun _ k => k.takeAwaiting fun _ => k.examineArrival)
  | accept e x f => exact runs rfl (.arrive fun _ k => k.takeUnanswered fun _ => k.onReply fun _ i _ => i.endFrame)
  | hold e x f => exact runs rfl (.arrive fun _ k => k.takeUnanswered fun _ => k.onReply fun _ i sent => i.onHold sent)
  | refuse e x f => exact runs rfl (.arrive fun _ k => k.takeUnanswered fun _ => k.onReply fun _ i _ => i.endFrame)
  | commitPurge => exact runs rfl s.purgeAtCommit_beside.runs
  | admissionAtCommit => exact runs rfl (State.Beside.refl s).decideEnd.decideEnd.runs
  | replyTimeout e =>
    refine runs rfl (State.Runs.ite (s := s) fun out => here.replyTimedOut ?_)
    simp only [State.replyMayTimeOut, Sender.timesReply, Bool.and_eq_true, beq_iff_eq] at out
    exact out.1.1
  | holdWaitEnd e =>
    refine runs rfl (State.Runs.ite (s := s) fun ends => here.sendHeld (.inr ?_))
    simp only [Sender.timesHold, Bool.and_eq_true, beq_iff_eq] at ends
    exact ends.1
  | pendingSend e => exact runs rfl (State.Runs.ite (s := s) fun pending => here.firstSend pending)
  | arbiterOffer e => exact runs rfl here.offerFrame
  | resolverExamination => exact runs rfl s.resolverOpportunity_beside.runs
  | deadlineExpiry =>
    exact runs rfl (State.Runs.ite (s := s) fun _ => here.engine (State.EngineFrame.refl s).deadlineExpired)
  | releaseEnd => exact runs rfl (State.Runs.ite (s := s) fun _ => here.releaseEnded)
  | engageEnd =>
    exact runs rfl (State.Runs.ite (s := s) fun _ =>
      here.setBypass.testRelease)
  | scrub =>
    refine runs rfl (State.Runs.ite (s := s) fun _ => ?_)
    unfold State.scrubbed
    split
    · exact here.latch
    · exact .ite fun _ => here.latch
  | writeComplete =>
    exact runs rfl (State.Runs.ite (s := s) fun _ => State.Beside.runs (.storeDone (.setStore (.refl s) rfl)))
  | lockComplete =>
    exact runs rfl (State.Runs.ite (s := s) fun _ => State.Beside.runs (.storeDone (.setStore (.refl s) rfl)))
  | laneTransaction l span bytes =>
    refine runs rfl ?_
    split
    · exact here
    · exact ((State.Beside.refl s).modLane fun p => LanePort.lrst_transact ..).runs
  | unknownRequest l => exact runs rfl (.handleKind fun _ => here)
  | null l => exact runs rfl (.handle (.noBody here))
  | attach l =>
    refine runs rfl (.handle (.noBody ?_))
    dsimp only
    unfold State.attachLane
    split
    · exact here
    · exact .recombines s l fun _ => rfl
  | detach l => exact runs rfl (.handle (.noBody (State.Runs.ite (s := s) fun _ => .recombines s l fun _ => rfl)))
  | setVotes l => exact runs rfl (.handleAttached (.withBody fun _ => .recombines s l fun _ => rfl))
  | send l => exact runs rfl (.handleAttached (.withBody fun _ => (s.judgeSend_beside l _).runs))
  | fetch l =>
    refine runs rfl (.handleAttached (.noBody ?_))
    unfold State.fetchEntry
    split
    · exact here
    · dsimp only
      exact State.Beside.runs (.modLane (.refl s) fun _ => rfl)
  | readDirectory l => exact runs rfl (.handle (.withBody fun _ => here))
  | readLines l => exact runs rfl (.handle (.withBody fun _ => here))
  | readSetting l => exact runs rfl (.handle (.withBody fun _ => here))
  | readNode l => exact runs rfl (.handle (.noBody here))
  | readCounters l => exact runs rfl (.handle (.noBody here))
  | readNotices l => exact runs rfl (.handle (.noBody here))
  | clearNotices l =>
    exact runs rfl (.handle (.withBody fun named => State.Beside.runs
      (.modLane (l := l) (g := LanePort.clear named) (.refl s) fun _ => rfl)))
  | setMask l =>
    refine runs rfl (.handle (.withBody fun _ => ?_))
    dsimp only
    exact State.Beside.runs (.modLane (.refl s) fun _ => rfl)
  | startInauguration l =>
    refine runs rfl (.handleAttached (.noBody ?_))
    unfold State.startInauguration
    split
    · exact here
    · exact here.engine (State.EngineFrame.refl s).topologyChange
  | retrainLine l => exact runs rfl (.handleAttached (.withBody fun p => .retrainLine s p.1 p.2))
  | writeSetting l => exact runs rfl (.handleAttached (.withBody fun w => .writeSetting s l w))
  | lockCommissioning l => exact runs rfl (.handleAttached (.noBody (.lockCommissioning s l)))

end Sys2Proof.Machine
end

section
/-! PROOF. The invariants of the lines and of their windows, from what the commands keep. -/

namespace Sys2Proof.Machine

open Sys2Proof

variable {s t r : State} {u v : EndUnit} {e d : EndId} {x y : LineId} {l : LaneId}

/-! ## Ends whose inputs have moved -/

/-- The same end but for its sense and the carriers of its lines. -/
structure EndUnit.Moved (u v : EndUnit) : Prop where
  line : ∀ x, ∃ b, v.line x = { u.line x with carrier := b }
  trainer : v.trainer = u.trainer
  sender : v.sender = u.sender

theorem EndUnit.Moved.refl (u : EndUnit) : u.Moved u := ⟨fun x => ⟨(u.line x).carrier, rfl⟩, rfl, rfl⟩

/-- What the inputs do not reach. -/
theorem EndUnit.Moved.same (h : u.Moved v) (x : LineId) : (v.line x).state = (u.line x).state ∧
    (v.line x).recentre = (u.line x).recentre ∧ (v.line x).pauseTimer = (u.line x).pauseTimer ∧
    (v.line x).wantsSweep = (u.line x).wantsSweep := by
  obtain ⟨b, line⟩ := h.line x
  rw [line]
  exact ⟨rfl, rfl, rfl, rfl⟩

theorem EndUnit.Moved.sound (h : u.Moved v) (sound : u.Sound) : v.Sound := by
  obtain ⟨⟨kept, map, full, sweeping, single⟩, partnered, sent, ready⟩ := sound
  refine ⟨⟨fun x => ?_, by rwa [h.trainer], fun x => ?_, fun x => ?_, fun x => ?_⟩, fun x => ?_, ?_, by rwa [h.sender]⟩
  · obtain ⟨b, line⟩ := h.line x
    rw [line]
    exact kept x
  · obtain ⟨state, -, pause, wants⟩ := h.same x
    rw [h.trainer, state, pause, wants]
    exact full x
  · rw [h.trainer, (h.same x).2.1]
    exact sweeping x
  · rw [(h.same x).2.1, (h.same x.partner).2.1]
    exact single x
  · rw [(h.same x).2.1, (h.same x.partner).1]
    exact partnered x
  · unfold EndUnit.SentOnActive
    rw [h.sender, (h.same _).1]
    exact sent

theorem EndUnit.Moved.windows (h : u.Moved v) (kept : ∀ x, (u.line x).WindowKept) (x : LineId) : (v.line x).WindowKept := by
  obtain ⟨b, line⟩ := h.line x
  rw [line]
  exact kept x

theorem State.withInput_moved (s : State) (c : Instr) (e : EndId) :
    (s.endUnit e).Moved ((s.withInput c).endUnit e) := by
  cases c
  case couplerSenseChange d coupled =>
    cases d <;> cases e <;> exact ⟨fun x => by cases x <;> exact ⟨_, rfl⟩, rfl, rfl⟩
  case carrierChange d y present =>
    cases d <;> cases y <;> cases e <;> exact ⟨fun x => by cases x <;> exact ⟨_, rfl⟩, rfl, rfl⟩
  case laneReset l =>
    cases l <;> cases e <;> exact .refl _
  case laneResetRelease l =>
    cases l <;> cases e <;> exact .refl _
  all_goals cases e <;> exact .refl _

theorem State.withInput_store (s : State) (c : Instr) : (s.withInput c).store = s.store := by
  cases c
  case couplerSenseChange d coupled => cases d <;> rfl
  case carrierChange d y present => cases d <;> rfl
  case laneReset l => cases l <;> rfl
  case laneResetRelease l => cases l <;> rfl
  all_goals rfl

/-! ## Resets and the end of start-up -/

theorem EndUnit.reset_sound (sense a b : Bool) : (EndUnit.reset sense a b).Sound := by
  obtain ⟨formed, partnered, sent⟩ := EndUnit.linesKept_iff.1 EndUnit.reset_linesKept
  have moved : (EndUnit.reset false false false).Moved (EndUnit.reset sense a b) :=
    ⟨fun x => by cases x <;> exact ⟨_, rfl⟩, rfl, rfl⟩
  exact moved.sound ⟨formed, partnered, sent, Sender.reset_kept.ready⟩

theorem EndUnit.reset_windows (sense a b : Bool) (x : LineId) : ((EndUnit.reset sense a b).line x).WindowKept := by
  cases x <;> exact LineUnit.reset_windowKept

theorem decodeArea_wmin {tag : Tag} {bytes : List Byte} {v : Settings} (h : decodeArea tag bytes = some v) : 4 ≤ v.wmin := by
  unfold decodeArea at h
  split at h
  · simp only [Option.bind_eq_bind, Option.bind_eq_some_iff] at h
    obtain ⟨unit, -, kind, -, h⟩ := h
    split at h
    · cases h
    · rename_i ranges
      obtain rfl := Option.some.inj h
      exact Nat.not_lt.1 (not_or.1 ranges).1
  · cases h

/-- The least window width of loaded settings (R172, R174). -/
theorem Store.loaded_wmin (w : Store) : 4 ≤ w.loaded.wmin := by
  unfold Store.loaded
  cases loads : w.area.load w.factory.tag with
  | none =>
    obtain ⟨-, -, least, -⟩ := Settings.defaults_inRange w.factory.tag
    exact least
  | some v =>
    unfold SettingsArea.load at loads
    split at loads
    · cases loads
    · split at loads
      · exact decodeArea_wmin loads
      · cases loads

/-- The end of start-up runs on the node whose settings are loaded. -/
theorem State.Runs.startUp (s : State) : State.Runs { s with store := s.store.afterLoad } s.startUp := by
  have here := State.Runs.refl { s with store := s.store.afterLoad }
  have told := here.beside ((State.Beside.refl _).raiseBoth (n := .settingsDefaulted))
  unfold State.startUp
  dsimp only
  refine State.Runs.testRelease (State.Runs.setBypass ?_)
  split
  · split
    · exact told
    · exact told.latch
  · split
    · exact here
    · exact here.latch

/-! ## Steps -/

/-- What every command makes of the ends: it resets them, or retains them with their inputs moved, and the least window
width stays in its range. -/
theorem exec_ends {c : Instr} (h : exec c s = .next t) :
    (4 ≤ s.store.working.wmin → 4 ≤ t.store.working.wmin) ∧
    ((∀ e, ∃ sense a b, t.endUnit e = EndUnit.reset sense a b) ∨
      ∃ wmin, (4 ≤ s.store.working.wmin → 4 ≤ wmin) ∧
        ∀ e, ∃ u, (s.endUnit e).Moved u ∧ u.Retains wmin (t.endUnit e)) := by
  obtain ⟨r, next, cases_⟩ := exec_runs c s
  obtain rfl := Host.Outcome.next.inj (h.symm.trans next)
  rcases cases_ with rfl | rfl | rfl | runs
  · obtain rfl := Host.Outcome.next.inj h
    exact ⟨fun _ => (Settings.defaults_inRange _).2.2.1, .inl fun e => by cases e <;> exact ⟨_, _, _, rfl⟩⟩
  · obtain rfl := Host.Outcome.next.inj h
    exact ⟨fun _ => (Settings.defaults_inRange _).2.2.1, .inl fun e => by cases e <;> exact ⟨_, _, _, rfl⟩⟩
  · obtain rfl := Host.Outcome.next.inj h
    split
    · have started := State.Runs.startUp s
      refine ⟨fun _ => started.wmin ▸ s.store.loaded_wmin, .inr ⟨_, fun _ => s.store.loaded_wmin, fun e => ⟨_, ?_, started.ends e⟩⟩⟩
      cases e <;> exact .refl _
    · exact ⟨id, .inr ⟨_, id, fun e => ⟨_, .refl _, .refl _ _⟩⟩⟩
  · have store := s.withInput_store c
    refine ⟨fun least => by rw [runs.wmin, store]; exact least, .inr ⟨_, fun least => by rw [store]; exact least, fun e =>
      ⟨_, s.withInput_moved c e, runs.ends e⟩⟩⟩

/-- The same of a step, the ends of the node before it given. -/
theorem step_ends (h : step s = .next t) : (4 ≤ s.store.working.wmin → 4 ≤ t.store.working.wmin) ∧
    ((∀ e, ∃ sense a b, t.endUnit e = EndUnit.reset sense a b) ∨
      ∃ wmin, (4 ≤ s.store.working.wmin → 4 ≤ wmin) ∧
        ∀ e, ∃ u, (s.endUnit e).Moved u ∧ u.Retains wmin (t.endUnit e)) := by
  rcases step_cases h with rfl | ⟨c, rest, runs⟩
  · exact ⟨id, .inr ⟨_, id, fun e => ⟨_, .refl _, .refl _ _⟩⟩⟩
  · obtain ⟨least, ends⟩ := exec_ends runs
    refine ⟨least, ends.imp_right fun ⟨wmin, width, each⟩ => ⟨wmin, width, fun e => ?_⟩⟩
    cases e
    · exact each .end1
    · exact each .end2

theorem State.everyEnd_iff {P : EndUnit → Prop} : s.EveryEnd P ↔ ∀ e, P (s.endUnit e) :=
  ⟨fun h e => by cases e; exacts [h.1, h.2], fun h => ⟨h .end1, h .end2⟩⟩

theorem EndUnit.everyLine_iff {P : LineUnit → Prop} : u.EveryLine P ↔ ∀ x, P (u.line x) :=
  ⟨fun h x => by cases x; exacts [h.1, h.2], fun h => ⟨h .lineA, h .lineB⟩⟩

/-- The inputs that a command moves are its own. -/
theorem State.withInput_inputs (s : State) (c : Instr) : (s.withInput c).pending = s.pending ∧
    ((s.withInput c).nrst = s.nrst ∨ c = .nodeReset ∨ c = .nodeResetRelease) ∧
    (∀ l, ((s.withInput c).lane l).lrst = (s.lane l).lrst ∨ c = .laneReset l ∨ c = .laneResetRelease l) ∧
    (∀ e, ((s.withInput c).endUnit e).sense = (s.endUnit e).sense ∨ ∃ b, c = .couplerSenseChange e b) ∧
    ∀ e x, ((s.withInput c).line e x).carrier = (s.line e x).carrier ∨ ∃ b, c = .carrierChange e x b := by
  cases c
  case couplerSenseChange d coupled =>
    refine ⟨State.pending_modEnd .., .inl (State.nrst_modEnd ..), fun l => .inl ?_, fun e => ?_, fun e x => .inl ?_⟩
    · exact congrArg LanePort.lrst (State.lane_modEnd ..)
    · rcases EndId.eq_or_other d e with rfl | rfl
      · exact .inr ⟨coupled, rfl⟩
      · exact .inl (congrArg EndUnit.sense (State.endUnit_modEnd_other ..))
    · cases d <;> cases e <;> cases x <;> rfl
  case carrierChange d y present =>
    refine ⟨State.pending_modLine .., .inl (State.nrst_modLine ..), fun l => .inl ?_, fun e => .inl ?_, fun e x => ?_⟩
    · exact congrArg LanePort.lrst (State.lane_modLine ..)
    · cases d <;> cases y <;> cases e <;> rfl
    · rcases EndId.eq_or_other d e with rfl | rfl
      · rcases LineId.eq_or_partner y x with rfl | rfl
        · exact .inr ⟨present, rfl⟩
        · exact .inl (congrArg LineUnit.carrier (State.line_modLine_partner ..))
      · exact .inl (congrArg (fun u => (EndUnit.line u x).carrier) (State.endUnit_modLine_other ..))
  case laneReset m =>
    refine ⟨State.pending_modLane .., .inl (State.nrst_modLane ..), fun l => ?_, fun e => .inl ?_, fun e x => .inl ?_⟩
    · rcases LaneId.eq_or_other m l with rfl | rfl
      · exact .inr (.inl rfl)
      · exact .inl (congrArg LanePort.lrst (State.lane_modLane_other ..))
    · exact congrArg EndUnit.sense (State.endUnit_modLane ..)
    · exact congrArg (fun u => (EndUnit.line u x).carrier) (State.endUnit_modLane ..)
  case laneResetRelease m =>
    refine ⟨State.pending_modLane .., .inl (State.nrst_modLane ..), fun l => ?_, fun e => .inl ?_, fun e x => .inl ?_⟩
    · rcases LaneId.eq_or_other m l with rfl | rfl
      · exact .inr (.inr rfl)
      · exact .inl (congrArg LanePort.lrst (State.lane_modLane_other ..))
    · exact congrArg EndUnit.sense (State.endUnit_modLane ..)
    · exact congrArg (fun u => (EndUnit.line u x).carrier) (State.endUnit_modLane ..)
  case nodeResetRelease =>
    exact ⟨rfl, .inr (.inr rfl), fun l => .inl (by cases l <;> rfl), fun e => .inl (by cases e <;> rfl),
      fun e x => .inl (by cases e <;> rfl)⟩
  all_goals exact ⟨rfl, .inl rfl, fun _ => .inl rfl, fun _ => .inl rfl, fun _ _ => .inl rfl⟩

/-- A reset of the node leaves its inputs and its queue of commands. -/
theorem State.resetBlocks_inputs (s : State) (cause : ResetCause) : (s.resetBlocks cause).pending = s.pending ∧
    (s.resetBlocks cause).nrst = s.nrst ∧ (∀ l, ((s.resetBlocks cause).lane l).lrst = (s.lane l).lrst) ∧
    (∀ e, ((s.resetBlocks cause).endUnit e).sense = (s.endUnit e).sense) ∧
    ∀ e x, ((s.resetBlocks cause).line e x).carrier = (s.line e x).carrier :=
  ⟨rfl, rfl, fun l => by cases l <;> rfl, fun e => by cases e <;> rfl, fun e x => by cases e <;> cases x <;> rfl⟩

/-- A sound end stays sound. -/
theorem step_sound (h : step s = .next t) (sound : ∀ e, (s.endUnit e).Sound) (e : EndId) : (t.endUnit e).Sound := by
  rcases (step_ends h).2 with resets | ⟨wmin, -, ends⟩
  · obtain ⟨sense, a, b, reset⟩ := resets e
    rw [reset]
    exact EndUnit.reset_sound ..
  · obtain ⟨u, moved, retains⟩ := ends e
    exact retains.sound (moved.sound (sound e))

end Sys2Proof.Machine

open Sys2Proof Sys2Proof.Machine in
/-- Settles O9: every operation of an end keeps its lines, its trainer and its sender with each other, and a change of line
states does so once the partner and the sender have followed it. -/
theorem linesKeptByStep : Obligations.LinesKeptByStep := by
  intro s t senders lines runs
  rw [State.LinesKept, State.everyEnd_iff] at *
  intro e
  obtain ⟨formed, partnered, sent, -⟩ := step_sound runs (fun d => by
    obtain ⟨formed, partnered, sent⟩ := EndUnit.linesKept_iff.1 (lines d)
    exact ⟨formed, partnered, sent, (State.everyEnd_iff.1 senders d).ready⟩) e
  exact EndUnit.linesKept_iff.2 ⟨formed, partnered, sent⟩

open Sys2Proof Sys2Proof.Machine in
/-- Settles O10: only sweeps record windows, and each one they record is sound. -/
theorem windowsKeptByStep : Obligations.WindowsKeptByStep := by
  intro s t ⟨least, windows⟩ runs
  obtain ⟨width, ends⟩ := step_ends runs
  refine ⟨width least, State.everyEnd_iff.2 fun e => EndUnit.everyLine_iff.2 fun x => ?_⟩
  rcases ends with resets | ⟨wmin, wide, ends⟩
  · obtain ⟨sense, a, b, reset⟩ := resets e
    rw [reset]
    exact EndUnit.reset_windows ..
  · obtain ⟨u, moved, retains⟩ := ends e
    exact retains.windows (wide least) (moved.windows (EndUnit.everyLine_iff.1 (State.everyEnd_iff.1 windows e))) x

open Sys2Proof Sys2Proof.Machine in
/-- Settles O2: every command runs on the node whose input it has moved. -/
theorem everyCommandCompletes : Obligations.EveryCommandCompletes := by
  intro c s
  obtain ⟨t, next, cases_⟩ := exec_runs c s
  refine ⟨t, next, ?_⟩
  rcases cases_ with rfl | rfl | rfl | runs
  · obtain rfl := Host.Outcome.next.inj next
    obtain ⟨pending, nrst, lrst, sense, carrier⟩ := s.resetBlocks_inputs .powerOn
    exact ⟨pending, .inl nrst, fun l => .inl (lrst l), fun e => .inl (sense e), fun e x => .inl (carrier e x)⟩
  · obtain rfl := Host.Outcome.next.inj next
    obtain ⟨pending, nrst, lrst, sense, carrier⟩ := s.resetBlocks_inputs .nodeReset
    exact ⟨pending, .inr (.inl rfl), fun l => .inl ((by cases l <;> rfl : _ = _).trans (lrst l)),
      fun e => .inl ((by cases e <;> rfl : _ = _).trans (sense e)),
      fun e x => .inl ((by cases e <;> rfl : _ = _).trans (carrier e x))⟩
  · obtain rfl := Host.Outcome.next.inj next
    split
    · obtain ⟨ends, lrst, pending, nrst, -⟩ := State.Runs.startUp s
      exact ⟨pending, .inl nrst, fun l => .inl ((lrst l).trans (by cases l <;> rfl)),
        fun e => .inl ((ends e).sense.trans (by cases e <;> rfl)),
        fun e x => .inl (((ends e).carrier x).trans (by cases e <;> rfl))⟩
    · exact ⟨rfl, .inl rfl, fun _ => .inl rfl, fun _ => .inl rfl, fun _ _ => .inl rfl⟩
  · obtain ⟨pending, nrst, lrst, sense, carrier⟩ := s.withInput_inputs c
    exact ⟨runs.pending.trans pending, nrst.imp_left runs.nrst.trans, fun l => (lrst l).imp_left (runs.lrst l).trans,
      fun e => (sense e).imp_left (runs.ends e).sense.trans,
      fun e x => (carrier e x).imp_left ((runs.ends e).carrier x).trans⟩
end

section
/-! PROOF. What the ends of the timers and the sweeps of one line, the requests for it and its turns decide of it (R69, R71, R73,
R74, R76 to R78, R80). -/

namespace Sys2Proof.Machine

open Sys2Proof

variable {s t : State} {u : EndUnit} {n : LineUnit} {e : EndId} {x y : LineId} {l : LaneId}

/-! ## Lines that are not ACTIVE -/

@[simp] theorem State.line_count (s : State) (e d : EndId) (g : EndCounters → EndCounters) (x : LineId) :
    (s.count e g).line d x = s.line d x := by cases e <;> cases d <;> cases x <;> rfl

theorem LineUnit.Kept.quiet (h : n.Kept) (state : n.state ≠ .active) : n.Quiet := by
  refine ⟨state, ?_, h.transmitter.1 state⟩
  by_contra marked
  exact state (h.recentring marked)

theorem State.LinesKept.unit (h : s.LinesKept) (e : EndId) : (s.endUnit e).LinesKept := State.everyEnd_iff.1 h e

theorem State.LinesKept.formed (h : s.LinesKept) (e : EndId) : (s.endUnit e).Formed :=
  (EndUnit.linesKept_iff.1 (h.unit e)).1

theorem State.line_modEnd_self (s : State) (e : EndId) (g : EndUnit → EndUnit) (x : LineId) :
    (s.modEnd e g).line e x = (g (s.endUnit e)).line x := congrArg (fun u => EndUnit.line u x) (State.endUnit_modEnd_self ..)

/-- A line that its end's change leaves quiet stays so behind what follows it. -/
theorem State.afterLines_line {g : EndUnit → EndUnit} (quiet : ((g (s.endUnit e)).line x).Quiet) :
    ((s.modEnd e g).afterLines e).line e x = (g (s.endUnit e)).line x := by
  rw [State.afterLines_quiet _ e x (by rwa [State.line_modEnd_self]), State.line_modEnd_self]

/-- A line that has entered DARK, all it waited for and had in hand given up (R70, R78). -/
def LineUnit.darkened (n : LineUnit) : LineUnit :=
  { n with
    state := .dark, settleTimer := none, byRetrain := false, wantsSweep := false, pauseTimer := none, silenceTimer := none,
    holdTimer := none, beaconTimer := none, recentre := .none, tx := Transmitter.idle
    record := if n.recentre = .none then n.record else { n.record with lastRecentre := .abandoned } }

theorem EndUnit.enterDark_line (u : EndUnit) (x : LineId) : (u.enterDark x).line x = (u.line x).darkened := by
  unfold EndUnit.enterDark EndUnit.lineTo LineUnit.darkened
  rw [EndUnit.line_modLine_self, EndUnit.freeTrainer_line, EndUnit.abandonRecentre_line_self]
  split <;> rfl

/-- A line that has entered TRAINING from ACTIVE or SETTLING, all it waited for and had in hand given up (R72, R80). -/
theorem EndUnit.enterTraining_line (u : EndUnit) (x : LineId) (cause : TrainingCause) :
    (u.enterTraining x cause).line x = (u.line x).darkened.startTraining cause := by
  have dark : (u.enterDark x).line x = _ := u.enterDark_line x
  unfold EndUnit.enterTraining EndUnit.lineTo
  unfold EndUnit.enterDark EndUnit.lineTo at dark
  rw [EndUnit.line_modLine_self] at *
  rw [EndUnit.line_modLine_self, ← dark]
  rfl

theorem LineUnit.darkened_quiet (n : LineUnit) : n.darkened.Quiet := ⟨(by simp [LineUnit.darkened]), rfl, rfl⟩

/-- A SETTLING line waits for its settle timer alone (R69, R73, R74). -/
theorem LineUnit.Kept.settling (h : n.Kept) (settling : n.state = .settling) :
    n.wantsSweep = false ∧ n.pauseTimer = none ∧ n.silenceTimer = none ∧ n.beaconTimer = none := by
  obtain ⟨-, -, -, silence, beacon, pause, wants, -⟩ := h
  have other : ∀ st : LineState, st ≠ .settling → n.state ≠ st := fun st c => by
    rw [settling]
    exact c.symm
  refine ⟨?_, ?_, ?_, ?_⟩
  · exact Bool.eq_false_iff.2 fun c => other _ (by decide) (wants c).1
  all_goals rw [← Option.not_isSome_iff_eq_none]
  · exact fun c => other _ (by decide) (pause c)
  · exact fun c => other _ (by decide) (silence.1 c)
  · exact fun c => other _ (by decide) (beacon.1 c)

/-! ## Settle timers (R69) -/

theorem State.exec_settleTimerExpiry (settles : (s.line e x).settles = true) :
    exec (.settleTimerExpiry e x) s = .next ((s.modEnd e (EndUnit.settleExpired x)).afterLines e) :=
  congrArg Host.Outcome.next (if_pos settles)

theorem LineUnit.Kept.settles (h : n.Kept) (settling : n.state = .settling) : n.settles = true := by
  obtain ⟨-, timer, -⟩ := h
  simp [LineUnit.settles, Timer.running, settling, timer.2 settling]

theorem EndUnit.settleExpired_present (present : (u.line x).carrier = true ∧ u.sense = true) : (u.settleExpired x).line x =
    (u.line x).startTraining (if (u.line x).byRetrain then .retrainRequest else .settle) := by
  unfold EndUnit.settleExpired
  dsimp only
  rw [if_pos (Bool.and_eq_true_iff.2 present), EndUnit.line_modLine_self]

theorem EndUnit.settleExpired_absent (absent : (u.line x).carrier = false ∨ u.sense = false) :
    (u.settleExpired x).line x = (u.line x).darkened := by
  unfold EndUnit.settleExpired
  dsimp only
  rw [if_neg (by rcases absent with c | c <;> simp [c]), EndUnit.enterDark_line]

/-! ## Full sweeps that start (R73, R74) -/

theorem LineUnit.waitsForTrainer_iff : n.waitsForTrainer = true ↔ n.state = .training ∧ n.wantsSweep = true := by
  simp [LineUnit.waitsForTrainer]

/-- What a free trainer takes: line A first. -/
theorem EndUnit.trainerTakes_lineA (free : u.trainer.job = .free) (waits : u.lineA.waitsForTrainer = true) :
    u.trainerTakes = u.startFullSweep .lineA := by
  unfold EndUnit.trainerTakes
  rw [if_neg (not_not_intro free), if_pos waits]

theorem EndUnit.trainerTakes_lineB (free : u.trainer.job = .free) (first : ¬ u.lineA.waitsForTrainer = true)
    (waits : u.lineB.waitsForTrainer = true) : u.trainerTakes = u.startFullSweep .lineB := by
  unfold EndUnit.trainerTakes
  rw [if_neg (not_not_intro free), if_neg first, if_pos waits]

theorem EndUnit.trainerTakes_none (none : u.trainer.job ≠ .free ∨ (¬ u.lineA.waitsForTrainer = true ∧ ¬ u.lineB.waitsForTrainer = true)) :
    u.trainerTakes = u := by
  unfold EndUnit.trainerTakes
  split
  · rfl
  · rename_i free
    obtain ⟨first, second⟩ := none.resolve_left free
    rw [if_neg first, if_neg second]

/-! ## RETRAIN-LINE (R71) -/

/-- A FAILED line enters SETTLING, and stays quiet. -/
theorem State.retrainLine_failed (kept : (s.line e x).Kept) (failed : (s.line e x).state = .failed) :
    (s.retrainLine e x).line e x = (s.line e x).enterSettling s.settleTime true := by
  obtain ⟨-, recentre, tx⟩ := kept.quiet (by rw [failed]; decide)
  have line : ((s.endUnit e).modLine x (LineUnit.enterSettling s.settleTime true)).line x =
      (s.line e x).enterSettling s.settleTime true := EndUnit.line_modLine_self ..
  unfold State.retrainLine
  rw [if_pos failed]
  refine (State.afterLines_line (g := fun u => u.modLine x _) ?_).trans line
  rw [line]
  exact ⟨by simp [LineUnit.enterSettling], recentre, tx⟩

/-! ## Recentre turns (R77, R78) -/

theorem EndUnit.mayRecentre_iff : u.mayRecentre x = true ↔
    (∀ y, (u.line y).state = .active ∧ (u.line y).recentre = .none) ∧ (u.state = .unadmitted ∨ u.state = .admitted) := by
  have both : ∀ P : LineId → Prop, (P x ∧ P x.partner) ↔ ∀ y, P y := fun P =>
    ⟨fun h y => by rcases LineId.eq_or_partner x y with rfl | rfl; exacts [h.1, h.2], fun h => ⟨h x, h _⟩⟩
  have known : u.state.identified = true ↔ u.state = .unadmitted ∨ u.state = .admitted := by
    cases u.state <;> decide
  simp only [EndUnit.mayRecentre, Bool.and_eq_true, known, LineUnit.recentrable, LineUnit.isActive, beq_iff_eq]
  rw [both fun y => (u.line y).state = .active ∧ (u.line y).recentre = .none]

theorem State.line_abandonRecentre (s : State) (e : EndId) (x : LineId) : (s.modEnd e (EndUnit.abandonRecentre x)).line e x =
    { s.line e x with
      recentre := .none
      record := { (s.line e x).record with
        lastRecentre := if (s.line e x).recentre = .none then (s.line e x).record.lastRecentre else .abandoned } } := by
  unfold State.line
  rw [State.endUnit_modEnd_self, EndUnit.abandonRecentre_line_self]

/-- The PATTERN-REQUEST of a recentre finds room. -/
theorem State.startRecentre_room (room : (s.endUnit e).ControlRoom) : s.startRecentre e x = s.modEnd e (fun u =>
    (u.modLine x (fun n => { n with recentre := .requested })).withControl (.patternRequest x true)) := by
  have marked : ((s.modLine e x (fun n => { n with recentre := .requested })).endUnit e).ControlRoom := by
    unfold EndUnit.ControlRoom
    rw [State.endUnit_modLine_self, EndUnit.queues_modLine]
    exact room
  unfold State.startRecentre
  dsimp only
  rw [if_pos (decide_eq_true (show _ < Config.controlCapacity from room)), State.sendControl_room marked]
  exact State.modEnd_modEnd ..

/-- The PATTERN-REQUEST of a recentre finds the control queue full. -/
theorem State.startRecentre_full (full : ¬ (s.endUnit e).ControlRoom) : s.startRecentre e x =
    ((s.modLine e x (fun n => { n with recentre := .requested })).count e EndCounters.addControlDrop).modEnd e
      (EndUnit.abandonRecentre x) := by
  have marked : ¬ ((s.modLine e x (fun n => { n with recentre := .requested })).endUnit e).ControlRoom := by
    unfold EndUnit.ControlRoom
    rw [State.endUnit_modLine_self, EndUnit.queues_modLine]
    exact full
  unfold State.startRecentre
  dsimp only
  rw [if_neg (decide_eq_true_iff.not.2 (show ¬ _ < Config.controlCapacity from full)), State.sendControl_full marked]

end Sys2Proof.Machine

open Sys2Proof Sys2Proof.Machine in
/-- Settles O28, by the three branches of the trainer's choice. -/
theorem trainerTakesOneWaitingLine : Obligations.TrainerTakesOneWaitingLine := by
  intro s e
  have waits : ∀ x, ((s.endUnit e).line x).waitsForTrainer = true ↔
      (s.line e x).state = .training ∧ (s.line e x).wantsSweep = true := fun x => LineUnit.waitsForTrainer_iff
  refine ⟨fun free first => ?_, fun free first second => ?_, fun none => ?_, fun x state pause => ?_⟩
  · exact congrArg Host.Outcome.next (State.modEnd_congr (EndUnit.trainerTakes_lineA free ((waits .lineA).2 first)))
  · exact congrArg Host.Outcome.next (State.modEnd_congr
      (EndUnit.trainerTakes_lineB free (mt (waits .lineA).1 first) ((waits .lineB).2 second)))
  · exact congrArg Host.Outcome.next (State.modEnd_same
      (EndUnit.trainerTakes_none (none.imp_right fun h => ⟨mt (waits .lineA).1 h.1, mt (waits .lineB).1 h.2⟩)))
  · exact congrArg Host.Outcome.next (if_pos ⟨state, pause⟩)

open Sys2Proof Sys2Proof.Machine in
/-- Settles O58, by the request's checks and the state of the line it names. -/
theorem retrainLineSettlesAFailedLine : Obligations.RetrainLineSettlesAFailedLine := by
  intro s l b slot
  refine ⟨fun detached => congrArg Host.Outcome.next (State.handleAttached_detached slot detached), fun attached => ?_⟩
  have handled := State.handleAttached_attached (code := codeRetrainLine) (f := withBody s decodeLineBody
    fun p => (Reply.bare .done, s.retrainLine p.1 p.2)) slot attached
  refine ⟨fun out => ?_, fun e x code => ?_⟩
  · rw [withBody_none (decodeLineBody_range out)] at handled
    exact congrArg Host.Outcome.next handled
  · subst code
    rw [withBody_some (decodeLineBody_lineCode e x)] at handled
    refine ⟨fun other => ?_, fun kept failed => ⟨_, congrArg Host.Outcome.next handled, ?_, ?_⟩⟩
    · rw [show s.retrainLine e x = s from if_neg other] at handled
      exact congrArg Host.Outcome.next handled
    · exact congrArg LanePort.slot (State.lane_modLane_self ..)
    · refine Eq.trans ?_ (State.retrainLine_failed (kept.line e x) failed)
      exact congrArg (fun u => EndUnit.line u x) (State.endUnit_modLane ..)

open Sys2Proof Sys2Proof.Machine in
/-- Settles O27: either way the line is not ACTIVE, and what follows leaves it. -/
theorem settleTimerDecidesTheLine : Obligations.SettleTimerDecidesTheLine := by
  intro s e x lines settling
  have kept := lines.line e x
  obtain ⟨-, recentre, tx⟩ := kept.quiet (by rw [settling]; decide)
  obtain ⟨wants, pause, silence, beacon⟩ := kept.settling settling
  have runs := State.exec_settleTimerExpiry (kept.settles settling)
  refine ⟨fun good => ⟨_, runs, ?_⟩, fun lost => ⟨_, runs, ?_⟩⟩
  · have trains := EndUnit.settleExpired_present good
    refine (State.afterLines_line (g := EndUnit.settleExpired x) ?_).trans trains
    rw [trains]
    exact ⟨(by simp [LineUnit.startTraining]), recentre, tx⟩
  · have darkens := EndUnit.settleExpired_absent lost
    refine ((State.afterLines_line (g := EndUnit.settleExpired x) ?_).trans darkens).trans ?_
    · rw [darkens]
      exact LineUnit.darkened_quiet _
    · change (s.line e x).darkened = _
      simp [LineUnit.darkened, wants, pause, silence, beacon, recentre, tx]

open Sys2Proof Sys2Proof.Machine in
/-- Settles O31, by the conditions of a turn and the room in the control queue. -/
theorem recentreTurnMarksOneLine : Obligations.RecentreTurnMarksOneLine := by
  intro s nrst timer next turned mayStart
  have nextTurn : nextTurn s.rotation = next := by
    simp only [next]
    rcases s.rotation with ⟨e, x⟩
    cases e <;> cases x <;> rfl
  have units : ∀ e, turned.endUnit e = s.endUnit e := fun e => by cases e <;> rfl
  have runs : exec .recentreTurn s =
      .next (if (s.endUnit next.1).mayRecentre next.2 then turned.startRecentre next.1 next.2 else turned) := by
    refine congrArg Host.Outcome.next ((if_pos ?_).trans ?_)
    · rw [nrst]
      exact timer
    · unfold State.recentreTurn
      rw [nextTurn]
      exact congrArg (fun u => if EndUnit.mayRecentre next.2 u then _ else _) (units next.1)
  refine ⟨fun may room => ?_, fun may full => ?_, fun not => ?_⟩
  · rw [runs, if_pos (EndUnit.mayRecentre_iff.2 may), State.startRecentre_room (by rwa [units])]
  · rw [runs, if_pos (EndUnit.mayRecentre_iff.2 may), State.startRecentre_full (by rwa [units])]
    have line : (s.line next.1 next.2).recentre = .none := (may.1 next.2).2
    refine ⟨_, rfl, ?_, ?_, ?_⟩
    · rw [State.rotation_modEnd]
      simp [State.count, turned]
    · have kept : turned.line next.1 next.2 = s.line next.1 next.2 := congrArg (fun u => EndUnit.line u next.2) (units next.1)
      rw [State.line_abandonRecentre, State.line_count, State.line_modLine_self, kept, ← line]
      simp [line]
    · rw [State.endUnit_modEnd_self, ((EndUnit.Eases.refl _).abandonRecentre).counters]
      simp [State.count, State.endUnit_modLine_self, units, EndCounters.addControlDrop]
  · rw [runs, if_neg (mt EndUnit.mayRecentre_iff.1 not)]
end

section
/-! PROOF. What the end of a sweep decides of its line: a full sweep (R74, R76) and a recentre sweep (R80). -/

namespace Sys2Proof.Machine

open Sys2Proof

variable {s t : State} {u v w : EndUnit} {n : LineUnit} {e : EndId} {x y : LineId} {b : LineFrame} {o : FrameOutcome}
  {runs : List Nat}

/-! ## What follows the lines of an end where nothing is left to follow (R78, R82, R101) -/

theorem EndUnit.abandonWithoutPartner_same (partnered : u.Partnered) (x : LineId) : u.abandonWithoutPartner x = u := by
  refine if_neg fun ⟨requested, gone⟩ => ?_
  simp [LineUnit.isActive, partnered x requested] at gone

theorem EndUnit.afterLines_settled (partnered : u.Partnered) (active : u.anyActive = true) : u.afterLines = u := by
  unfold EndUnit.afterLines EndUnit.forgetPeer
  rw [EndUnit.abandonWithoutPartner_same partnered, EndUnit.abandonWithoutPartner_same partnered, if_pos active]

theorem State.senderAfterLines_settled (active : (s.endUnit e).anyActive = true) (sent : (s.endUnit e).SentOnActive) :
    s.senderAfterLines e = s := by
  unfold State.senderAfterLines
  dsimp only
  rw [active, if_neg (by decide), if_neg]
  intro left
  obtain ⟨held, gone⟩ := Bool.and_eq_true_iff.1 left
  simp [LineUnit.isActive, sent (SenderState.sent_iff.1 held)] at gone

/-- An end with an ACTIVE line, its recentres and its sender on such lines, has its state decided alone. -/
theorem State.afterLines_settled (active : (s.endUnit e).anyActive = true) (partnered : (s.endUnit e).Partnered)
    (sent : (s.endUnit e).SentOnActive) : s.afterLines e = s.decideEnd e false := by
  rw [State.afterLines_eq, State.modEnd_same (EndUnit.afterLines_settled partnered active),
    State.senderAfterLines_settled active sent]

/-! ## The trainer behind changed lines (R73) -/

/-- The trainer goes on with what it did, or is free. -/
def EndUnit.KeepsJob (u v : EndUnit) : Prop := v.trainer.job = u.trainer.job ∨ v.trainer.job = .free

theorem EndUnit.KeepsJob.trans (h : u.KeepsJob v) (k : v.KeepsJob w) : u.KeepsJob w := by
  rcases k with k | k
  · exact h.imp k.trans k.trans
  · exact .inr k

theorem EndUnit.abandonRecentre_job (u : EndUnit) (x : LineId) : u.KeepsJob (u.abandonRecentre x) := by
  by_cases marked : (u.line x).recentre = .none
  · rw [EndUnit.abandonRecentre_same marked]
    exact .inl rfl
  · rw [EndUnit.abandonRecentre_marked marked]
    by_cases sweeps : u.trainer.job = .recentreSweep x
    · exact .inr (by simp [sweeps])
    · exact .inl (by simp [sweeps])

theorem EndUnit.abandonWithoutPartner_job (u : EndUnit) (x : LineId) : u.KeepsJob (u.abandonWithoutPartner x) := by
  unfold EndUnit.abandonWithoutPartner
  split
  · exact u.abandonRecentre_job x
  · exact .inl rfl

theorem EndUnit.afterLines_job (u : EndUnit) : u.KeepsJob u.afterLines := by
  refine (u.abandonWithoutPartner_job .lineA).trans ((EndUnit.abandonWithoutPartner_job _ .lineB).trans (.inl ?_))
  unfold EndUnit.afterLines EndUnit.forgetPeer
  split <;> rfl

theorem EndUnit.endFrame_job (failed : o ≠ .accept) : u.KeepsJob (u.endFrame o) := by
  cases held : u.sender.frame with
  | none =>
    rw [EndUnit.endFrame_none held]
    exact .inl rfl
  | some f =>
    rw [EndUnit.endFrame_some held]
    have idle : u.KeepsJob (u.senderIdle o) := .inl (by rw [(u.senderIdle_speaks o).trainer])
    unfold EndUnit.reportRecentre
    split
    · rw [if_neg failed]
      exact idle.trans (EndUnit.abandonRecentre_job ..)
    · exact idle

theorem EndUnit.sendHeld_trainer (u : EndUnit) : (u.sendHeld b).trainer = u.trainer := by
  cases hold : (u.line u.sender.currentLine).inHold with
  | true => rw [EndUnit.sendHeld_waits hold]
  | false => rw [EndUnit.sendHeld_sends hold]; simp

theorem EndUnit.senderAfterLines_job (u : EndUnit) : u.KeepsJob (u.senderAfterLines b) := by
  unfold EndUnit.senderAfterLines
  split
  · exact EndUnit.endFrame_job (by decide)
  split
  · split
    · exact EndUnit.endFrame_job (by decide)
    · refine .inl ?_
      unfold EndUnit.moveFrame
      rw [EndUnit.sendHeld_trainer]
      exact congrArg Trainer.job u.withdraw_speaks.trainer
  · exact .inl rfl

/-- What follows changed lines starts no sweep. -/
theorem State.afterLines_job (s : State) (e : EndId) : (s.endUnit e).KeepsJob ((s.afterLines e).endUnit e) := by
  obtain ⟨-, -, -, trainer, -⟩ := (((s.modEnd e EndUnit.afterLines).senderAfterLines e).decideEnd_unit e false).1
  have sender := State.endUnit_senderAfterLines (s.modEnd e EndUnit.afterLines) e
  rw [State.endUnit_modEnd_self] at sender
  have followed := (s.endUnit e).afterLines_job.trans
    (EndUnit.senderAfterLines_job (b := (s.modEnd e EndUnit.afterLines).beaconFrame e) _)
  refine followed.trans (.inl ?_)
  rw [State.afterLines_eq, trainer, sender]

/-- A free trainer stays free. -/
theorem State.afterLines_free (free : (s.endUnit e).trainer.job = .free) :
    ((s.afterLines e).endUnit e).trainer.job = .free := by
  rcases s.afterLines_job e with c | c
  · exact c.trans free
  · exact c

/-- Deciding an end state again leaves the lines and the trainer of the end. -/
theorem State.decideEnd_line (s : State) (e : EndId) (tag : Bool) (x : LineId) :
    (s.decideEnd e tag).line e x = s.line e x := (s.decideEnd_unit e tag).1.2.1 x

/-! ## A line that becomes ACTIVE (R72, R92, R98) -/

/-- A line with nothing in hand that becomes ACTIVE sends its first BEACON, unless it is in pattern hold. -/
theorem LineUnit.enterActive_spec {silence beacon : Nat} {k : Sender} (idle : n.tx = Transmitter.idle) :
    ∃ tx, n.enterActive silence beacon b k = { n with
      state := .active, silenceTimer := some silence, beaconTimer := some beacon, unanswered := 0, tx := tx } ∧
      (n.holdTimer = none → tx.sending = some b) := by
  by_cases free : n.holdTimer = none
  · refine ⟨_, LineUnit.serve_free ⟨rfl, free, congrArg Transmitter.sending idle⟩, fun _ => ?_⟩
    simp [Transmitter.begin_, idle, Transmitter.idle]
  · exact ⟨_, LineUnit.serve_waits fun c => free c.2.1, fun c => absurd c free⟩

/-! ## Full sweeps (R74, R76) -/

theorem State.exec_fullSweepEnd (job : (s.endUnit e).trainer.job = .fullSweep x) :
    exec (.fullSweepEnd e runs) s = .next (s.fullSweepEnded e x runs) := by
  have ends : exec (.fullSweepEnd e runs) s = .next (match (s.endUnit e).trainer.job with
    | .fullSweep x => s.fullSweepEnded e x runs
    | .recentreSweep _ => s
    | .free => s) := rfl
  rw [ends, job]

/-- A line in a full sweep stands in TRAINING, with nothing in hand (R73). -/
theorem EndUnit.Formed.swept (h : u.Formed) (job : u.trainer.job = .fullSweep x) :
    (u.line x).state = .training ∧ (u.line x).pauseTimer = none ∧ (u.line x).Quiet := by
  obtain ⟨state, pause, -⟩ := h.full x job
  exact ⟨state, pause, (h.line x).quiet (by rw [state]; decide)⟩

/-- A line that becomes ACTIVE leaves the recentre and the sender of its partner line as they stood. -/
theorem EndUnit.joins {g : LineUnit → LineUnit} (partnered : u.Partnered) (sent : u.SentOnActive)
    (recentre : (g (u.line x)).recentre = .none) (active : (g (u.line x)).state = .active) {map : List Bool} :
    ((u.trainerDone map).modLine x g).anyActive = true ∧ ((u.trainerDone map).modLine x g).Partnered ∧
    ((u.trainerDone map).modLine x g).SentOnActive := by
  have line : ∀ y, ((u.trainerDone map).modLine x g).line y = (u.setLine x (g (u.line x))).line y := fun y => by
    cases x <;> cases y <;> rfl
  have states : ∀ y, (u.line y).state = .active → (((u.trainerDone map).modLine x g).line y).state = .active := fun y => by
    rw [line]
    exact EndUnit.forall_setLine (P := fun y n => (u.line y).state = .active → n.state = .active) (fun _ => active) id y
  refine ⟨EndUnit.anyActive_iff.2 ⟨x, by rw [line, EndUnit.line_setLine_self, active]⟩, fun y requested => ?_, fun c => ?_⟩
  · rw [line] at requested
    rcases LineId.eq_or_partner x y with rfl | rfl
    · rw [EndUnit.line_setLine_self, recentre] at requested
      cases requested
    · rw [EndUnit.line_setLine_partner] at requested
      exact states _ (partnered _ requested)
  · have sender : ((u.trainerDone map).modLine x g).sender = u.sender := by cases x <;> rfl
    rw [sender] at c ⊢
    exact states _ (sent c)

/-- A mark that is set stays set among marks that have had others added. -/
theorem mark_stays {a b m : BitVec 12} (set_ : a &&& m = m) (kept : a &&& b = a) : b &&& m = m := by
  rw [← set_, ← kept]
  ext i
  simp
  tauto

/-- A sweep that makes its line ACTIVE leaves nothing to follow but the end's state. -/
theorem State.afterLines_joins {g : LineUnit → LineUnit} {map : List Bool} (partnered : (s.endUnit e).Partnered)
    (sent : (s.endUnit e).SentOnActive) (recentre : (g (s.line e x)).recentre = .none)
    (active : (g (s.line e x)).state = .active) :
    let t := (s.modEnd e (fun u => (u.trainerDone map).modLine x g)).afterLines e
    t.line e x = g (s.line e x) ∧ (t.endUnit e).trainer.job = .free := by
  have unit : (s.modEnd e (fun u => (u.trainerDone map).modLine x g)).endUnit e =
      ((s.endUnit e).trainerDone map).modLine x g := State.endUnit_modEnd_self ..
  obtain ⟨some_, partnered, sent⟩ := EndUnit.joins (map := map) partnered sent recentre active
  rw [← unit] at some_ partnered sent
  refine ⟨?_, State.afterLines_free ?_⟩
  · rw [State.afterLines_settled some_ partnered sent, State.decideEnd_line]
    unfold State.line
    rw [unit]
    cases x <;> rfl
  · rw [unit]
    cases x <;> rfl

/-- A full sweep that fails leaves its line quiet (R74). -/
theorem State.fullSweepEnded_quiet {out : SweepOutcome} (quiet : (s.line e x).Quiet)
    (found : fullSweepResult s.store.working.wmin (s.store.working.offset e x) (sweepMap runs 0 63) = (out, none)) :
    (s.fullSweepEnded e x runs).line e x =
      LineUnit.pausedOrFailed { s.line e x with record := (s.line e x).record.swept out none } ∧
    ((s.fullSweepEnded e x runs).endUnit e).trainer.job = .free ∧
    (3 ≤ (s.line e x).record.sweeps + 1 →
      ∀ l, ((s.fullSweepEnded e x runs).lane l).notices &&& Notice.lineFault.mark = Notice.lineFault.mark) := by
  obtain ⟨state, recentre, tx⟩ := quiet
  rw [State.fullSweepEnded_failed found]
  let g : EndUnit → EndUnit := fun u => (u.trainerDone (sweepMap runs 0 63)).modLine x (fun n =>
    LineUnit.pausedOrFailed { n with record := n.record.swept out none })
  generalize told : (if 3 ≤ (s.line e x).record.sweeps + 1 then s.raiseBoth .lineFault else s) = r
  have unit : r.endUnit e = s.endUnit e := by
    rw [← told]
    split <;> simp
  have line : (g (r.endUnit e)).line x =
      LineUnit.pausedOrFailed { s.line e x with record := (s.line e x).record.swept out none } := by
    rw [unit]
    cases x <;> rfl
  refine ⟨?_, State.afterLines_free ?_, fun last l => ?_⟩
  · refine (State.afterLines_line (g := g) ?_).trans line
    rw [line]
    refine ⟨?_, ?_, ?_⟩ <;> unfold LineUnit.pausedOrFailed <;> split
    exacts [(by simp), state, recentre, recentre, tx, tx]
  · rw [State.endUnit_modEnd_self]
    cases x <;> rfl
  · rw [if_pos last] at told
    have marked : (r.lane l).notices &&& Notice.lineFault.mark = Notice.lineFault.mark := by
      rw [← told]
      exact State.mark_raiseBoth s (by decide) l
    exact mark_stays (by rwa [State.lane_modEnd]) (((State.EventFrame.refl e (r.modEnd e g)).afterLines).marks l)

/-- A full sweep that passes makes its line ACTIVE (R76). -/
theorem State.fullSweepEnded_activates {out : SweepOutcome} {win : Window} (kept : (s.endUnit e).LinesKept)
    (job : (s.endUnit e).trainer.job = .fullSweep x)
    (found : fullSweepResult s.store.working.wmin (s.store.working.offset e x) (sweepMap runs 0 63) = (out, some win)) :
    (∃ tx, (s.fullSweepEnded e x runs).line e x = { s.line e x with
      state := .active, silenceTimer := some s.silenceTime, beaconTimer := some s.beaconPeriod, unanswered := 0, tx := tx
      record := (s.line e x).record.swept out (some win) } ∧
      ((s.line e x).holdTimer = none → tx.sending = some (s.beaconFrame e))) ∧
    ((s.fullSweepEnded e x runs).endUnit e).trainer.job = .free := by
  obtain ⟨formed, partnered, sent⟩ := EndUnit.linesKept_iff.1 kept
  obtain ⟨-, -, -, recentre, idle⟩ := formed.swept job
  let swept : LineUnit → LineUnit := fun n => { n with record := n.record.swept out (some win) }
  obtain ⟨tx, active, first⟩ := LineUnit.enterActive_spec (n := swept (s.line e x)) (silence := s.silenceTime)
    (beacon := s.beaconPeriod) (b := s.beaconFrame e) (k := (s.endUnit e).sender) idle
  obtain ⟨line, free⟩ := State.afterLines_joins (map := sweepMap runs 0 63) (g := fun n =>
    (swept n).enterActive s.silenceTime s.beaconPeriod (s.beaconFrame e) (s.endUnit e).sender) partnered sent
    (by rw [active]; exact recentre) (by rw [active])
  rw [State.fullSweepEnded_passed found]
  exact ⟨⟨tx, line.trans active, first⟩, free⟩

end Sys2Proof.Machine

open Sys2Proof Sys2Proof.Machine in
/-- Settles O29: the run that the trainer finds decides between one change of the line and another, and what follows leaves the
line. -/
theorem fullSweepDecidesTheLine : Obligations.FullSweepDecidesTheLine := by
  intro s e x runs lines job
  obtain ⟨formed, partnered, sent⟩ := EndUnit.linesKept_iff.1 (lines.unit e)
  obtain ⟨training, pause, notActive, recentre, tx⟩ := formed.swept job
  have runs_ := State.exec_fullSweepEnd (runs := runs) job
  refine ⟨fun low high longest wide => ?_, fun out failed => ?_⟩
  · have found := fullSweepResult_pass (o := s.store.working.offset e x) longest.1 (longestRun_of_longestPassing longest) wide
    obtain ⟨⟨tx, line, first⟩, free⟩ := State.fullSweepEnded_activates (lines.unit e) job found
    exact ⟨_, runs_, congrArg LineUnit.state line, congrArg LineUnit.record line, congrArg LineUnit.silenceTimer line,
      congrArg LineUnit.beaconTimer line, congrArg LineUnit.unanswered line,
      fun none_ => (congrArg (fun n => n.tx.sending) line).trans (first none_), free⟩
  · intro record
    have found : fullSweepResult s.store.working.wmin (s.store.working.offset e x) (sweepMap runs 0 63) = (out, none) := by
      rcases failed with ⟨none_, rfl⟩ | ⟨low, high, longest, narrow, rfl⟩
      · exact fullSweepResult_noPass (longestRun_none none_)
      · exact fullSweepResult_narrow (longestRun_of_longestPassing longest) narrow
    obtain ⟨line, free, told⟩ := State.fullSweepEnded_quiet (formed.swept job).2.2 found
    have sweeps : ((s.line e x).record.swept out none).sweeps = (s.line e x).record.sweeps + 1 := rfl
    unfold LineUnit.pausedOrFailed at line
    refine ⟨fun few => ⟨_, runs_, free, ?_⟩, fun last => ⟨_, runs_, free, ?_, told (by omega)⟩⟩
    · rw [line, if_neg (by simp only [sweeps]; omega)]
      rfl
    · rw [line, if_pos (by simp only [sweeps]; omega)]
      rfl
end

section
/-! PROOF. What the end of a recentre sweep decides of its line (R80). -/

namespace Sys2Proof.Machine

open Sys2Proof

variable {s t : State} {u v : EndUnit} {n : LineUnit} {e : EndId} {x y : LineId} {runs : List Nat} {w : Window}

/-! ## Lines that leave their states -/

/-- An ACTIVE line waits for no settle timer and no pause (R69, R74). -/
theorem LineUnit.Kept.active (h : n.Kept) (active : n.state = .active) :
    n.settleTimer = none ∧ n.byRetrain = false ∧ n.pauseTimer = none ∧ n.wantsSweep = false := by
  obtain ⟨-, settle, retrain, -, -, pause, wants, -⟩ := h
  have other : ∀ st : LineState, st ≠ .active → n.state ≠ st := fun st c => by
    rw [active]
    exact c.symm
  refine ⟨?_, Bool.eq_false_iff.2 fun c => other _ (by decide) (retrain c), ?_,
    Bool.eq_false_iff.2 fun c => other _ (by decide) (wants c).1⟩
  all_goals rw [← Option.not_isSome_iff_eq_none]
  · exact fun c => other _ (by decide) (settle.1 c)
  · exact fun c => other _ (by decide) (pause c)

theorem EndUnit.freeTrainer_job (u : EndUnit) (x : LineId) : u.KeepsJob (u.freeTrainer x) := by
  unfold EndUnit.freeTrainer
  split
  · exact .inr rfl
  · exact .inl rfl

theorem EndUnit.modLine_job (u : EndUnit) (x : LineId) (g : LineUnit → LineUnit) : u.KeepsJob (u.modLine x g) :=
  .inl (by rw [EndUnit.trainer_modLine])

theorem EndUnit.lineTo_job (u : EndUnit) (x : LineId) (st : LineState) : u.KeepsJob (u.lineTo x st) :=
  ((u.abandonRecentre_job x).trans (EndUnit.freeTrainer_job _ x)).trans (EndUnit.modLine_job _ x _)

theorem EndUnit.enterTraining_job (u : EndUnit) (x : LineId) (cause : TrainingCause) : u.KeepsJob (u.enterTraining x cause) :=
  (u.lineTo_job x .training).trans (EndUnit.modLine_job _ x _)

/-! ## Recentre sweeps (R80) -/

theorem State.exec_recentreSweepEnd (job : (s.endUnit e).trainer.job = .recentreSweep x) :
    exec (.recentreSweepEnd e runs) s = .next (s.recentreEnded e x runs) := by
  have ends : exec (.recentreSweepEnd e runs) s = .next (match (s.endUnit e).trainer.job with
    | .recentreSweep x => s.recentreEnded e x runs
    | .fullSweep _ => s
    | .free => s) := rfl
  rw [ends, job]

/-- A recentre that finds its window again (R80). -/
theorem State.recentreEnded_moved (found : recentreResult s.store.working.wmin (s.store.working.offset e x)
    (sweepMap runs ((s.line e x).record.phase - 8) (min 63 ((s.line e x).record.phase + 8))) (s.line e x).record.phase = some w) :
    (s.recentreEnded e x runs).line e x = (s.line e x).recentreOver .moved (some w) ∧
    ((s.recentreEnded e x runs).endUnit e).trainer.job = .free := by
  unfold State.recentreEnded
  dsimp only
  rw [State.store_modEnd, found]
  cases e <;> cases x <;> exact ⟨rfl, rfl⟩

/-- A recentre that sends its line to TRAINING (R80). -/
theorem State.recentreEnded_retrains (found : recentreResult s.store.working.wmin (s.store.working.offset e x)
    (sweepMap runs ((s.line e x).record.phase - 8) (min 63 ((s.line e x).record.phase + 8))) (s.line e x).record.phase = none) :
    (s.recentreEnded e x runs).line e x =
      ((s.line e x).recentreOver .retrain none).darkened.startTraining .recentre ∧
    ((s.recentreEnded e x runs).endUnit e).trainer.job = .free := by
  unfold State.recentreEnded
  dsimp only
  rw [State.store_modEnd, found]
  dsimp only
  generalize swept : (s.modEnd e _).modLine e x _ = r
  have line : r.line e x = (s.line e x).recentreOver .retrain none := by
    rw [← swept]
    cases e <;> cases x <;> rfl
  have free : (r.endUnit e).trainer.job = .free := by
    rw [← swept]
    cases e <;> cases x <;> rfl
  have trains : ((r.endUnit e).enterTraining x .recentre).line x = (r.line e x).darkened.startTraining .recentre :=
    EndUnit.enterTraining_line ..
  refine ⟨?_, State.afterLines_free ?_⟩
  · rw [← line, ← trains]
    refine State.afterLines_line (g := EndUnit.enterTraining x .recentre) ?_
    rw [trains]
    exact ⟨(by simp [LineUnit.startTraining]), rfl, rfl⟩
  · rw [State.endUnit_modEnd_self]
    exact ((r.endUnit e).enterTraining_job x .recentre).elim (fun c => c.trans free) id

end Sys2Proof.Machine

open Sys2Proof Sys2Proof.Machine in
/-- Settles O32: the run around the phase decides between a window and TRAINING. -/
theorem recentreSweepMovesOrRetrains : Obligations.RecentreSweepMovesOrRetrains := by
  intro s e x runs w lines windows job window from_ to_
  have active : (s.line e x).state = .active :=
    (lines.line e x).recentring fun c => absurd (c.symm.trans (((lines.formed e).sweeping x).1 job)) (by decide)
  obtain ⟨settle, retrain, pause, wants⟩ := (lines.line e x).active active
  have phase : (s.line e x).record.phase = w.phase := by
    unfold TrainingRecord.phase
    rw [window]
  have runs_ := State.exec_recentreSweepEnd (runs := runs) job
  refine ⟨fun low high around wide => ?_, fun fails => ?_⟩
  · obtain ⟨down, up⟩ := around.counted (Nat.min_le_left ..)
    obtain ⟨-, below, above, -⟩ := around
    have found := recentreResult_moved (o := s.store.working.offset e x) ⟨below, above⟩ down up wide
    obtain ⟨line, free⟩ := State.recentreEnded_moved (s := s) (e := e) (x := x) (runs := runs) (by rw [phase]; exact found)
    exact ⟨_, runs_, free, line⟩
  · have found : recentreResult s.store.working.wmin (s.store.working.offset e x) (sweepMap runs from_ to_) w.phase = none := by
      rcases fails with missed | ⟨low, high, around, narrow⟩
      · refine recentreResult_fails (Nat.eq_zero_of_not_pos fun some_ => missed ?_)
        have passed := (passesDown_spec (sweepMap runs from_ to_) w.phase).1 w.phase (by omega) (Nat.le_refl _)
        exact ((sweepMap_getD ..).1 passed).2.2.2
      · obtain ⟨down, up⟩ := around.counted (Nat.min_le_left ..)
        obtain ⟨-, below, above, -⟩ := around
        exact recentreResult_narrow ⟨below, above⟩ down up narrow
    obtain ⟨line, free⟩ := State.recentreEnded_retrains (s := s) (e := e) (x := x) (runs := runs) (by rw [phase]; exact found)
    refine ⟨_, runs_, free, line.trans ?_⟩
    simp [LineUnit.darkened, LineUnit.startTraining, LineUnit.recentreOver, settle, retrain, pause]
end

section
/-! PROOF. The end state (R83 to R85), and the arbiter of an end (R131, R132). -/

namespace Sys2Proof.Machine

open Sys2Proof

variable {s t : State} {u v : EndUnit} {n : LineUnit} {e : EndId} {x y : LineId} {d : Directory} {p : PeerId}

/-! ## The end state (R83 to R85) -/

theorem facingEnd_iff {n : Entry} : facingEnd d e n = some p.peerEnd ↔ ∃ o, d.ownOrientation = some o ∧
    p.peerEnd = (if e = o.upEnd then n.orientation.downEnd else n.orientation.upEnd) := by
  unfold facingEnd
  cases d.ownOrientation with
  | none => simp
  | some o => simp [eq_comm]

theorem generationCheck_iff : generationCheck d p = true ↔ (p.quiet = true → p.generation = d.generation) := by
  unfold generationCheck
  cases p.quiet <;> simp

/-- Admission of a peer, its conditions and the generation check one by one (R84, R85). -/
theorem admits_iff : admits d e p = true ↔ d.generation ≠ 0 ∧
    ∃ n o, d.neighbour e = some n ∧ n.tag = p.tag ∧ d.ownOrientation = some o ∧
      p.peerEnd = (if e = o.upEnd then n.orientation.downEnd else n.orientation.upEnd) ∧
      (p.quiet = true → p.generation = d.generation) := by
  unfold admits Directory.present
  cases d.neighbour e with
  | none => simp
  | some n =>
    simp only [Bool.and_eq_true, bne_iff_ne, beq_iff_eq, facingEnd_iff, generationCheck_iff]
    constructor
    · rintro ⟨known, ⟨tag, o, own, faces⟩, generation⟩
      exact ⟨known, n, o, rfl, tag, own, faces, generation⟩
    · rintro ⟨known, m, o, same, tag, own, faces, generation⟩
      obtain rfl := Option.some.inj same
      exact ⟨known, ⟨tag, o, own, faces⟩, generation⟩

theorem State.endStateOf_away (away : s.bypass.state ≠ .off) : s.endStateOf e = .opened := if_pos away

/-- An end with an ACTIVE line that knows no peer (R83). -/
theorem State.endStateOf_peerless (off : s.bypass.state = .off) (active : (s.endUnit e).anyActive = true)
    (peer : (s.endUnit e).peer = none) : s.endStateOf e = .coupling := by
  unfold State.endStateOf
  dsimp only
  rw [if_neg (not_not_intro off), if_pos active, peer]

/-- An end with an ACTIVE line that knows its peer (R83). -/
theorem State.endStateOf_peer (off : s.bypass.state = .off) (active : (s.endUnit e).anyActive = true)
    (peer : (s.endUnit e).peer = some p) :
    s.endStateOf e = if admits s.directory e p then .admitted else .unadmitted := by
  unfold State.endStateOf
  dsimp only
  rw [if_neg (not_not_intro off), if_pos active, peer]

end Sys2Proof.Machine

open Sys2Proof Sys2Proof.Machine in
/-- Settles O22, by the branches of R83 and the conditions of R84 and R85. -/
theorem endStateFollowsAdmission : Obligations.EndStateFollowsAdmission := by
  intro s e
  refine ⟨State.endStateOf_away, fun off => ⟨fun dark sense => ?_, fun idle past => ?_, fun active => ?_⟩⟩
  · rw [State.endStateOf_inactive (EndUnit.anyActive_false.2 fun x c => absurd ((dark x).symm.trans c) (by decide)), if_neg]
    rintro ⟨-, c | c | c⟩
    · exact absurd (sense.symm.trans c) (by decide)
    · exact c (dark .lineA)
    · exact c (dark .lineB)
  · rw [State.endStateOf_inactive (EndUnit.anyActive_false.2 idle), if_pos]
    refine ⟨off, past.imp_right fun ⟨x, c⟩ => ?_⟩
    cases x
    · exact .inl c
    · exact .inr c
  · have active := EndUnit.anyActive_iff.2 active
    refine ⟨State.endStateOf_peerless off active, fun p peer => ?_⟩
    rw [State.endStateOf_peer off active peer, ← admits_iff]
    by_cases admitted : admits s.directory e p = true
    · simp [admitted]
    · simp [admitted]
end

section
/-! PROOF. The first send of a frame (R87, R94), and what the arbiter of an end offers its sender (R131, R132). -/

namespace Sys2Proof.Machine

open Sys2Proof

variable {s t : State} {u v : EndUnit} {n : LineUnit} {e : EndId} {x y : LineId} {b : LineFrame} {k : Sender} {h : HeldFrame}
  {q : EndQueues} {c : TrafficClass} {r : DataRecord} {rest : List DataRecord} {limit count limitP limitB : Nat}

/-! ## Lines for a first send (R87) -/

theorem LineUnit.selectable_iff : n.selectable = true ↔ n.state = .active ∧ n.recentre = .none ∧ n.holdTimer = none := by
  simp [LineUnit.selectable, LineUnit.isActive, LineUnit.inHold, Timer.running, and_assoc]

/-- Line A is selected before line B. -/
theorem EndUnit.selectLine_some (selectable : (u.line x).selectable = true)
    (first : x = .lineA ∨ ¬ u.lineA.selectable = true) : u.selectLine = some x := by
  unfold EndUnit.selectLine
  cases x with
  | lineA => exact if_pos selectable
  | lineB => exact (if_neg (first.resolve_left (by decide))).trans (if_pos selectable)

theorem EndUnit.selectLine_none (a : ¬ u.lineA.selectable = true) (b : ¬ u.lineB.selectable = true) : u.selectLine = none := by
  unfold EndUnit.selectLine
  rw [if_neg a, if_neg b]

theorem EndUnit.firstSend_none (none : u.selectLine = none) :
    u.firstSend b = { u with sender := { u.sender with state := .pending } } := by
  unfold EndUnit.firstSend
  rw [none]

/-- The first send on a selected line, which is not in pattern hold. -/
theorem EndUnit.firstSend_some (selects : u.selectLine = some x) (free : (u.line x).holdTimer = none) :
    u.firstSend b = { u.modLine x (LineUnit.frameFallsDue b { u.sender with currentLine := x }.sending) with
      sender := { u.sender with currentLine := x }.sending } := by
  have hold : (EndUnit.line { u with sender := { u.sender with currentLine := x } } x).inHold = false := by
    cases x <;> simp_all [EndUnit.line, LineUnit.inHold, Timer.running]
  unfold EndUnit.firstSend
  rw [selects]
  dsimp only
  rw [EndUnit.sendHeld_sends hold]
  cases x <;> rfl

/-- The held frame begins at once on a line with nothing in hand. -/
theorem LineUnit.frameFallsDue_idle (active : n.state = .active) (free : n.holdTimer = none) (idle : n.tx = Transmitter.idle) :
    n.frameFallsDue b k =
      { n with tx := { Transmitter.idle with sending := k.frame.map (LineFrame.held k.currentBit) } } := by
  refine (LineUnit.serve_free (n := { n with tx := { n.tx with frameDue := true } })
    ⟨active, free, congrArg Transmitter.sending idle⟩).trans ?_
  rw [idle]
  rfl

/-- The held frame waits behind what a line is sending. -/
theorem LineUnit.frameFallsDue_busy (busy : n.tx.sending.isSome) :
    n.frameFallsDue b k = { n with tx := { n.tx with frameDue := true } } :=
  LineUnit.serve_waits fun free => by
    have none_ : n.tx.sending = none := free.2.2
    rw [none_] at busy
    cases busy

/-! ## The frame that the sender takes (R94) -/

/-- The frame that the arbiter hands over is sent on the selected line, or its sender is PENDING. -/
theorem State.takesFrame (s : State) (e : EndId) (h : HeldFrame) (q : EndQueues) :
    s.TakesFrame e h q ((s.modEnd e (fun u => { u with queues := q })).takeFrame e h) := by
  let k : Sender := { (s.endUnit e).sender with
    frame := some h, currentBit := (s.endUnit e).sender.nextBit, sends := 0, holds := 0, moved := false
    waitsHold := false, timer := .stopped }
  let v : EndUnit := { s.endUnit e with queues := q, sender := k }
  have line : ∀ x, v.line x = s.line e x := fun x => by cases x <;> rfl
  have takes : (s.modEnd e (fun u => { u with queues := q })).takeFrame e h = s.setEnd e (v.firstSend (s.beaconFrame e)) := by
    rw [State.takeFrame_eq, State.modEnd_modEnd, State.beaconFrame_modEnd]
    rfl
  have ready : ∀ x, (v.line x).selectable = true ↔
      (s.line e x).state = .active ∧ (s.line e x).recentre = .none ∧ (s.line e x).holdTimer = none := fun x => by
    rw [line]
    exact LineUnit.selectable_iff
  rw [takes]
  refine ⟨fun x here first => ?_, fun a b => ?_⟩
  · have free : (s.line e x).holdTimer = none := here.2.2
    rw [EndUnit.firstSend_some (EndUnit.selectLine_some ((ready x).2 here) (first.imp_right (mt (ready .lineA).1)))
      (by rw [line]; exact free)]
    have whole : ∀ tx, (s.line e x).frameFallsDue (s.beaconFrame e) { k with currentLine := x }.sending =
        { s.line e x with tx := tx } → s.setEnd e { v.modLine x (LineUnit.frameFallsDue (s.beaconFrame e)
          { k with currentLine := x }.sending) with sender := { k with currentLine := x }.sending } =
        s.modEnd e (fun u => { u.modLine x (fun m => { m with tx := tx }) with
          queues := q, sender := { k with currentLine := x }.sending }) := fun tx falls => by
      refine congrArg (s.setEnd e) ?_
      unfold EndUnit.modLine
      rw [line, falls]
      cases x <;> rfl
    exact ⟨fun idle => whole _ (LineUnit.frameFallsDue_idle here.1 free idle), fun busy => whole _ (LineUnit.frameFallsDue_busy busy)⟩
  · rw [EndUnit.firstSend_none (EndUnit.selectLine_none (mt (ready .lineA).1 a) (mt (ready .lineB).1 b))]
    rfl

/-! ## What the arbiter offers (R131, R132) -/

theorem relieved_iff : relieved limit count rest = true ↔ rest ≠ [] ∧ limit ≤ count := by
  cases rest <;> simp [relieved]

theorem reliefCount_eq : reliefCount limit count rest = if rest = [] then 0 else min limit (count + 1) := by
  cases rest <;> simp [reliefCount]

theorem EndQueues.offer_controlHead {f : ControlFrame} {fs : List ControlFrame} {admitted : Bool} (queue : q.control = f :: fs) :
    q.offer admitted limitP limitB = some (.control f, { q with control := fs }) := by
  unfold EndQueues.offer
  rw [queue]

theorem EndQueues.offer_unadmitted (empty : q.control = []) : q.offer false limitP limitB = none := by
  unfold EndQueues.offer
  rw [empty]
  rfl

theorem EndQueues.offer_class (empty : q.control = []) (chosen : q.choose limitP limitB = some c)
    (head : q.classQueue c = r :: rest) :
    q.offer true limitP limitB = some (.data r, (q.setClassQueue c rest).countRelief limitP limitB c) := by
  unfold EndQueues.offer EndQueues.takeHead
  rw [empty]
  dsimp only
  rw [chosen, if_neg (by decide)]
  dsimp only
  rw [head]

theorem EndQueues.offer_none (empty : q.control = []) (none : q.choose limitP limitB = none) :
    q.offer true limitP limitB = Option.none := by
  unfold EndQueues.offer
  rw [empty]
  dsimp only
  rw [none, if_neg (by decide)]

/-- The class whose head goes first: a relieved PROCESS or BULK head, then COMMAND, PROCESS and BULK (R131). -/
theorem EndQueues.choose_eq (q : EndQueues) (limitP limitB : Nat) : q.choose limitP limitB =
    if q.process ≠ [] ∧ limitP ≤ q.reliefProcess then some .process
    else if q.bulk ≠ [] ∧ limitB ≤ q.reliefBulk then some .bulk
    else if q.command ≠ [] then some .command
    else if q.process ≠ [] then some .process
    else if q.bulk ≠ [] then some .bulk
    else none := by
  have empty : ∀ {α : Type} (l : List α), (!l.isEmpty) = true ↔ l ≠ [] := fun l => by cases l <;> simp
  unfold EndQueues.choose
  simp only [relieved_iff, empty]

/-- An end that may offer hands its sender what its arbiter finds. -/
theorem State.offerFrame_offers (idle : (s.endUnit e).sender.state = .idle) (known : (s.endUnit e).state.identified = true)
    (active : (s.endUnit e).anyActive = true)
    (found : (s.endUnit e).queues.offer ((s.endUnit e).state == .admitted) s.store.working.reliefProcess
      s.store.working.reliefBulk = some (h, q)) :
    s.offerFrame e = (s.modEnd e (fun u => { u with queues := q })).takeFrame e h := by
  unfold State.offerFrame
  dsimp only
  rw [if_pos ⟨idle, active, known⟩, found]

theorem State.offerFrame_nothing
    (found : (s.endUnit e).queues.offer ((s.endUnit e).state == .admitted) s.store.working.reliefProcess
      s.store.working.reliefBulk = none) : s.offerFrame e = s := by
  unfold State.offerFrame
  dsimp only
  rw [found]
  split <;> rfl

theorem State.offerFrame_stays (stays : (s.endUnit e).sender.state ≠ .idle ∨ (s.endUnit e).anyActive = false ∨
    (s.endUnit e).state.identified = false) : s.offerFrame e = s := by
  unfold State.offerFrame
  dsimp only
  rw [if_neg]
  rintro ⟨idle, active, known⟩
  rcases stays with c | c | c
  · exact c idle
  · rw [active] at c
    cases c
  · rw [known] at c
    cases c

end Sys2Proof.Machine

open Sys2Proof Sys2Proof.Machine in
/-- Settles O46, by the head that the arbiter finds first. -/
theorem arbiterTakesTheFirstHead : Obligations.ArbiterTakesTheFirstHead := by
  intro s e u q limitP limitB takes count
  have runs : exec (.arbiterOffer e) s = .next (s.offerFrame e) := rfl
  refine ⟨fun stays => ?_, fun idle known active => ?_⟩
  · exact congrArg Host.Outcome.next (State.offerFrame_stays (stays.imp_right (.imp_left EndUnit.anyActive_false.2)))
  · have taken : ∀ {h q'}, q.offer (u.state == .admitted) limitP limitB = some (h, q') → takes h q' := fun {h q'} found => by
      refine ⟨_, runs, ?_⟩
      rw [State.offerFrame_offers idle known (EndUnit.anyActive_iff.2 active) found]
      exact s.takesFrame e h q'
    have nothing : q.offer (u.state == .admitted) limitP limitB = none → exec (.arbiterOffer e) s = .next s := fun found => by
      rw [runs, State.offerFrame_nothing found]
    refine ⟨fun f rest queue => taken (EndQueues.offer_controlHead queue), fun empty state => ?_, fun empty state => ?_⟩
    · exact nothing (by rw [state]; exact EndQueues.offer_unadmitted empty)
    · have admitted : (u.state == .admitted) = true := by rw [state]; rfl
      rw [admitted] at taken nothing
      have chosen := q.choose_eq limitP limitB
      have head : ∀ {c r rest}, q.choose limitP limitB = some c → q.classQueue c = r :: rest →
          takes (.data r) ((q.setClassQueue c rest).countRelief limitP limitB c) := fun first queue =>
        taken (EndQueues.offer_class empty first queue)
      have counts : ∀ limit n rest, count limit n rest = reliefCount limit n rest := fun _ _ _ => reliefCount_eq.symm
      simp only [counts]
      split
      · rename_i relieves
        rw [if_pos relieves] at chosen
        exact fun r rest queue => head (c := .process) chosen queue
      rename_i notProcess
      rw [if_neg notProcess] at chosen
      split
      · rename_i relieves
        rw [if_pos relieves] at chosen
        exact fun r rest queue => head (c := .bulk) chosen queue
      rename_i notBulk
      rw [if_neg notBulk] at chosen
      split
      · rename_i some_
        rw [if_pos some_] at chosen
        exact fun r rest queue => head (c := .command) chosen queue
      rename_i noCommand
      rw [if_neg noCommand] at chosen
      split
      · rename_i some_
        rw [if_pos some_] at chosen
        exact fun r rest queue => head (c := .process) chosen queue
      rename_i noProcess
      rw [if_neg noProcess] at chosen
      refine ⟨fun r rest queue => head (c := .bulk) ?_ queue, fun none_ => nothing (EndQueues.offer_none empty ?_)⟩
      · rw [chosen, if_pos (by rw [queue]; simp)]
      · rw [chosen, if_neg (not_not_intro none_)]
end

section
/-! PROOF. What a line's transmit side sends, and in which order (R66, R79, R92, R104). -/

namespace Sys2Proof.Machine

open Sys2Proof

variable {s : State} {u : EndUnit} {n : LineUnit} {e : EndId} {x y : LineId} {b f : LineFrame} {k : Sender} {t : Transmitter}

/-! ## The order in which a free line sends (R92, R104) -/

theorem Transmitter.begin_reply {r : WaitingReply} {rest : List WaitingReply} (replies : t.replies = r :: rest) :
    t.begin_ b k = { t with sending := some (.reply r.bit r.answer), holdAfter := r.holdAfter, replies := rest } := by
  unfold Transmitter.begin_
  rw [replies]

theorem Transmitter.begin_beacon (replies : t.replies = []) (beacon : t.beaconDue = true) :
    t.begin_ b k = { t with sending := some b, beaconDue := false } := by
  unfold Transmitter.begin_
  rw [replies]
  exact if_pos beacon

theorem Transmitter.begin_frame (replies : t.replies = []) (beacon : t.beaconDue = false) (frame : t.frameDue = true) :
    t.begin_ b k = { t with sending := k.frame.map (LineFrame.held k.currentBit), frameDue := false } := by
  unfold Transmitter.begin_
  rw [replies]
  exact (if_neg (by rw [beacon]; decide)).trans (if_pos frame)

theorem Transmitter.begin_nothing (replies : t.replies = []) (beacon : t.beaconDue = false) (frame : t.frameDue = false) :
    t.begin_ b k = t := by
  unfold Transmitter.begin_
  rw [replies]
  exact (if_neg (by rw [beacon]; decide)).trans (if_neg (by rw [frame]; decide))

/-! ## What leaves a line (R66) -/

theorem LineUnit.output_pattern {bypass : BypassState} (off : bypass = .off)
    (h : n.state ≠ .active ∨ n.holdTimer.isSome ∨ n.tx.sending = none) : n.output bypass = .pattern := by
  subst off
  unfold LineUnit.output
  rw [if_neg (by decide)]
  split
  · rename_i may
    rcases h with c | c | c
    · simp [LineUnit.isActive, c] at may
    · simp [LineUnit.inHold, Timer.running, c] at may
    · rw [c]
  · rfl

theorem LineUnit.output_frame {bypass : BypassState} (off : bypass = .off) (active : n.state = .active)
    (free : n.holdTimer = none) (sends : n.tx.sending = some f) : n.output bypass = .frame f := by
  subst off
  unfold LineUnit.output
  rw [if_neg (by decide), if_pos (by simp [LineUnit.isActive, LineUnit.inHold, Timer.running, active, free]), sends]

theorem LineUnit.output_silent {bypass : BypassState} (away : bypass ≠ .off) : n.output bypass = .silent :=
  if_pos (by simpa using away)

/-! ## Beacons (R92) -/

theorem State.exec_beaconDue (active : (s.line e x).state = .active) (timer : (s.line e x).beaconTimer.isSome) :
    exec (.beaconDue e x) s = .next (s.modLine e x (LineUnit.queueBeacon (s.beaconFrame e) (s.endUnit e).sender)) := by
  rw [← State.queueBeacon_eq]
  exact congrArg Host.Outcome.next (if_pos (by simp [LineUnit.isActive, Timer.running, active, timer]))

/-- A due BEACON leaves a free line at once. -/
theorem LineUnit.queueBeacon_free (active : n.state = .active) (free : n.FreeToSend) :
    n.queueBeacon b k = { n with tx := { Transmitter.idle with sending := some b } } := by
  obtain ⟨hold, idle⟩ := free
  refine (LineUnit.serve_free (n := { n with tx := { n.tx with beaconDue := true } })
    ⟨active, hold, congrArg Transmitter.sending idle⟩).trans ?_
  rw [idle]
  rfl

/-- A due BEACON waits for the hold or the frame of its line. -/
theorem LineUnit.queueBeacon_waits (busy : n.holdTimer.isSome ∨ n.tx.sending.isSome) :
    n.queueBeacon b k = { n with tx := { n.tx with beaconDue := true } } :=
  LineUnit.serve_waits fun ⟨_, hold, sending⟩ => by
    have hold : n.holdTimer = none := hold
    have sending : n.tx.sending = none := sending
    simp [hold, sending] at busy

/-! ## The end of a transmission (R79, R92, R104) -/

/-- A transmission that no hold follows ends on an ACTIVE line: what waits for the line begins. -/
theorem State.exec_transmissionEnd (active : (s.line e x).state = .active) (free : (s.line e x).holdTimer = none)
    (sending : (s.line e x).tx.sending.isSome) (after : (s.line e x).tx.holdAfter = none) :
    exec (.transmissionEnd e x) s = .next (s.modLine e x (fun n =>
      { n with tx := (s.line e x).tx.cut.begin_ (s.beaconFrame e) (s.endUnit e).sender })) := by
  refine congrArg Host.Outcome.next (((State.endTransmission_sent sending).2 after).trans ?_)
  rw [State.serve_eq, State.modLine_modLine, State.beaconFrame_modLine, State.endUnit_modLine_self, EndUnit.sender_modLine]
  exact State.modLine_congr (LineUnit.serve_free ⟨active, free, rfl⟩)

end Sys2Proof.Machine

open Sys2Proof Sys2Proof.Machine in
/-- Settles O34, by what a free line begins. -/
theorem transmissionsLeaveInOrder : Obligations.TransmissionsLeaveInOrder := by
  intro s e x beacon sends tx
  refine ⟨LineUnit.output_silent, fun off => ⟨fun h => LineUnit.output_pattern off (h.imp_right .inl), fun active free =>
    ⟨fun none => LineUnit.output_pattern off (.inr (.inr none)), fun f => LineUnit.output_frame off active free⟩⟩,
    fun active timer => ?_, fun active free sending after => ?_⟩
  · rw [State.exec_beaconDue active timer]
    refine ⟨fun free => ?_, fun busy => ?_⟩
    · exact congrArg Host.Outcome.next (State.modLine_congr (LineUnit.queueBeacon_free active free))
    · exact congrArg Host.Outcome.next (State.modLine_congr (LineUnit.queueBeacon_waits busy))
  · rw [State.exec_transmissionEnd active free sending after]
    have cut : tx.cut = { tx with sending := none } := by
      unfold Transmitter.cut
      rw [← after]
    have begins : ∀ {t}, Transmitter.begin_ (s.beaconFrame e) (s.endUnit e).sender { tx with sending := none } = t →
        Host.Outcome.next (s.modLine e x (fun n => { n with tx := tx.cut.begin_ (s.beaconFrame e) (s.endUnit e).sender })) =
          (.next (sends t) : Host.Outcome State Fault Refusal) := fun same => by rw [cut, same]
    refine ⟨fun r rest replies => ?_, fun replies due => ?_, fun f replies due frame held => ?_, fun replies due frame => ?_⟩
    · exact begins (Transmitter.begin_reply replies)
    · exact begins (Transmitter.begin_beacon replies due)
    · refine begins ((Transmitter.begin_frame (t := { tx with sending := none }) replies due frame).trans ?_)
      rw [held]
      rfl
    · exact begins (Transmitter.begin_nothing replies due frame)
end

section
/-! PROOF. Changes of coupler sense and carrier: what each makes of its lines, and of an end that it uncouples (R65, R67, R68,
R70, R71, R82, R83). -/

namespace Sys2Proof.Machine

open Sys2Proof

variable {s : State} {u v : EndUnit} {n m : LineUnit} {e : EndId} {x y : LineId} {b : LineFrame} {o : FrameOutcome}
  {settle : Nat} {sense present : Bool}

/-! ## The states of the lines behind what follows their change -/

theorem EndUnit.Speaks.states (h : u.Speaks v) (x : LineId) : (v.line x).state = (u.line x).state := (h.line x).same.2.1

theorem EndUnit.endFrame_states (u : EndUnit) (o : FrameOutcome) (x : LineId) :
    ((u.endFrame o).line x).state = (u.line x).state := by
  cases held : u.sender.frame with
  | none => rw [EndUnit.endFrame_none held]
  | some f =>
    rw [EndUnit.endFrame_some held, ← (u.senderIdle_speaks o).states x]
    have beside : ∀ (w : EndUnit) c, (EndUnit.line { w with counters := c } x) = w.line x := fun w c => by cases x <;> rfl
    rw [beside]
    rcases (u.senderIdle o).reportRecentre_cases o f with c | ⟨y, c | c⟩ <;> rw [c]
    · exact ((u.senderIdle o).startRecentreSweep_line y x).1
    · exact (((EndUnit.Eases.refl _).abandonRecentre (x := y)).lines x).1

theorem EndUnit.sendHeld_states (u : EndUnit) (x : LineId) : ((u.sendHeld b).line x).state = (u.line x).state := by
  have beside : ∀ (w : EndUnit) k, (EndUnit.line { w with sender := k } x) = w.line x := fun w c => by cases x <;> rfl
  cases hold : (u.line u.sender.currentLine).inHold with
  | true => rw [EndUnit.sendHeld_waits hold, beside]
  | false =>
    rw [EndUnit.sendHeld_sends hold, beside]
    rcases LineId.eq_or_partner u.sender.currentLine x with rfl | rfl
    · rw [EndUnit.line_modLine_self, LineUnit.frameFallsDue, LineUnit.serve_rest]
    · rw [EndUnit.line_modLine_partner]

theorem EndUnit.moveFrame_states (u : EndUnit) (x : LineId) : ((u.moveFrame b).line x).state = (u.line x).state := by
  unfold EndUnit.moveFrame
  rw [EndUnit.sendHeld_states]
  exact (u.withdraw_speaks.trans (.beside ..)).states x

theorem EndUnit.senderAfterLines_states (u : EndUnit) (x : LineId) :
    ((u.senderAfterLines b).line x).state = (u.line x).state := by
  unfold EndUnit.senderAfterLines
  split
  · exact u.endFrame_states _ x
  split
  · split
    · exact u.endFrame_states _ x
    · exact u.moveFrame_states x
  · rfl

/-- What follows changed lines leaves their states. -/
theorem State.afterLines_states (s : State) (e : EndId) (x : LineId) :
    ((s.afterLines e).line e x).state = (s.line e x).state := by
  rw [State.afterLines_eq, State.decideEnd_line]
  unfold State.line
  rw [State.endUnit_senderAfterLines, State.endUnit_modEnd_self, EndUnit.senderAfterLines_states]
  exact ((s.endUnit e).eases_afterLines.lines x).1

/-! ## A line whose input has changed (R67, R68, R70) -/

/-- What a change of an input makes of a line, the sense as it then is and the changed level given. -/
def LineUnit.inputChanged (settle : Nat) (sense present : Bool) (n : LineUnit) : LineUnit :=
  match n.state with
  | .dark => n.wake settle sense
  | .settling => { n with settleTimer := some settle }
  | .training | .active | .silent | .failed => if present then n else n.darkened

theorem LineUnit.inputChanged_wakes (dark : n.state = .dark) : n.inputChanged settle sense present = n.wake settle sense := by
  unfold LineUnit.inputChanged
  rw [dark]

theorem LineUnit.inputChanged_settling (settling : n.state = .settling) :
    n.inputChanged settle sense present = { n with state := .settling, settleTimer := some settle } := by
  unfold LineUnit.inputChanged
  simp only [settling]

theorem LineUnit.inputChanged_other (dark : n.state ≠ .dark) (settling : n.state ≠ .settling) :
    n.inputChanged settle sense present = if present then n else n.darkened := by
  unfold LineUnit.inputChanged
  cases c : n.state
  exacts [absurd c dark, absurd c settling, rfl, rfl, rfl, rfl]

theorem EndUnit.inputChanged_line (u : EndUnit) (x : LineId) : (u.inputChanged settle present x).line x =
    (u.line x).inputChanged settle u.sense present := by
  unfold EndUnit.inputChanged
  split
  case h_1 dark => rw [EndUnit.line_modLine_self, LineUnit.inputChanged_wakes dark]
  case h_2 settling => rw [EndUnit.line_modLine_self, LineUnit.inputChanged_settling settling, ← settling]
  all_goals
    rename_i there
    rw [LineUnit.inputChanged_other (by rw [there]; decide) (by rw [there]; decide)]
    split
    · rfl
    · exact EndUnit.enterDark_line ..

theorem EndUnit.inputChanged_partner (u : EndUnit) (x : LineId) :
    (u.inputChanged settle present x).line x.partner = u.line x.partner := by
  unfold EndUnit.inputChanged
  cases (u.line x).state
  case dark => exact EndUnit.line_modLine_partner ..
  case settling => exact EndUnit.line_modLine_partner ..
  all_goals
    cases present
    · exact EndUnit.enterDark_partner ..
    · rfl

theorem EndUnit.inputChanged_sense (u : EndUnit) (x : LineId) : (u.inputChanged settle present x).sense = u.sense :=
  (u.inputChanged_shifts (wmin := 0) x).sense

/-- Both lines of an end whose sense has changed. -/
theorem EndUnit.senseChanged_line (u : EndUnit) (x : LineId) : (u.senseChanged settle present).line x =
    (u.line x).inputChanged settle u.sense present := by
  unfold EndUnit.senseChanged
  cases x with
  | lineA => exact (EndUnit.inputChanged_partner _ .lineB).trans (u.inputChanged_line .lineA)
  | lineB =>
    have other : (u.inputChanged settle present .lineA).line .lineB = u.line .lineB := u.inputChanged_partner .lineA
    rw [EndUnit.inputChanged_line, EndUnit.inputChanged_sense, other]

/-- How a line follows a change of its inputs, the level that has changed and whether it wakes a DARK line given. -/
def LineUnit.Follows (settle : Nat) (present wakes : Bool) (n m : LineUnit) : Prop :=
  (n.state = .settling → m = { n with state := .settling, settleTimer := some settle }) ∧
  (n.state = .dark → m = if wakes then { n with state := .settling, settleTimer := some settle } else n) ∧
  (n.state = .training ∨ n.state = .active ∨ n.state = .failed →
    (present = false → m = n.darkened) ∧ (present = true → m.state = n.state))

theorem LineUnit.inputChanged_dark (dark : n.state = .dark) (retrain : n.byRetrain = false) :
    n.inputChanged settle sense present =
      if sense && n.carrier then { n with state := .settling, settleTimer := some settle } else n := by
  rw [LineUnit.inputChanged_wakes dark]
  unfold LineUnit.wake LineUnit.enterSettling
  cases sense <;> cases n.carrier <;> simp [dark, ← retrain]

/-- A line that follows: what it becomes is left by what follows it at the end, but for one that stays ACTIVE. -/
theorem LineUnit.Kept.follows (kept : n.Kept) (state : m.state = (n.inputChanged settle sense present).state)
    (quiet : (n.inputChanged settle sense present).Quiet → m = n.inputChanged settle sense present) :
    n.Follows settle present (sense && n.carrier) m := by
  have byRetrain : n.state ≠ .settling → n.byRetrain = false := fun other => by
    obtain ⟨-, -, retrain, -⟩ := kept
    exact Bool.eq_false_iff.2 (other ∘ retrain)
  have other : n.state = .training ∨ n.state = .active ∨ n.state = .failed →
      n.inputChanged settle sense present = if present then n else n.darkened := fun there =>
    LineUnit.inputChanged_other (by rcases there with c | c | c <;> rw [c] <;> decide)
      (by rcases there with c | c | c <;> rw [c] <;> decide)
  refine ⟨fun settling => ?_, fun dark => ?_, fun there => ⟨fun gone => ?_, fun here => ?_⟩⟩
  · have becomes := n.inputChanged_settling (settle := settle) (sense := sense) (present := present) settling
    obtain ⟨-, recentre, tx⟩ := kept.quiet (by rw [settling]; decide)
    rw [becomes] at quiet
    exact quiet ⟨by simp, recentre, tx⟩
  · have becomes := n.inputChanged_dark (settle := settle) (sense := sense) (present := present) dark
      (byRetrain (by rw [dark]; decide))
    obtain ⟨away, recentre, tx⟩ := kept.quiet (by rw [dark]; decide)
    rw [becomes] at quiet
    refine quiet ?_
    split
    · exact ⟨by simp, recentre, tx⟩
    · exact ⟨away, recentre, tx⟩
  · have becomes := other there
    rw [gone] at becomes quiet
    rw [becomes] at quiet
    exact quiet n.darkened_quiet
  · have becomes := other there
    rw [here] at becomes
    rw [state, here, becomes]
    rfl

/-- Without sense a line that is not SETTLING is DARK. -/
theorem LineUnit.Kept.lost (kept : n.Kept) (unsettled : n.state ≠ .settling) :
    (n.inputChanged settle false false).state = .dark := by
  by_cases dark : n.state = .dark
  · obtain ⟨-, -, retrain, -⟩ := kept
    rw [LineUnit.inputChanged_dark dark (Bool.eq_false_iff.2 (unsettled ∘ retrain))]
    exact dark
  · rw [LineUnit.inputChanged_other dark unsettled]
    rfl

/-- A line of an end that its change has made follow. -/
theorem State.afterLines_follows {g : EndUnit → EndUnit} (kept : n.Kept)
    (line : (g (s.endUnit e)).line x = n.inputChanged settle sense present) :
    n.Follows settle present (sense && n.carrier) (((s.modEnd e g).afterLines e).line e x) := by
  refine kept.follows ?_ fun quiet => ?_
  · rw [State.afterLines_states, ← line]
    unfold State.line
    rw [State.endUnit_modEnd_self]
  · rw [← line] at quiet ⊢
    exact State.afterLines_line quiet

/-! ## An end that loses its last line -/

/-- An end whose lines are DARK without sense opens, and gives up its peer and its frame (R82, R83, R101). -/
theorem State.afterLines_opens (dark : ∀ x, (s.line e x).state = .dark) (sense : (s.endUnit e).sense = false) :
    ((s.afterLines e).endUnit e).state = .opened ∧ ((s.afterLines e).endUnit e).peer = none ∧
    ((s.afterLines e).endUnit e).receiver = none ∧ ((s.afterLines e).endUnit e).sender.frame = none := by
  let q := s.modEnd e EndUnit.afterLines
  have unit : q.endUnit e = (s.endUnit e).afterLines := State.endUnit_modEnd_self ..
  have eases := (s.endUnit e).eases_afterLines
  have down : (q.endUnit e).anyActive = false := by
    rw [unit, eases.anyActive]
    exact EndUnit.anyActive_false.2 fun x c => absurd ((dark x).symm.trans c) (by decide)
  obtain ⟨peer, receiver⟩ := EndUnit.afterLines_forgets (unit ▸ down)
  have gives := q.endFrame_givesUp e
  have after : s.afterLines e = (q.endFrame .linkDown e).decideEnd e false :=
    congrArg (fun r => State.decideEnd r e false) (State.senderAfterLines_down down)
  obtain ⟨⟨-, -, keptPeer, -, keptSender, keptReceiver⟩, state⟩ := (q.endFrame .linkDown e).decideEnd_unit e false
  have lines : ∀ x, ((q.endFrame .linkDown e).line e x).state = .dark := fun x => by
    unfold State.line
    rw [gives.lines, unit, (eases.lines x).1]
    exact dark x
  rw [after, state, keptPeer, keptSender, keptReceiver]
  refine ⟨?_, gives.peer (by rw [unit]; exact peer), gives.receiver (by rw [unit]; exact receiver), gives.frame⟩
  rw [State.endStateOf_inactive (EndUnit.anyActive_false.2 fun x c => absurd ((lines x).symm.trans c) (by decide)), if_neg]
  rintro ⟨-, c | c | c⟩
  · rw [gives.sense, unit, eases.sense, sense] at c
    cases c
  · exact c (lines .lineA)
  · exact c (lines .lineB)

/-! ## Changes of the inputs (R65) -/

/-- A level that is no change, or a change while the bypass is not OFF, moves the input alone. -/
theorem State.senseChange_moves {coupled : Bool} (h : s.bypass.state ≠ .off ∨ (s.endUnit e).sense = coupled) :
    s.senseChange e coupled = s.modEnd e (fun u => { u with sense := coupled }) := by
  unfold State.senseChange
  by_cases same : (s.endUnit e).sense = coupled
  · rw [if_pos same, State.modEnd_same (by rw [← same])]
  · have away := h.resolve_right same
    rw [if_neg same]
    exact if_pos (by rwa [State.bypass_modEnd])

theorem State.carrierChange_moves (h : s.bypass.state ≠ .off ∨ (s.line e x).carrier = present) :
    s.carrierChange e x present = s.modLine e x (fun n => { n with carrier := present }) := by
  unfold State.carrierChange
  by_cases same : (s.line e x).carrier = present
  · rw [if_pos same, State.modLine_same (by rw [← same])]
  · have away := h.resolve_right same
    rw [if_neg same]
    exact if_pos (by rwa [State.bypass_modLine])

/-- A change of sense in OFF. -/
theorem State.senseChange_off {coupled : Bool} (off : s.bypass.state = .off) (change : (s.endUnit e).sense ≠ coupled) :
    s.senseChange e coupled = (s.modEnd e (fun u =>
      EndUnit.senseChanged s.settleTime coupled { u with sense := coupled })).afterLines e := by
  unfold State.senseChange
  rw [if_neg change]
  refine (if_neg (by rwa [State.bypass_modEnd, not_not])).trans ?_
  rw [State.modEnd_modEnd]
  cases e <;> rfl

/-- A change of carrier in OFF. -/
theorem State.carrierChange_off (off : s.bypass.state = .off) (change : (s.line e x).carrier ≠ present) :
    s.carrierChange e x present = (s.modEnd e (fun u => EndUnit.inputChanged s.settleTime present x
      (u.modLine x (fun n => { n with carrier := present })))).afterLines e := by
  unfold State.carrierChange
  rw [if_neg change]
  refine (if_neg (by rwa [State.bypass_modLine, not_not])).trans ?_
  cases e <;> rfl

/-- The trainer leaves a line that loses its carrier. -/
theorem EndUnit.enterDark_job (u : EndUnit) (x : LineId) :
    (u.enterDark x).trainer.job ≠ .fullSweep x ∧ (u.enterDark x).trainer.job ≠ .recentreSweep x := by
  unfold EndUnit.enterDark EndUnit.lineTo EndUnit.freeTrainer
  rw [EndUnit.trainer_modLine]
  split
  · exact ⟨by simp, by simp⟩
  · rename_i away
    exact not_or.1 away

end Sys2Proof.Machine

open Sys2Proof Sys2Proof.Machine in
/-- Settles O26, by what each level makes of each line. -/
theorem inputChangesMoveTheLines : Obligations.InputChangesMoveTheLines := by
  intro s e
  refine ⟨fun b h => congrArg Host.Outcome.next (State.senseChange_moves h),
    fun x b h => congrArg Host.Outcome.next (State.carrierChange_moves h), fun kept off => ⟨?_, ?_⟩⟩
  · intro b change
    have after := State.senseChange_off off change
    have lines : ∀ x, (EndUnit.senseChanged s.settleTime b { s.endUnit e with sense := b }).line x =
        (s.line e x).inputChanged s.settleTime b b := fun x => by
      rw [EndUnit.senseChanged_line]
      cases x <;> rfl
    have turned : ∀ x, (s.line e x).Follows s.settleTime b (b && (s.line e x).carrier) ((s.senseChange e b).line e x) :=
      fun x => by
        rw [after]
        exact State.afterLines_follows (g := fun u => EndUnit.senseChanged s.settleTime b { u with sense := b })
          (kept.line e x) (lines x)
    refine ⟨_, rfl, ?_, turned, fun gone unsettled => ?_⟩
    · have sense := ((State.Runs.senseChange s e b).ends e).sense
      rwa [State.endUnit_modEnd_self] at sense
    · subst gone
      rw [after]
      refine State.afterLines_opens (fun x => ?_) ?_
      · rw [State.line_modEnd_self, lines]
        exact (kept.line e x).lost (unsettled x)
      · rw [State.endUnit_modEnd_self]
        exact (EndUnit.senseChanged_shifts (wmin := 0) _).sense
  · intro x b change
    have after := State.carrierChange_off off change
    let carried : EndUnit := (s.endUnit e).modLine x (fun n => { n with carrier := b })
    have line : (carried.inputChanged s.settleTime b x).line x =
        LineUnit.inputChanged s.settleTime (s.endUnit e).sense b { s.line e x with carrier := b } := by
      rw [EndUnit.inputChanged_line, EndUnit.line_modLine_self, EndUnit.sense_modLine]
      rfl
    refine ⟨_, rfl, ?_, ?_, fun gone there => ?_⟩
    · rw [after, Bool.and_comm]
      exact State.afterLines_follows (n := { s.line e x with carrier := b }) (kept.line e x) line
    · rw [after, State.afterLines_states]
      rw [State.line_modEnd_self, EndUnit.inputChanged_partner, EndUnit.line_modLine_partner]
      rfl
    · subst gone
      have dark : carried.inputChanged s.settleTime false x = carried.enterDark x := by
        have state : (carried.line x).state = (s.line e x).state := by
          unfold carried
          rw [EndUnit.line_modLine_self]
          rfl
        unfold EndUnit.inputChanged
        rw [state]
        rcases there with c | c | c <;> rw [c] <;> rfl
      obtain ⟨full, sweeping⟩ := carried.enterDark_job x
      have job := State.afterLines_job (s.modEnd e (fun u => EndUnit.inputChanged s.settleTime false x
        (u.modLine x (fun n => { n with carrier := false })))) e
      rw [State.endUnit_modEnd_self, ← after] at job
      refine job.elim (fun same => ?_) (fun free => ?_)
      · rw [same]
        exact dark ▸ ⟨full, sweeping⟩
      · rw [free]
        exact ⟨by simp, by simp⟩
end

section
/-! PROOF. Pattern holds: the ACCEPT they follow, the transmission whose end begins them, and what their own end sends (R79, R89,
R97, R103, R104). -/

namespace Sys2Proof.Machine

open Sys2Proof

variable {s : State} {u : EndUnit} {n : LineUnit} {e : EndId} {x y : LineId} {b : LineFrame} {k : Sender} {f : RawFrame}
  {r : WaitingReply} {bit : Bool}

/-! ## The ACCEPT of a PATTERN-REQUEST (R79, R103, R104) -/

theorem State.exec_patternRequest (hears : s.Hears e x kindPatternRequest f) (new : (s.endUnit e).FindsNew f)
    (names : decodePatternRequest f.body = some y) : exec (.patternRequest e x f) s =
    .next ((s.restartSilence e x).earn e x { bit := frameBit f, answer := .accept, holdAfter := some y }) := by
  have same : ((s.restartSilence e x).endUnit e).receiver = (s.endUnit e).receiver := by
    unfold State.restartSilence
    rw [State.endUnit_modLine_self, EndUnit.receiver_modLine]
  have new' : ((s.restartSilence e x).endUnit e).FindsNew f := fun r taken => new r (same.symm.trans taken)
  exact congrArg Host.Outcome.next ((State.arrive_heard _ hears).trans (State.takeAwaiting_new new' names))

theorem State.silenceTime_eq (s : State) : s.silenceTime = 4000 * s.store.working.beacon := by
  unfold State.silenceTime State.beaconPeriod
  omega

/-- A final answer of a line that can reply, and of one whose end cannot (R104). -/
theorem EndUnit.earn_accept (u : EndUnit) (x : LineId) (hold : Option LineId) :
    u.earn b x { bit := bit, answer := .accept, holdAfter := hold } =
      EndUnit.answer b x { bit := bit, answer := .accept, holdAfter := hold }
        { u with receiver := some { bit := bit, answer := .accept } } := rfl

theorem LineUnit.canReply_iff : n.canReply = true ↔ n.state = .active ∧ n.holdTimer = none := by
  simp [LineUnit.canReply, LineUnit.isActive, LineUnit.inHold, Timer.running]

theorem EndUnit.answer_here (can : (u.line x).state = .active ∧ (u.line x).holdTimer = none) :
    u.answer b x r = u.modLine x (LineUnit.queueReply b u.sender r) := if_pos (LineUnit.canReply_iff.2 can)

theorem EndUnit.answer_not (here : ¬ ((u.line x).state = .active ∧ (u.line x).holdTimer = none))
    (there : ¬ ((u.line x.partner).state = .active ∧ (u.line x.partner).holdTimer = none)) :
    u.answer b x r = u.holdFollows r.holdAfter :=
  (if_neg (mt LineUnit.canReply_iff.1 here)).trans (if_neg (mt LineUnit.canReply_iff.1 there))

/-- A reply leaves a free line at once. -/
theorem LineUnit.queueReply_free (active : n.state = .active) (free : n.FreeToSend) : n.queueReply b k r =
    { n with tx := { Transmitter.idle with sending := some (.reply r.bit r.answer), holdAfter := r.holdAfter } } := by
  obtain ⟨hold, idle⟩ := free
  refine (LineUnit.serve_free (n := { n with tx := { n.tx with replies := n.tx.replies ++ [r] } })
    ⟨active, hold, congrArg Transmitter.sending idle⟩).trans ?_
  rw [idle]
  rfl

/-- The end whose line's silence timer has restarted, before it answers. -/
theorem State.restartSilence_earn (s : State) (e : EndId) (x : LineId) (r : WaitingReply) :
    (s.restartSilence e x).earn e x r = s.modEnd e (fun u => EndUnit.earn (s.beaconFrame e) x r
      (u.modLine x (fun n => { n with silenceTimer := some (4000 * s.store.working.beacon) }))) := by
  unfold State.restartSilence
  rw [State.earn_eq, State.beaconFrame_modLine, State.silenceTime_eq]
  exact State.modEnd_modEnd ..

/-- The ACCEPT of a PATTERN-REQUEST leaves a free line at once, its hold to follow. -/
theorem EndUnit.earn_free (active : (u.line x).state = .active) (free : (u.line x).FreeToSend) (hold : Option LineId) :
    u.earn b x { bit := bit, answer := .accept, holdAfter := hold } =
      { u.modLine x (fun n => { n with tx := { Transmitter.idle with
        sending := some (.reply bit .accept), holdAfter := hold } }) with
        receiver := some { bit := bit, answer := .accept } } := by
  have line : EndUnit.line { u with receiver := some { bit := bit, answer := .accept } } x = u.line x := by cases x <;> rfl
  rw [EndUnit.earn_accept, EndUnit.answer_here (by rw [line]; exact ⟨active, free.1⟩)]
  unfold EndUnit.modLine
  rw [line, LineUnit.queueReply_free active free]
  cases x <;> rfl

/-- An ACCEPT that cannot leave, and the hold that begins instead (R104). -/
theorem EndUnit.earn_unsent (here : ¬ ((u.line x).state = .active ∧ (u.line x).holdTimer = none))
    (there : ¬ ((u.line x.partner).state = .active ∧ (u.line x.partner).holdTimer = none)) :
    u.earn b x { bit := bit, answer := .accept, holdAfter := some y } =
      { u.modLine y LineUnit.startHold with receiver := some { bit := bit, answer := .accept } } := by
  have line : ∀ z, EndUnit.line { u with receiver := some { bit := bit, answer := .accept } } z = u.line z := fun z => by
    cases z <;> rfl
  rw [EndUnit.earn_accept, EndUnit.answer_not (by rwa [line]) (by rwa [line])]
  cases y <;> rfl

/-! ## The end of a transmission that a hold follows (R79, R103) -/

/-- A line with nothing due sends nothing when it is served. -/
theorem LineUnit.serve_nothing (nothing : n.tx.replies = [] ∧ n.tx.beaconDue = false ∧ n.tx.frameDue = false) :
    n.serve b k = n := by
  by_cases free : n.Free
  · obtain ⟨replies, beacon, frame⟩ := nothing
    rw [LineUnit.serve_free free, Transmitter.begin_nothing replies beacon frame]
  · exact LineUnit.serve_waits free

/-- The hold that follows a transmission begins on the line it names. -/
theorem EndUnit.endTransmission_holds (sending : (u.line x).tx.sending.isSome) (after : (u.line x).tx.holdAfter = some y)
    (quiet : y = x ∨ ((u.line x).tx.replies = [] ∧ (u.line x).tx.beaconDue = false ∧ (u.line x).tx.frameDue = false)) :
    u.endTransmission b x = (u.modLine x (fun n => { n with tx := n.tx.cut })).modLine y LineUnit.startHold := by
  rw [EndUnit.endTransmission_sent (by simpa [Option.isSome_iff_ne_none] using sending), after]
  refine EndUnit.modLine_same ?_
  unfold EndUnit.holdFollows
  rcases LineId.eq_or_partner x y with rfl | rfl
  · rw [EndUnit.line_modLine_self]
    exact LineUnit.serve_waits fun free => by cases free.2.1
  · have line : ∀ (v : EndUnit) g, (v.modLine x.partner g).line x = v.line x := fun v g => by cases x <;> rfl
    rw [line, EndUnit.line_modLine_self]
    exact LineUnit.serve_nothing (quiet.resolve_left (LineId.partner_ne x))

/-! ## The end of a hold (R79, R97) -/

/-- The held frame falls due on a free line. -/
theorem LineUnit.frameFallsDue_free (free : n.Free) :
    n.frameFallsDue b k = { n with tx := Transmitter.begin_ b k { n.tx with frameDue := true } } :=
  LineUnit.serve_free (n := { n with tx := { n.tx with frameDue := true } }) free

theorem State.exec_patternHoldEnd (held : (s.line e x).holdTimer.isSome) :
    exec (.patternHoldEnd e x) s = .next (s.modEnd e (EndUnit.holdEnded (s.beaconFrame e) x)) := by
  rw [← State.holdEnded_eq]
  exact congrArg Host.Outcome.next (if_pos held)

/-- The repeat that waited for a hold is sent at its end. -/
theorem EndUnit.holdEnded_resends (waits : u.sender.waitsHold = true) (line : u.sender.currentLine = x) : u.holdEnded b x =
    { u.modLine x (fun n => LineUnit.frameFallsDue b u.sender.sending { n with holdTimer := none }) with
      sender := u.sender.sending } := by
  unfold EndUnit.holdEnded
  dsimp only
  rw [if_pos (by simp [Sender.waitsFor, waits, line]), EndUnit.sendHeld_sends]
  · simp only [EndUnit.sender_modLine, line, EndUnit.modLine_modLine]
  · rw [EndUnit.sender_modLine, line, EndUnit.line_modLine_self]
    rfl

/-- Where no repeat waits, what is held back on the line is sent at the end of its hold. -/
theorem EndUnit.holdEnded_serves (stays : u.sender.waitsHold = false ∨ u.sender.currentLine ≠ x) : u.holdEnded b x =
    u.modLine x (fun n => LineUnit.serve b u.sender { n with holdTimer := none }) := by
  unfold EndUnit.holdEnded
  dsimp only
  rw [if_neg (by rcases stays with c | c <;> simp [Sender.waitsFor, c]), EndUnit.modLine_modLine]

end Sys2Proof.Machine

open Sys2Proof Sys2Proof.Machine in
/-- Settles O33, by what the end and its lines make of the answer, of the end of the transmission, and of the end of the hold. -/
theorem patternHoldStartsAndEnds : Obligations.PatternHoldStartsAndEnds := by
  intro s e x held
  refine ⟨fun f y hears new names => ?_, fun y sending after quiet => ?_, State.lineOutput_held,
    fun active hold sending replies => ?_⟩
  · rw [State.exec_patternRequest hears new names, State.restartSilence_earn]
    let u : EndUnit := (s.endUnit e).modLine x (fun n => { n with silenceTimer := some (4000 * s.store.working.beacon) })
    have here : u.line x = { s.line e x with silenceTimer := some (4000 * s.store.working.beacon) } :=
      EndUnit.line_modLine_self ..
    have there : u.line x.partner = s.line e x.partner := EndUnit.line_modLine_partner ..
    refine ⟨fun free => congrArg Host.Outcome.next ?_, fun hold busy => congrArg Host.Outcome.next ?_⟩
    · have earns := EndUnit.earn_free (u := u) (b := s.beaconFrame e) (bit := frameBit f) (by rw [here]; exact hears.1)
        (by rw [here]; exact free) (some y)
      refine (congrArg (s.setEnd e) earns).trans ?_
      cases e <;> cases x <;> rfl
    · refine congrArg (s.setEnd e) (EndUnit.earn_unsent (u := u) (fun c => ?_) (fun c => ?_))
      · rw [here] at c
        have none_ : (s.line e x).holdTimer = none := c.2
        rw [none_] at hold
        cases hold
      · rw [there] at c
        rcases busy with away | held
        · exact away c.1
        · rw [c.2] at held
          cases held
  · refine congrArg Host.Outcome.next ((State.endTransmission_eq ..).trans ?_)
    exact State.modEnd_congr (EndUnit.endTransmission_holds sending after quiet)
  · rw [State.exec_patternHoldEnd hold]
    intro n beacon ended tx
    have free : LineUnit.Free { s.line e x with holdTimer := none } := ⟨active, rfl, sending⟩
    refine ⟨fun f frame waits line awaiting => ?_, fun stays => ?_⟩
    · intro resent
      have sender : n.sending = { n with timer := .reply, waitsHold := false, sends := n.sends + 1, lastLine := x } := by
        unfold Sender.sending
        rw [← awaiting, ← line]
      have resends : ∀ {tx'}, Transmitter.begin_ beacon n.sending { tx with frameDue := true } = tx' →
          Host.Outcome.next (s.modEnd e (EndUnit.holdEnded (s.beaconFrame e) x)) =
            (.next (resent tx') : Host.Outcome State Fault Refusal) := fun {tx'} begins => by
        refine congrArg Host.Outcome.next ((congrArg (s.setEnd e) (EndUnit.holdEnded_resends waits line)).trans ?_)
        have falls := (LineUnit.frameFallsDue_free (b := beacon) (k := n.sending) free).trans
          (congrArg (fun t => { s.line e x with holdTimer := none, tx := t }) begins)
        refine Eq.trans (congrArg (s.setEnd e) ?_) (State.modEnd_modEnd ..).symm
        exact (congrArg (fun m => { (s.endUnit e).setLine x m with sender := n.sending }) falls).trans
          (congrArg (fun k => { (s.endUnit e).setLine x { s.line e x with holdTimer := none, tx := tx' } with sender := k }) sender)
      refine ⟨fun due => resends ((Transmitter.begin_frame (t := { tx with frameDue := true }) replies due rfl).trans ?_),
        fun due => resends (Transmitter.begin_beacon (t := { tx with frameDue := true }) replies due)⟩
      rw [show n.sending.frame = some f from frame]
      rfl
    · have serves : ∀ {tx'}, tx.begin_ beacon n = tx' → Host.Outcome.next (s.modEnd e (EndUnit.holdEnded (s.beaconFrame e) x)) =
          (.next (ended tx') : Host.Outcome State Fault Refusal) := fun begins => by
        refine congrArg Host.Outcome.next ((congrArg (s.setEnd e) (EndUnit.holdEnded_serves stays)).trans ?_)
        refine State.modLine_congr (g := fun n => LineUnit.serve _ _ { n with holdTimer := none }) ((LineUnit.serve_free free).trans ?_)
        rw [← begins]
        rfl
      refine ⟨fun due => serves (Transmitter.begin_beacon replies due), fun f held due frame => ?_,
        fun due frame => serves (Transmitter.begin_nothing replies due frame)⟩
      refine serves ((Transmitter.begin_frame replies due frame).trans ?_)
      rw [held]
      rfl
end

section
/-! PROOF. Replies at the sender of their end: ACCEPT, REFUSE and HOLD (R72, R78, R95, R96, R98 to R100, R140). -/

namespace Sys2Proof.Machine

open Sys2Proof

variable {s : State} {u v : EndUnit} {n : LineUnit} {e : EndId} {x y : LineId} {l : LaneId} {k : Sender} {f : RawFrame}
  {h : HeldFrame} {o : FrameOutcome} {bit : Bool}

/-! ## An end whose frame has ended (R95) -/

/-- The sender once its frame has ended. -/
def Sender.ended (o : FrameOutcome) (n : Sender) : Sender :=
  { n with state := .idle, frame := none, timer := .stopped, waitsHold := false, nextBit := o.nextBit n.nextBit n.currentBit }

/-- What a recentre given up or begun leaves of an end: its sender, but for the frame it marks, its counters, and the
unanswered runs of its lines. -/
structure EndUnit.KeepsRuns (u v : EndUnit) : Prop where
  sender : u.sender.frame = none → v.sender = u.sender
  counters : v.counters = u.counters
  unanswered : ∀ x, (v.line x).unanswered = (u.line x).unanswered

theorem EndUnit.KeepsRuns.refl (u : EndUnit) : u.KeepsRuns u := ⟨fun _ => rfl, rfl, fun _ => rfl⟩

theorem EndUnit.abandonRecentre_runs (u : EndUnit) (x : LineId) : u.KeepsRuns (u.abandonRecentre x) := by
  have eases := (EndUnit.Eases.refl u).abandonRecentre (x := x)
  refine ⟨fun none => ?_, eases.counters, fun y => ?_⟩
  · rw [eases.sender, eases.frame.2 none, ← none]
  · rcases LineId.eq_or_partner x y with rfl | rfl
    · rw [EndUnit.abandonRecentre_line_self]
    · rw [EndUnit.abandonRecentre_partner]

theorem EndUnit.startRecentreSweep_runs (u : EndUnit) (x : LineId) : u.KeepsRuns (u.startRecentreSweep x) := by
  refine ⟨fun _ => u.startRecentreSweep_sender x, ?_, fun y => ?_⟩
  all_goals
    unfold EndUnit.startRecentreSweep
    split
  · simp
  · rfl
  · cases x <;> cases y <;> rfl
  · rfl

theorem EndUnit.reportRecentre_runs (u : EndUnit) (o : FrameOutcome) (h : HeldFrame) : u.KeepsRuns (u.reportRecentre o h) := by
  rcases u.reportRecentre_cases o h with c | ⟨x, c | c⟩ <;> rw [c]
  exacts [.refl u, u.startRecentreSweep_runs x, u.abandonRecentre_runs x]

theorem EndUnit.withdraw_line (u : EndUnit) (x : LineId) :
    u.withdraw.line x = { u.line x with tx := { (u.line x).tx with frameDue := false } } := by cases x <;> rfl

/-- All that the end of a frame says of its end. -/
theorem EndUnit.endFrame_spec (held : u.sender.frame = some h) (o : FrameOutcome) :
    (u.endFrame o).sender = u.sender.ended o ∧ (u.endFrame o).counters = o.count u.counters ∧
    ∀ x, ((u.endFrame o).line x).unanswered = (u.line x).unanswered := by
  obtain ⟨sender, counters, runs⟩ := (u.senderIdle o).reportRecentre_runs o h
  rw [EndUnit.endFrame_some held]
  refine ⟨(sender rfl).trans rfl, congrArg o.count counters, fun x => ?_⟩
  have idle : ((u.senderIdle o).line x).unanswered = (u.line x).unanswered :=
    (congrArg LineUnit.unanswered (u.withdraw_line x) : _)
  rw [← idle, ← runs x]
  cases x <;> rfl

theorem EndUnit.heldOf_some (held : u.sender.frame = some h) (l : LaneId) : u.heldOf l = h.messagesOf l := by
  unfold EndUnit.heldOf
  rw [held]

/-- What an outcome charges a lane that has so many messages in the frame (R140). -/
def FrameOutcome.charge (o : FrameOutcome) (k : Nat) (p : LanePort) : LanePort :=
  match o.loss with
  | some r => p.charged k (LossCounters.count r)
  | none => p

theorem State.endFrame_charge (held : (s.endUnit e).sender.frame = some h) (o : FrameOutcome) (l : LaneId) :
    (s.endFrame o e).lane l = o.charge (h.messagesOf l) (s.lane l) := by
  rw [← EndUnit.heldOf_some held]
  exact s.endFrame_lanes e o l

/-! ## Replies that match, and others (R96, R98) -/

/-- A matching reply answers the frame in the sender. -/
theorem Sender.matches_iff : k.matches bit = true ↔ (k.state = .awaiting ∨ k.state = .backing) ∧ k.currentBit = bit := by
  unfold Sender.matches
  rw [Bool.and_eq_true, SenderState.sent_iff, beq_iff_eq]

theorem Sender.matches_not (h : k.state = .idle ∨ k.state = .pending ∨ k.currentBit ≠ bit) : ¬ k.matches bit = true := by
  rw [Sender.matches_iff]
  rintro ⟨sent, same⟩
  rcases h with c | c | c
  · rw [c] at sent
    rcases sent with c | c <;> cases c
  · rw [c] at sent
    rcases sent with c | c <;> cases c
  · exact c same

theorem State.restartSilence_unit (s : State) (e : EndId) (x : LineId) : (s.restartSilence e x).endUnit e =
    (s.endUnit e).modLine x (fun n => { n with silenceTimer := some s.silenceTime }) := State.endUnit_modLine_self ..

/-- The node at a matching reply: the silence timer of its line restarted, the unanswered run ended. -/
def State.answered (e : EndId) (x : LineId) (s : State) : State := (s.restartSilence e x).endRun e

/-- What such a node has changed of its end: two timers of its lines. -/
theorem State.answered_spec (s : State) (e : EndId) (x : LineId) :
    ((s.answered e x).endUnit e).sender = (s.endUnit e).sender ∧
    ((s.answered e x).endUnit e).counters = (s.endUnit e).counters ∧
    ((s.answered e x).line e (s.endUnit e).sender.lastLine).unanswered = 0 ∧
    (∀ y, ((s.answered e x).line e y).recentre = (s.line e y).recentre ∧
      ((s.answered e x).line e y).record = (s.line e y).record) ∧ ∀ l, (s.answered e x).lane l = s.lane l := by
  have unit : (s.answered e x).endUnit e = ((s.endUnit e).modLine x (fun n =>
      { n with silenceTimer := some s.silenceTime })).modLine (s.endUnit e).sender.lastLine (fun n => { n with unanswered := 0 }) := by
    unfold State.answered State.endRun
    rw [State.endUnit_modLine_self, State.restartSilence_unit, EndUnit.sender_modLine]
  unfold State.line
  rw [unit]
  refine ⟨by simp, by simp, by rw [EndUnit.line_modLine_self], fun y => ?_, fun l => ?_⟩
  · cases x <;> cases (s.endUnit e).sender.lastLine <;> cases y <;> exact ⟨rfl, rfl⟩
  · unfold State.answered State.endRun State.restartSilence
    simp

/-- A reply in form at its end. -/
theorem State.reply_arrives {β : Type} {kind : Byte} {decode : List Byte → Option β} {c : β} {handle : State → State}
    (hears : s.Hears e x kind f) (body : decode f.body = some c) :
    s.arrive e x kind f (fun s => s.takeUnanswered e x f decode (fun _ s => s.onReply e (frameBit f) handle)) =
      if (s.endUnit e).sender.matches (frameBit f) then handle (s.answered e x) else s.restartSilence e x := by
  have sender : ((s.restartSilence e x).endUnit e).sender = (s.endUnit e).sender := by
    rw [State.restartSilence_unit, EndUnit.sender_modLine]
  rw [State.arrive_heard _ hears]
  unfold State.takeUnanswered
  rw [body]
  dsimp only
  unfold State.onReply
  rw [sender]
  rfl

/-! ## The three replies (R96, R99, R100) -/

/-- A matching reply that ends the frame. -/
theorem State.answered_endFrame (held : (s.endUnit e).sender.frame = some h) (o : FrameOutcome) :
    (((s.answered e x).endFrame o e).endUnit e).sender = (s.endUnit e).sender.ended o ∧
    (((s.answered e x).endFrame o e).endUnit e).counters = o.count (s.endUnit e).counters ∧
    (((s.answered e x).endFrame o e).line e (s.endUnit e).sender.lastLine).unanswered = 0 ∧
    ∀ l, ((s.answered e x).endFrame o e).lane l = o.charge (h.messagesOf l) (s.lane l) := by
  obtain ⟨sender, counters, run, -, lanes⟩ := s.answered_spec e x
  have held' : ((s.answered e x).endUnit e).sender.frame = some h := by rw [sender]; exact held
  obtain ⟨ended, counted, runs⟩ := EndUnit.endFrame_spec held' o
  unfold State.line at *
  rw [State.endUnit_endFrame_self]
  refine ⟨ended.trans (by rw [sender]), counted.trans (by rw [counters]), (runs _).trans run, fun l => ?_⟩
  rw [State.endFrame_charge held', lanes]

theorem EndUnit.startRecentreSweep_starts (requested : (u.line x).recentre = .requested) :
    ((u.startRecentreSweep x).line x).recentre = .sweeping ∧
    ((u.startRecentreSweep x).line x).record.recentres = satInc (u.line x).record.recentres ∧
    (u.startRecentreSweep x).trainer = { job := .recentreSweep x, passMap := List.replicate 64 false } := by
  rw [EndUnit.startRecentreSweep_requested requested]
  cases x <;> exact ⟨rfl, rfl, rfl⟩

theorem EndUnit.endFrame_request (held : u.sender.frame = some (.control (.patternRequest x true))) : u.endFrame .accept =
    { (u.senderIdle .accept).startRecentreSweep x with counters := u.counters.addFrameSent } := by
  obtain ⟨-, counters, -⟩ := (u.senderIdle .accept).startRecentreSweep_runs x
  have counters : ((u.senderIdle .accept).startRecentreSweep x).counters = u.counters := counters
  rw [EndUnit.endFrame_some held, ← counters]
  rfl

/-- The ACCEPT of a PATTERN-REQUEST begins the sweep of its line (R78). -/
theorem State.answered_startsSweep (held : (s.endUnit e).sender.frame = some (.control (.patternRequest y true)))
    (requested : (s.line e y).recentre = .requested) :
    (((s.answered e x).endFrame .accept e).line e y).recentre = .sweeping ∧
    (((s.answered e x).endFrame .accept e).line e y).record.recentres = satInc (s.line e y).record.recentres ∧
    (((s.answered e x).endFrame .accept e).endUnit e).trainer =
      { job := .recentreSweep y, passMap := List.replicate 64 false } := by
  obtain ⟨sender, -, -, same, -⟩ := s.answered_spec e x
  obtain ⟨mark, record⟩ := same y
  have idle : ((((s.answered e x).endUnit e).senderIdle .accept).line y) = _ := ((s.answered e x).endUnit e).withdraw_line y
  obtain ⟨sweeping, recentres, trainer⟩ := EndUnit.startRecentreSweep_starts (x := y)
    (u := ((s.answered e x).endUnit e).senderIdle .accept) (by rw [idle]; exact mark.trans requested)
  unfold State.line at *
  rw [State.endUnit_endFrame_self, EndUnit.endFrame_request (by rw [sender]; exact held)]
  have beside : ∀ (w : EndUnit) c, EndUnit.line { w with counters := c } y = w.line y := fun w c => by cases y <;> rfl
  rw [beside]
  refine ⟨sweeping, recentres.trans ?_, trainer⟩
  rw [idle, ← record]

@[simp] theorem State.line_modSender (s : State) (e d : EndId) (g : Sender → Sender) (x : LineId) :
    (s.modSender e g).line d x = s.line d x := by cases e <;> cases d <;> cases x <;> rfl

@[simp] theorem State.lane_modSender (s : State) (e : EndId) (g : Sender → Sender) (l : LaneId) :
    (s.modSender e g).lane l = s.lane l := State.lane_modEnd ..

/-- A matching HOLD, the sender and the count behind it (R99). -/
theorem State.heldOff_spec (s : State) (e : EndId) : ((s.heldOff e).endUnit e).sender = (s.endUnit e).sender.heldOff ∧
    ((s.heldOff e).endUnit e).counters = (s.endUnit e).counters.addHold ∧
    (∀ x, ((s.heldOff e).line e x).unanswered = (s.line e x).unanswered) ∧ ∀ l, (s.heldOff e).lane l = s.lane l := by
  refine ⟨s.heldOff_sender e, ?_, fun x => ?_, fun l => ?_⟩
  · cases e <;> rfl
  · cases e <;> cases x <;> rfl
  · cases e <;> cases l <;> rfl

end Sys2Proof.Machine

open Sys2Proof Sys2Proof.Machine in
/-- Settles O44: a reply that matches ends the frame or backs it off at its end, and any other has restarted a timer alone. -/
theorem repliesEndOrBackTheFrame : Obligations.RepliesEndOrBackTheFrame := by
  intro s e x f h u n silence idle answers
  have matching : answers → n.matches (frameBit f) = true := fun ⟨sent, bit, _⟩ => Sender.matches_iff.2 ⟨sent, bit⟩
  refine ⟨fun hears body => ?_, fun hears ⟨r, body⟩ => ?_, fun hears body => ?_⟩
  · have accepts : exec (.accept e x f) s = .next (if n.matches (frameBit f) then (s.answered e x).endFrame .accept e
        else silence) := congrArg Host.Outcome.next
      (State.reply_arrives (handle := fun s => s.endFrame .accept e) hears (congrArg decodeNoBody body))
    refine ⟨fun ans _ => ?_, fun y ans request requested => ?_, fun other => ?_⟩
    · obtain ⟨sender, counters, run, lanes⟩ := State.answered_endFrame (x := x) ans.2.2 .accept
      rw [if_pos (matching ans)] at accepts
      exact ⟨_, accepts, sender, counters, run, lanes⟩
    · have held := ans.2.2
      rw [request] at held
      obtain ⟨sender, -⟩ := State.answered_endFrame (x := x) held .accept
      obtain ⟨sweeping, recentres, trainer⟩ := State.answered_startsSweep (x := x) held requested
      rw [if_pos (matching ans)] at accepts
      exact ⟨_, accepts, sender, sweeping, recentres, trainer⟩
    · rwa [if_neg (Sender.matches_not other)] at accepts
  · have refuses : exec (.refuse e x f) s = .next (if n.matches (frameBit f) then (s.answered e x).endFrame .refuse e
        else silence) := congrArg Host.Outcome.next
      (State.reply_arrives (handle := fun s => s.endFrame .refuse e) hears body)
    refine ⟨fun ans => ?_, fun other => ?_⟩
    · obtain ⟨sender, counters, run, lanes⟩ := State.answered_endFrame (x := x) ans.2.2 .refuse
      rw [if_pos (matching ans)] at refuses
      exact ⟨_, refuses, sender, counters, run, lanes⟩
    · rwa [if_neg (Sender.matches_not other)] at refuses
  · have holds : exec (.hold e x f) s = .next (if n.matches (frameBit f) then (s.answered e x).onHold e else silence) :=
      congrArg Host.Outcome.next (State.reply_arrives (handle := fun s => s.onHold e) hears (congrArg decodeNoBody body))
    obtain ⟨sender, counters, run, -, lanes⟩ := s.answered_spec e x
    obtain ⟨offSender, offCounters, offRuns, offLanes⟩ := (s.answered e x).heldOff_spec e
    rw [sender] at offSender
    rw [counters] at offCounters
    refine ⟨fun ans few => ?_, fun ans last => ?_, fun other => ?_⟩
    · rw [if_pos (matching ans), State.onHold_eq, if_neg (by rw [sender]; exact Nat.not_le.2 few)] at holds
      refine ⟨_, holds, ?_, ?_, ?_, fun l => ?_⟩
      · rw [State.sender_modSender, offSender]
        rfl
      · rw [State.endUnit_modSender_self]
        exact offCounters
      · rw [State.line_modSender]
        exact (offRuns _).trans run
      · rw [State.lane_modSender, offLanes, lanes]
    · rw [if_pos (matching ans), State.onHold_eq, if_pos (by rw [sender]; exact Nat.le_of_eq last.symm)] at holds
      have held : (((s.answered e x).heldOff e).endUnit e).sender.frame = some h := by
        rw [offSender]
        exact ans.2.2
      obtain ⟨ended, counted, -⟩ := EndUnit.endFrame_spec held .congested
      rw [← State.endUnit_endFrame_self, offSender] at ended
      rw [← State.endUnit_endFrame_self, offCounters] at counted
      refine ⟨_, holds, by rw [ended]; rfl, by rw [ended]; rfl, by rw [ended]; rfl, counted, fun l => ?_⟩
      rw [State.endFrame_charge held, offLanes, lanes]
      rfl
    · rwa [if_neg (Sender.matches_not other)] at holds
end

section
/-! PROOF. Sends that fall due: the repeat of an unanswered one, the move of its frame and its end, and the sends of frames that
wait (R79, R87, R94, R95, R97 to R99, R140). -/

namespace Sys2Proof.Machine

open Sys2Proof

variable {s t : State} {u v w : EndUnit} {n : LineUnit} {e : EndId} {x y : LineId} {b : LineFrame} {k : Sender} {h : HeldFrame}

/-! ## Changes of the transmitters of an end -/

/-- An end whose lines have changed what they transmit alone, and whose counters stand. -/
structure EndUnit.Transmits (u v : EndUnit) : Prop where
  line : ∀ x, ∃ t, v.line x = { u.line x with tx := t }
  counters : v.counters = u.counters

theorem EndUnit.Transmits.refl (u : EndUnit) : u.Transmits u := ⟨fun _ => ⟨_, rfl⟩, rfl⟩

theorem EndUnit.Transmits.trans (h : u.Transmits v) (i : v.Transmits w) : u.Transmits w := by
  refine ⟨fun x => ?_, i.counters.trans h.counters⟩
  obtain ⟨_, first⟩ := h.line x
  obtain ⟨t, second⟩ := i.line x
  exact ⟨t, by rw [second, first]⟩

theorem EndUnit.Transmits.setSender (u : EndUnit) (k : Sender) : u.Transmits { u with sender := k } :=
  ⟨fun x => ⟨(u.line x).tx, by cases x <;> rfl⟩, rfl⟩

theorem EndUnit.Transmits.modLine {g : LineUnit → LineUnit} (h : ∃ t, g (u.line x) = { u.line x with tx := t }) :
    u.Transmits (u.modLine x g) := by
  refine ⟨fun y => ?_, by simp⟩
  rcases LineId.eq_or_partner x y with rfl | rfl
  · rwa [EndUnit.line_modLine_self]
  · exact ⟨_, EndUnit.line_modLine_partner ..⟩

/-- What such an end has kept of a line. -/
theorem EndUnit.Transmits.same (h : u.Transmits v) (x : LineId) : (v.line x).state = (u.line x).state ∧
    (v.line x).holdTimer = (u.line x).holdTimer ∧ (v.line x).unanswered = (u.line x).unanswered ∧
    (v.line x).carrier = (u.line x).carrier := by
  obtain ⟨t, line⟩ := h.line x
  rw [line]
  exact ⟨rfl, rfl, rfl, rfl⟩

theorem EndUnit.withdraw_transmits (u : EndUnit) : u.Transmits u.withdraw :=
  ⟨fun x => ⟨_, u.withdraw_line x⟩, rfl⟩

/-- A frame that falls due on a line, the sender that sends it given. -/
theorem EndUnit.Transmits.frameFallsDue (u : EndUnit) (x : LineId) (k : Sender) :
    u.Transmits { u.modLine x (LineUnit.frameFallsDue b k) with sender := k } :=
  (EndUnit.Transmits.modLine (g := LineUnit.frameFallsDue b k) ⟨_, LineUnit.serve_rest _⟩).trans (.setSender ..)

theorem EndUnit.sendHeld_transmits (u : EndUnit) : u.Transmits (u.sendHeld b) := by
  cases hold : (u.line u.sender.currentLine).inHold with
  | true =>
    rw [EndUnit.sendHeld_waits hold]
    exact .setSender ..
  | false =>
    rw [EndUnit.sendHeld_sends hold]
    exact .frameFallsDue ..

theorem EndUnit.moveFrame_transmits (u : EndUnit) : u.Transmits (u.moveFrame b) :=
  (u.withdraw_transmits.trans (.setSender ..)).trans (EndUnit.sendHeld_transmits _)

/-- A first send on a selected line has changed what the lines transmit, and the sender. -/
theorem EndUnit.firstSend_spec (selects : u.selectLine = some x) (free : (u.line x).holdTimer = none) :
    (u.firstSend b).sender = { u.sender with currentLine := x }.sending ∧ u.Transmits (u.firstSend b) := by
  rw [EndUnit.firstSend_some selects free]
  exact ⟨rfl, .frameFallsDue ..⟩

/-- A held frame in transmission is cut, and no hold follows it. -/
theorem EndUnit.endTransmission_transmits (kept : (u.line x).Kept) (held : (u.line x).tx.sendsHeld = true) :
    u.Transmits (u.endTransmission b x) ∧ (u.endTransmission b x).sender = u.sender := by
  have after : (u.line x).tx.holdAfter = none := by
    by_contra some
    have reply := kept.transmitter.2.2 (Option.isSome_iff_ne_none.2 some)
    unfold Transmitter.sendsReply at reply
    unfold Transmitter.sendsHeld at held
    split at held
    · rename_i sends
      rw [sends] at reply
      cases reply
    · cases held
  have sending : ¬ (u.line x).tx.sending.isNone = true := fun none => by
    unfold Transmitter.sendsHeld at held
    rw [Option.isNone_iff_eq_none.1 none] at held
    cases held
  rw [EndUnit.endTransmission_sent sending, after]
  exact ⟨.trans (.modLine ⟨_, rfl⟩) (.modLine ⟨_, LineUnit.serve_rest _⟩), by simp [EndUnit.holdFollows]⟩

/-! ## The end of a send without an answer (R97, R99) -/

/-- When a send is over, its line has what it transmits changed alone, and a frame in it is cut (R97). -/
theorem State.sendOver_transmits (kept : s.LinesKept) (e : EndId) :
    ∃ v, s.sendOver e = s.setEnd e v ∧ (s.endUnit e).Transmits v ∧ v.sender = (s.endUnit e).sender := by
  unfold State.sendOver
  dsimp only
  split
  · rename_i held
    rw [State.endTransmission_eq]
    exact ⟨_, rfl, EndUnit.endTransmission_transmits (kept.line e _) held⟩
  · exact ⟨_, (s.setEnd_endUnit e).symm, .refl _, rfl⟩

/-- The end of a reply timeout, the send itself over. -/
theorem State.replyTimedOut_eq (kept : s.LinesKept) (e : EndId) : ∃ v, (s.endUnit e).Transmits v ∧
    v.sender = { (s.endUnit e).sender with holds := 0 } ∧
    s.replyTimedOut e = if (s.endUnit e).sender.sends < 3 then (s.setEnd e v).sendHeld e else (s.setEnd e v).sendsExhausted e := by
  obtain ⟨v, ended, transmits, sender⟩ := s.sendOver_transmits kept e
  refine ⟨{ v with sender := { v.sender with holds := 0 } }, transmits.trans (.setSender ..), by rw [sender], ?_⟩
  have whole : (s.sendOver e).modSender e (fun n => { n with holds := 0 }) =
      s.setEnd e { v with sender := { v.sender with holds := 0 } } := by
    rw [ended]
    cases e <;> rfl
  unfold State.replyTimedOut
  dsimp only
  rw [whole, State.endUnit_setEnd_self, sender]
  rfl

/-- The line that counts its unanswered sends: the end as the frame moves or ends there. -/
def EndUnit.counted (u : EndUnit) (run : Nat) : EndUnit :=
  u.modLine u.sender.currentLine (fun n => { n with unanswered := run })

theorem EndUnit.counted_sender (u : EndUnit) (run : Nat) : (u.counted run).sender = u.sender := EndUnit.sender_modLine ..

theorem EndUnit.counted_line (u : EndUnit) (run : Nat) (x : LineId) : ((u.counted run).line x).state = (u.line x).state ∧
    ((u.counted run).line x).holdTimer = (u.line x).holdTimer ∧ ((u.counted run).line x).carrier = (u.line x).carrier := by
  unfold EndUnit.counted
  rcases LineId.eq_or_partner u.sender.currentLine x with same | same <;> rw [same]
  · rw [EndUnit.line_modLine_self]
    exact ⟨rfl, rfl, rfl⟩
  · rw [EndUnit.line_modLine_partner]
    exact ⟨rfl, rfl, rfl⟩

theorem EndUnit.counted_unanswered (u : EndUnit) (run : Nat) :
    ((u.counted run).line u.sender.currentLine).unanswered = run := by
  unfold EndUnit.counted
  rw [EndUnit.line_modLine_self]

/-- The frame of such an end moves to an ACTIVE partner once, and ends otherwise (R97). -/
def State.leavesLine (e : EndId) (s : State) : State :=
  let u := s.endUnit e
  if !u.sender.moved && (u.line u.sender.currentLine.partner).isActive then s.moveFrame e else s.endFrame .noAnswer e

theorem State.leavesLine_moves (moved : (s.endUnit e).sender.moved = false)
    (partner : (s.line e (s.endUnit e).sender.currentLine.partner).state = .active) : s.leavesLine e = s.moveFrame e :=
  if_pos (by rw [moved]; exact LineUnit.isActive_iff.2 partner)

theorem State.leavesLine_ends (last : (s.endUnit e).sender.moved = true ∨
    (s.line e (s.endUnit e).sender.currentLine.partner).state ≠ .active) : s.leavesLine e = s.endFrame .noAnswer e :=
  if_neg (by
    rw [Bool.and_eq_true, LineUnit.isActive_iff]
    rintro ⟨stays, active⟩
    rcases last with moved | away
    · rw [moved] at stays
      cases stays
    · exact away active)

/-- Sends exhausted on a line, the run below 3 (R97). -/
theorem State.sendsExhausted_below (run : (s.line e (s.endUnit e).sender.currentLine).unanswered < 2) :
    s.sendsExhausted e = (s.setEnd e ((s.endUnit e).counted
      ((s.line e (s.endUnit e).sender.currentLine).unanswered + 1))).leavesLine e := by
  have below : ¬ Config.maxUnanswered ≤ (s.line e (s.endUnit e).sender.currentLine).unanswered + 1 := by
    change ¬ 3 ≤ _
    omega
  have partner := ((s.endUnit e).counted_line ((s.line e (s.endUnit e).sender.currentLine).unanswered + 1)
    (s.endUnit e).sender.currentLine.partner).1
  unfold State.leavesLine LineUnit.isActive
  dsimp only
  rw [State.endUnit_setEnd_self, EndUnit.counted_sender, partner]
  unfold State.sendsExhausted
  dsimp only
  unfold State.line at below
  simp only [decide_eq_false below]
  rfl

/-- Sends exhausted on a line whose run reaches 3: the line falls silent (R97, R98). -/
theorem State.sendsExhausted_forced (run : (s.line e (s.endUnit e).sender.currentLine).unanswered = 2) :
    s.sendsExhausted e =
      ((s.setEnd e ((s.endUnit e).counted 0)).leavesLine e).lineSilent e (s.endUnit e).sender.currentLine := by
  have forced : Config.maxUnanswered ≤ (s.line e (s.endUnit e).sender.currentLine).unanswered + 1 := by
    change 3 ≤ _
    omega
  have partner := ((s.endUnit e).counted_line 0 (s.endUnit e).sender.currentLine.partner).1
  unfold State.leavesLine LineUnit.isActive
  dsimp only
  rw [State.endUnit_setEnd_self, EndUnit.counted_sender, partner]
  unfold State.sendsExhausted
  dsimp only
  unfold State.line at forced
  simp only [decide_eq_true forced]
  rfl

/-- An end whose sends are exhausted, as its frame moves or ends: the run of the line counted, its transmitters changed. -/
structure EndUnit.Exhausted (run : Nat) (u w : EndUnit) : Prop where
  sender : w.sender = { u.sender with holds := 0 }
  line : ∀ x, (w.line x).state = (u.line x).state ∧ (w.line x).holdTimer = (u.line x).holdTimer ∧
    (w.line x).carrier = (u.line x).carrier
  unanswered : (w.line u.sender.currentLine).unanswered = run
  counters : w.counters = u.counters

theorem EndUnit.Transmits.exhausted (h : u.Transmits v) (sender : v.sender = { u.sender with holds := 0 }) (run : Nat) :
    EndUnit.Exhausted run u (v.counted run) where
  sender := (v.counted_sender run).trans sender
  line x := by
    obtain ⟨state, hold, -, carrier⟩ := h.same x
    obtain ⟨state', hold', carrier'⟩ := v.counted_line run x
    exact ⟨state'.trans state, hold'.trans hold, carrier'.trans carrier⟩
  unanswered := by
    have counted := v.counted_unanswered run
    rwa [sender] at counted
  counters := (EndUnit.counters_modLine ..).trans h.counters

/-- A timeout that exhausts the sends on a line (R97, R98). -/
theorem State.replyTimedOut_exhausted (kept : s.LinesKept) (e : EndId) (last : (s.endUnit e).sender.sends = 3) :
    ((s.line e (s.endUnit e).sender.currentLine).unanswered < 2 →
      ∃ w, (s.endUnit e).Exhausted ((s.line e (s.endUnit e).sender.currentLine).unanswered + 1) w ∧
        s.replyTimedOut e = (s.setEnd e w).leavesLine e) ∧
    ((s.line e (s.endUnit e).sender.currentLine).unanswered = 2 →
      ∃ w, (s.endUnit e).Exhausted 0 w ∧
        s.replyTimedOut e = ((s.setEnd e w).leavesLine e).lineSilent e (s.endUnit e).sender.currentLine) := by
  obtain ⟨v, transmits, sender, ends⟩ := s.replyTimedOut_eq kept e
  have unit : (s.setEnd e v).endUnit e = v := State.endUnit_setEnd_self ..
  have run : ((s.setEnd e v).line e v.sender.currentLine).unanswered =
      (s.line e (s.endUnit e).sender.currentLine).unanswered := by
    unfold State.line
    rw [unit, sender]
    exact (transmits.same _).2.2.1
  have again : ∀ w, (s.setEnd e v).setEnd e w = s.setEnd e w := fun w => by cases e <;> rfl
  rw [if_neg (by omega)] at ends
  refine ⟨fun below => ⟨_, transmits.exhausted sender _, ?_⟩, fun full => ⟨_, transmits.exhausted sender 0, ?_⟩⟩
  · rw [ends, State.sendsExhausted_below (by rw [unit, run]; exact below), unit, run, again]
  · rw [ends, State.sendsExhausted_forced (by rw [unit, run]; exact full), unit, again, sender]

theorem State.leavesLine_line (held : (s.endUnit e).sender.frame = some h) (x : LineId) :
    ((s.leavesLine e).line e x).unanswered = (s.line e x).unanswered ∧
    ((s.leavesLine e).line e x).carrier = (s.line e x).carrier := by
  unfold State.leavesLine
  dsimp only
  unfold State.line
  split
  · rw [State.moveFrame_eq, State.endUnit_modEnd_self]
    obtain ⟨-, -, unanswered, carrier⟩ := (EndUnit.moveFrame_transmits (s.endUnit e)).same x
    exact ⟨unanswered, carrier⟩
  · rw [State.endUnit_endFrame_self]
    obtain ⟨-, -, unanswered⟩ := EndUnit.endFrame_spec held .noAnswer
    exact ⟨unanswered x, (EndUnit.Retains.refl 0 (s.endUnit e)).endFrame.carrier x⟩

end Sys2Proof.Machine

open Sys2Proof Sys2Proof.Machine in
/-- Settles O45, by what a send makes of its end, what the end of its timeout makes of it first, and the count of the run. -/
theorem unansweredSendsRepeatMoveAndEnd : Obligations.UnansweredSendsRepeatMoveAndEnd := by
  intro s e h u n y ready held
  have selectable : ∀ x, ready x ↔ (u.line x).selectable = true := fun x => LineUnit.selectable_iff.symm
  refine ⟨fun awaiting due => ?_, fun kept awaiting timer waits due => ?_, fun backing timer sends free => ?_,
    fun pending sends => ⟨fun x here first => ?_, fun a b => ?_⟩⟩
  · refine congrArg Host.Outcome.next (if_neg ?_)
    unfold State.replyMayTimeOut
    dsimp only
    rw [show (s.line e (s.endUnit e).sender.currentLine).tx.frameDue = true from due]
    simp
  · obtain ⟨v, transmits, sender, ends⟩ := s.replyTimedOut_eq kept e
    have ran : exec (.replyTimeout e) s = .next (s.replyTimedOut e) := by
      refine congrArg Host.Outcome.next (if_pos ?_)
      have state : (s.endUnit e).sender.state = .awaiting := awaiting
      have timer : (s.endUnit e).sender.timer = .reply := timer
      have due : (s.line e (s.endUnit e).sender.currentLine).tx.frameDue = false := due
      simp [State.replyMayTimeOut, Sender.timesReply, state, timer, due]
    rw [ran]
    have line : (s.setEnd e v).endUnit e = v := State.endUnit_setEnd_self ..
    refine ⟨fun few free => ?_, fun last stays partner free run => ?_, fun last ends run => ?_, fun last run => ?_⟩
    · rw [ends, if_pos few]
      have sent := State.sendHeld_sender (s := s.setEnd e v) (e := e) (by
        unfold State.line
        rw [line, sender, (transmits.same _).2.1]
        exact free)
      have all := transmits.trans (v.sendHeld_transmits (b := (s.setEnd e v).beaconFrame e))
      have unit : ((s.setEnd e v).sendHeld e).endUnit e = v.sendHeld ((s.setEnd e v).beaconFrame e) := by
        rw [State.sendHeld_eq, State.endUnit_modEnd_self, line]
      refine ⟨_, rfl, ?_, ?_, fun x => ?_, fun l => ?_⟩
      · rw [sent, line, sender]
        rw [← show n.state = .awaiting from awaiting, ← show n.timer = .reply from timer, ← show n.waitsHold = false from waits]
      · rw [unit]
        exact all.counters
      · unfold State.line
        rw [unit]
        exact (all.same x).2.2.1
      · rw [State.sendHeld_eq, State.lane_modEnd, State.lane_setEnd]
    · obtain ⟨w, exhausted, timedOut⟩ := (State.replyTimedOut_exhausted kept e last).1 run
      have unit : (s.setEnd e w).endUnit e = w := State.endUnit_setEnd_self ..
      have current : w.sender.currentLine = y := by rw [exhausted.sender]
      have sent := State.moveFrame_sender (s := s.setEnd e w) (e := e) (by
        unfold State.line
        rw [unit, current, (exhausted.line _).2.1]
        exact free)
      have moves := State.leavesLine_moves (s := s.setEnd e w) (e := e)
        (by rw [unit, exhausted.sender]; exact stays)
        (by unfold State.line; rw [unit, current, (exhausted.line _).1]; exact partner)
      obtain ⟨-, -, sentOn⟩ := EndUnit.linesKept_iff.1 (kept.unit e)
      have transmits := w.moveFrame_transmits (b := (s.setEnd e w).beaconFrame e)
      refine ⟨_, congrArg Host.Outcome.next (timedOut.trans moves), ?_, ?_, ?_, fun l => ?_⟩
      · rw [sent, unit, exhausted.sender]
        rw [← show n.state = .awaiting from awaiting, ← show n.timer = .reply from timer, ← show n.waitsHold = false from waits]
      · unfold State.line
        rw [State.moveFrame_eq, State.endUnit_modEnd_self, unit]
        exact ((transmits.same y).2.2.1).trans exhausted.unanswered
      · unfold State.line
        rw [State.moveFrame_eq, State.endUnit_modEnd_self, unit]
        exact ((transmits.same y).1.trans (exhausted.line y).1).trans (sentOn (.inl awaiting))
      · rw [State.moveFrame_eq, State.lane_modEnd, State.lane_setEnd]
    · obtain ⟨w, exhausted, timedOut⟩ := (State.replyTimedOut_exhausted kept e last).1 run
      have unit : (s.setEnd e w).endUnit e = w := State.endUnit_setEnd_self ..
      have current : w.sender.currentLine = y := by rw [exhausted.sender]
      have ended := State.leavesLine_ends (s := s.setEnd e w) (e := e) (by
        unfold State.line
        rw [unit, current, (exhausted.line _).1, exhausted.sender]
        exact ends)
      have held' : w.sender.frame = some h := by rw [exhausted.sender]; exact held
      obtain ⟨sender', counters, unanswered⟩ := EndUnit.endFrame_spec held' .noAnswer
      have atEnd : ((s.setEnd e w).endFrame .noAnswer e).endUnit e = w.endFrame .noAnswer := by
        rw [State.endUnit_endFrame_self, unit]
      refine ⟨_, congrArg Host.Outcome.next (timedOut.trans ended), ?_, ?_, ?_, ?_, ?_, fun l => ?_⟩
      · rw [atEnd, sender']
        rfl
      · rw [atEnd, sender']
        rfl
      · rw [atEnd, sender', exhausted.sender]
        rfl
      · rw [atEnd, counters, exhausted.counters]
        rfl
      · unfold State.line
        rw [atEnd]
        exact (unanswered y).trans exhausted.unanswered
      · rw [State.endFrame_charge (by rw [unit]; exact held'), State.lane_setEnd]
        rfl
    · obtain ⟨w, exhausted, timedOut⟩ := (State.replyTimedOut_exhausted kept e last).2 run
      have unit : (s.setEnd e w).endUnit e = w := State.endUnit_setEnd_self ..
      obtain ⟨unanswered, carrier⟩ := State.leavesLine_line (s := s.setEnd e w) (e := e) (h := h)
        (by rw [unit, exhausted.sender]; exact held) y
      unfold State.line at unanswered carrier
      rw [unit] at unanswered carrier
      refine ⟨_, by rw [timedOut], ?_, ?_⟩
      · rw [State.lineSilent_line]
        exact unanswered.trans exhausted.unanswered
      · rw [State.lineSilent_line]
        refine congrArg (fun c : Bool => if c then LineState.training else .dark) ?_
        exact carrier.trans (exhausted.line y).2.2
  · have sent := State.sendHeld_sender (s := s) free
    have ran : exec (.holdWaitEnd e) s = .next (s.sendHeld e) := by
      refine congrArg Host.Outcome.next (if_pos ?_)
      have state : (s.endUnit e).sender.state = .backing := backing
      have timer : (s.endUnit e).sender.timer = .holdWait := timer
      simp [Sender.timesHold, state, timer]
    refine ⟨_, ran, ?_, ?_, fun l => ?_⟩
    · rw [sent, show (s.endUnit e).sender.sends = 0 from sends]
    · rw [State.sendHeld_eq, State.endUnit_modEnd_self]
      exact (EndUnit.sendHeld_transmits _).counters
    · rw [State.sendHeld_eq, State.lane_modEnd]
  · have ran : exec (.pendingSend e) s = .next (s.firstSend e) := congrArg Host.Outcome.next (if_pos pending)
    obtain ⟨sender, transmits⟩ := EndUnit.firstSend_spec (b := s.beaconFrame e)
      (EndUnit.selectLine_some ((selectable x).1 here) (first.imp_right (mt (selectable .lineA).2))) here.2.2
    refine ⟨_, ran, ?_, ?_, fun l => ?_⟩
    · rw [State.firstSend_eq, State.endUnit_modEnd_self, sender]
      unfold Sender.sending
      dsimp only
      rw [show u.sender.sends = 0 from sends]
    · rw [State.firstSend_eq, State.endUnit_modEnd_self]
      exact transmits.counters
    · rw [State.firstSend_eq, State.lane_modEnd]
  · refine congrArg Host.Outcome.next ((if_pos pending).trans ?_)
    rw [State.firstSend_eq]
    refine State.modEnd_same ?_
    rw [EndUnit.firstSend_none (EndUnit.selectLine_none (mt (selectable .lineA).2 a) (mt (selectable .lineB).2 b)),
      ← show (s.endUnit e).sender.state = .pending from pending]
end

section
/-! PROOF. Frames that arrive: the frame check, repeats and malformed bodies, for every kind (R66, R72, R90, R91, R102, R104). -/

namespace Sys2Proof.Machine

open Sys2Proof

variable {s : State} {u v : EndUnit} {e : EndId} {x : LineId} {kind : Byte} {f : RawFrame} {r : WaitingReply}
  {k : Option ReceiverRecord} {β : Type} {decode : List Byte → Option β} {handle : β → State → State}

/-! ## What a frame of each kind is taken by (R91, R103) -/

theorem exec_unknownKind (e : EndId) (x : LineId) (kind : Byte) (f : RawFrame) (s : State) :
    exec (.unknownFrameKind e x kind f) s =
      .next (s.arrive e x kind f (fun s => s.answer e x (.plain (frameBit f) (.refuse .malformed)))) := rfl

theorem frameCommand_unknown (unanswered : kind ∉ unansweredKinds) (awaits : kind ∉ awaitingKinds) :
    frameCommand kind e x f = .unknownFrameKind e x kind f := by
  simp only [unansweredKinds, awaitingKinds, List.mem_cons, List.not_mem_nil, or_false, not_or] at unanswered awaits
  obtain ⟨beacon, accept, hold, refuse⟩ := unanswered
  obtain ⟨request, alert, tally, closure, commit, dissent, defer, data⟩ := awaits
  simp only [frameCommand, beacon, accept, hold, refuse, request, alert, tally, closure, commit, dissent, defer, data, if_false]

theorem decodeNoBody_isSome (body : List Byte) : (decodeNoBody body).isSome = body.isEmpty := by cases body <;> rfl

/-- A frame of a kind that awaits no reply has its body read for form. -/
theorem exec_unansweredKind (unanswered : kind ∈ unansweredKinds) (e : EndId) (x : LineId) (f : RawFrame) :
    ∃ (β : Type) (decode : List Byte → Option β) (handle : β → State → State),
      (decode f.body).isSome = bodyInForm kind f.body ∧ ∀ s, exec (frameCommand kind e x f) s =
        .next (s.arrive e x kind f (fun s => s.takeUnanswered e x f decode handle)) := by
  simp only [unansweredKinds, List.mem_cons, List.not_mem_nil, or_false] at unanswered
  rcases unanswered with rfl | rfl | rfl | rfl
  · exact ⟨_, decodeBeacon, _, rfl, fun _ => rfl⟩
  · exact ⟨_, decodeNoBody, _, decodeNoBody_isSome _, fun _ => rfl⟩
  · exact ⟨_, decodeNoBody, _, decodeNoBody_isSome _, fun _ => rfl⟩
  · exact ⟨_, decodeRefuse, _, rfl, fun _ => rfl⟩

/-- A frame of a kind that awaits a reply is held against the receiver record, and then read for form. -/
theorem exec_awaitingKind (awaits : kind ∈ awaitingKinds) (e : EndId) (x : LineId) (f : RawFrame) :
    ∃ (β : Type) (decode : List Byte → Option β) (handle : β → State → State),
      (decode f.body).isSome = bodyInForm kind f.body ∧ ∀ s, exec (frameCommand kind e x f) s =
        .next (s.arrive e x kind f (fun s => s.takeAwaiting e x f decode handle)) := by
  simp only [awaitingKinds, List.mem_cons, List.not_mem_nil, or_false] at awaits
  rcases awaits with rfl | rfl | rfl | rfl | rfl | rfl | rfl | rfl
  · exact ⟨_, decodePatternRequest, _, rfl, fun _ => rfl⟩
  · exact ⟨_, decodeAlert, _, rfl, fun _ => rfl⟩
  · exact ⟨_, decodeTally, _, rfl, fun _ => rfl⟩
  · exact ⟨_, decodeClosure, _, rfl, fun _ => rfl⟩
  · exact ⟨_, decodeCommit, _, rfl, fun _ => rfl⟩
  · exact ⟨_, decodeDissent, _, rfl, fun _ => rfl⟩
  · exact ⟨_, decodeDefer, _, rfl, fun _ => rfl⟩
  · exact ⟨_, decodeData, _, rfl, fun _ => rfl⟩

/-- Whatever its kind, a frame passes the line and the frame check first. -/
theorem exec_frameCommand (kind : Byte) (e : EndId) (x : LineId) (f : RawFrame) :
    ∃ valid, ∀ s, exec (frameCommand kind e x f) s = .next (s.arrive e x kind f valid) := by
  by_cases unanswered : kind ∈ unansweredKinds
  · obtain ⟨_, _, _, -, takes⟩ := exec_unansweredKind unanswered e x f
    exact ⟨_, takes⟩
  by_cases awaits : kind ∈ awaitingKinds
  · obtain ⟨_, _, _, -, takes⟩ := exec_awaitingKind awaits e x f
    exact ⟨_, takes⟩
  rw [frameCommand_unknown unanswered awaits]
  exact ⟨_, exec_unknownKind e x kind f⟩

/-! ## Malformed frames and repeats (R91, R102) -/

theorem State.takeUnanswered_malformed (malformed : decode f.body = none) :
    s.takeUnanswered e x f decode handle = s.countCheckError e x := by
  unfold State.takeUnanswered
  rw [malformed]

theorem State.takeAwaiting_malformed (new : (s.endUnit e).FindsNew f) (malformed : decode f.body = none) :
    s.takeAwaiting e x f decode handle = s.earn e x (.plain (frameBit f) (.refuse .malformed)) := by
  unfold State.takeAwaiting
  dsimp only
  rw [malformed]
  cases taken : (s.endUnit e).receiver with
  | none => rfl
  | some r => exact if_neg (new r taken)

theorem State.takeAwaiting_repeat {r : ReceiverRecord} (taken : (s.endUnit e).receiver = some r) (bit : r.bit = frameBit f) :
    s.takeAwaiting e x f decode handle = s.answer e x (.plain (frameBit f) r.answer.answer) := by
  unfold State.takeAwaiting
  dsimp only
  rw [taken]
  exact if_pos bit

/-! ## The answer of a line whose silence timer has restarted (R72, R104) -/

theorem EndUnit.Replies.setReceiver (h : u.Replies x r v) :
    EndUnit.Replies x r { u with receiver := k } { v with receiver := k } := by
  have line : ∀ y, EndUnit.line { u with receiver := k } y = u.line y := fun y => by cases y <;> rfl
  have modLine : ∀ y g, EndUnit.modLine { u with receiver := k } y g = { u.modLine y g with receiver := k } := fun y g => by
    cases y <;> rfl
  unfold EndUnit.Replies at *
  simp only [line, modLine]
  rcases h with ⟨can, ⟨idle, rfl⟩ | ⟨busy, rfl⟩⟩ | ⟨cannot, can, ⟨idle, rfl⟩ | ⟨busy, rfl⟩⟩ | ⟨cannot, neither, hold, rfl⟩
  · exact .inl ⟨can, .inl ⟨idle, rfl⟩⟩
  · exact .inl ⟨can, .inr ⟨busy, rfl⟩⟩
  · exact .inr (.inl ⟨cannot, can, .inl ⟨idle, rfl⟩⟩)
  · exact .inr (.inl ⟨cannot, can, .inr ⟨busy, rfl⟩⟩)
  · exact .inr (.inr ⟨cannot, neither, hold, rfl⟩)

/-- The silence timer of the line of arrival restarts. -/
def EndUnit.heard (silence : Nat) (x : LineId) (u : EndUnit) : EndUnit :=
  u.modLine x (fun n => { n with silenceTimer := some silence })

theorem State.restartSilence_heard (s : State) (e : EndId) (x : LineId) :
    s.restartSilence e x = s.setEnd e ((s.endUnit e).heard (4000 * s.store.working.beacon) x) := by
  unfold State.restartSilence
  rw [State.silenceTime_eq]
  rfl

theorem State.heard_answers (h : ((s.endUnit e).heard (4000 * s.store.working.beacon) x).Replies x r v) :
    (s.restartSilence e x).answer e x r = s.setEnd e v := by
  rw [State.restartSilence_heard, State.answer_replies (v := v) (by rwa [State.endUnit_setEnd_self])]
  cases e <;> rfl

/-- A final answer is recorded as it leaves. -/
theorem State.heard_earns {a : FinalAnswer} (final : r.answer.final = some a)
    (h : ((s.endUnit e).heard (4000 * s.store.working.beacon) x).Replies x r v) :
    (s.restartSilence e x).earn e x r = s.setEnd e { v with receiver := some { bit := r.bit, answer := a } } := by
  unfold State.earn
  rw [final, State.restartSilence_heard]
  dsimp only
  rw [State.answer_replies (by rw [State.endUnit_modEnd_self, State.endUnit_setEnd_self]; exact h.setReceiver)]
  cases e <;> rfl

end Sys2Proof.Machine

open Sys2Proof Sys2Proof.Machine in
/-- Settles O35: every kind of frame passes the same checks, and what it is then taken by depends on whether it awaits a reply. -/
theorem framesAreCheckedAndRepeatsAnswered : Obligations.FramesAreCheckedAndRepeatsAnswered := by
  intro s e x kind f u counted silence
  obtain ⟨valid, arrives⟩ := exec_frameCommand kind e x f
  have heard : ∀ {g}, s.Hears e x kind f → s.arrive e x kind f g = g (s.restartSilence e x) := fun h => State.arrive_heard _ h
  have none_of : ∀ {β} {o : Option β}, o.isSome = bodyInForm kind f.body → bodyInForm kind f.body = false → o = none :=
    fun form bad => Option.isNone_iff_eq_none.1 (Option.isSome_eq_false_iff.1 (form.trans bad))
  have receiver : ((s.restartSilence e x).endUnit e).receiver = u.receiver := by
    rw [State.restartSilence_unit, EndUnit.receiver_modLine]
  refine ⟨fun away => ?_, fun active bad => ?_, fun hears => ⟨fun unanswered bad => ?_, fun a v replies =>
    ⟨fun r awaits taken bit answer => ?_, fun answer awaits new bad => ?_, fun answer _ => ?_⟩⟩⟩
  · rw [arrives, State.arrive_inactive _ away]
  · rw [arrives, State.arrive_bad _ active bad]
  · obtain ⟨β, decode, handle, form, takes⟩ := exec_unansweredKind unanswered e x f
    rw [takes, heard hears, State.takeUnanswered_malformed (none_of form bad), State.restartSilence, State.silenceTime_eq]
    exact congrArg Host.Outcome.next (State.modLine_modLine ..)
  · obtain ⟨β, decode, handle, -, takes⟩ := exec_awaitingKind awaits e x f
    rw [takes, heard hears, State.takeAwaiting_repeat (receiver.trans taken) bit, ← answer, State.heard_answers replies]
  · obtain ⟨β, decode, handle, form, takes⟩ := exec_awaitingKind awaits e x f
    subst answer
    rw [takes, heard hears, State.takeAwaiting_malformed (fun r taken => new r (receiver.symm.trans taken)) (none_of form bad),
      State.heard_earns rfl replies]
    rfl
  · subst answer
    rw [exec_unknownKind, heard hears, State.heard_answers replies]
end

section
/-! PROOF. The purge at commit, and the admission decided again there (R86, R118, R119, R132, R136). -/

namespace Sys2Proof.Machine

open Sys2Proof

variable {s t r : State} {u : EndUnit} {e d : EndId} {c : TrafficClass} {f g : DataRecord} {q before after : List DataRecord}
  {o : EndId}

/-! ## What the purge makes of one frame (R119, R136) -/

/-- The node but for its lanes and the counters of its ends. -/
structure State.Spares (s t : State) : Prop where
  core : s.CoreFrame t
  unit : ∀ e, t.endUnit e = { s.endUnit e with counters := (t.endUnit e).counters }

theorem State.Spares.refl (s : State) : s.Spares s := ⟨.refl s, fun _ => rfl⟩

theorem State.Spares.trans (h : s.Spares t) (k : t.Spares r) : s.Spares r :=
  ⟨h.core.trans k.core, fun e => (k.unit e).trans (by rw [h.unit e])⟩

theorem State.endUnit_deliver (s : State) (n : ReceiveEntry) (e : EndId) : (s.deliver n).endUnit e = s.endUnit e := by
  unfold State.deliver
  split
  · simp
  · rfl

theorem State.purgeOne_spares (s : State) (e : EndId) (f : DataRecord) : s.Spares (s.purgeOne e f).2 := by
  have lost : ∀ {l}, s.Spares (s.lose .consistChanged l) := fun {l} =>
    ⟨(State.CoreFrame.refl s).lose, fun d => by rw [State.endUnit_lose]⟩
  unfold State.purgeOne
  split
  · exact .refl s
  split
  · refine ⟨(State.CoreFrame.refl s).count, fun d => ?_⟩
    cases e <;> cases d <;> rfl
  split
  · exact lost
  split
  · split <;> exact .refl s
  · exact ⟨(State.CoreFrame.refl s).deliver, fun d => by rw [State.endUnit_deliver]⟩
  all_goals exact lost

/-- A frame of the active generation stays as it is. -/
theorem State.purgeOne_fresh (fresh : f.frame.generation = s.directory.generation) : s.purgeOne e f = (.keep f, s) :=
  if_pos fresh

/-- What stays or is set aside is of a generation. -/
def PurgeVerdict.Of (n : Word) : PurgeVerdict → Prop
  | .keep g => g.frame.generation = n
  | .setAside _ g => g.frame.generation = n
  | .remove => True

theorem State.purgeOne_verdict (s : State) (e : EndId) (f : DataRecord) : (s.purgeOne e f).1.Of s.directory.generation := by
  unfold State.purgeOne
  split
  · rename_i fresh
    exact fresh
  split
  · trivial
  split
  · trivial
  split
  · split <;> rfl
  all_goals trivial

/-! ## The walk along a class queue (R136) -/

theorem State.purgeWalk_keep (h : s.purgeOne e f = (.keep g, t)) : State.purgeWalk e (f :: q) s =
    (g :: (State.purgeWalk e q t).1, (State.purgeWalk e q t).2.1, (State.purgeWalk e q t).2.2) := by
  rw [State.purgeWalk.eq_def]
  dsimp only
  rw [h]

theorem State.purgeWalk_setAside (h : s.purgeOne e f = (.setAside o g, t)) : State.purgeWalk e (f :: q) s =
    ((State.purgeWalk e q t).1, (o, g) :: (State.purgeWalk e q t).2.1, (State.purgeWalk e q t).2.2) := by
  rw [State.purgeWalk.eq_def]
  dsimp only
  rw [h]

theorem State.purgeWalk_remove (h : s.purgeOne e f = (.remove, t)) :
    State.purgeWalk e (f :: q) s = State.purgeWalk e q t := by
  rw [State.purgeWalk.eq_def]
  dsimp only
  rw [h]

/-- What the walk does to a queue and to the node, the active generation given. -/
structure State.Walked (n : Word) (q : List DataRecord) (s : State)
    (w : List DataRecord × List (EndId × DataRecord) × State) : Prop where
  spares : s.Spares w.2.2
  current : ∀ g ∈ w.1, g.frame.generation = n
  stays : (q.filter (fun g => decide (g.frame.generation = n))).Sublist w.1
  aside : ∀ p ∈ w.2.1, p.2.frame.generation = n

theorem State.purgeWalk_walked (e : EndId) (q : List DataRecord) (s : State) :
    State.Walked s.directory.generation q s (State.purgeWalk e q s) := by
  induction q generalizing s with
  | nil => exact ⟨.refl s, by simp [State.purgeWalk], by simp, by simp [State.purgeWalk]⟩
  | cons f q ih =>
    have verdict := s.purgeOne_verdict e f
    have spares := s.purgeOne_spares e f
    have fresh := State.purgeOne_fresh (s := s) (e := e) (f := f)
    generalize ran : s.purgeOne e f = p at *
    obtain ⟨v, t⟩ := p
    have rest := ih t
    rw [spares.core.directory] at rest
    cases v with
    | keep g =>
      rw [State.purgeWalk_keep ran]
      refine ⟨spares.trans rest.spares, ?_, ?_, rest.aside⟩
      · exact List.forall_mem_cons.2 ⟨verdict, rest.current⟩
      · rw [List.filter_cons]
        split
        · rename_i same
          cases fresh (of_decide_eq_true same)
          exact rest.stays.cons_cons _
        · exact rest.stays.cons _
    | setAside o g =>
      rw [State.purgeWalk_setAside ran]
      refine ⟨spares.trans rest.spares, rest.current, ?_, List.forall_mem_cons.2 ⟨verdict, rest.aside⟩⟩
      rw [List.filter_cons_of_neg]
      · exact rest.stays
      · intro same
        cases fresh (of_decide_eq_true same)
    | remove =>
      rw [State.purgeWalk_remove ran]
      refine ⟨spares.trans rest.spares, rest.current, ?_, rest.aside⟩
      rw [List.filter_cons_of_neg]
      · exact rest.stays
      · intro same
        cases fresh (of_decide_eq_true same)

/-- A queue of the active generation stays as it is. -/
theorem State.purgeWalk_fresh (fresh : ∀ g ∈ q, g.frame.generation = s.directory.generation) :
    State.purgeWalk e q s = (q, [], s) := by
  induction q with
  | nil => rfl
  | cons f q ih =>
    obtain ⟨here, there⟩ := List.forall_mem_cons.1 fresh
    rw [State.purgeWalk_keep (State.purgeOne_fresh here), ih there]

theorem State.purgeWalk_before (fresh : ∀ g ∈ before, g.frame.generation = s.directory.generation) (q : List DataRecord) :
    State.purgeWalk e (before ++ q) s =
      (before ++ (State.purgeWalk e q s).1, (State.purgeWalk e q s).2.1, (State.purgeWalk e q s).2.2) := by
  induction before with
  | nil => rfl
  | cons f before ih =>
    obtain ⟨here, there⟩ := List.forall_mem_cons.1 fresh
    rw [List.cons_append, State.purgeWalk_keep (State.purgeOne_fresh here), ih there]
    rfl

/-! ## The purge over any queues (R136) -/

/-- The node as the purge leaves it: of each class queue nothing of the active generation lost or moved, and nothing of
another joined. -/
structure State.Purges (s t : State) : Prop where
  core : s.CoreFrame t
  sender : ∀ e, (t.endUnit e).sender = (s.endUnit e).sender
  control : ∀ e, (t.endUnit e).queues.control = (s.endUnit e).queues.control
  state : ∀ e, (t.endUnit e).state = (s.endUnit e).state
  stays : ∀ e c, (((s.endUnit e).queues.classQueue c).filter
    (fun g => decide (g.frame.generation = s.directory.generation))).Sublist ((t.endUnit e).queues.classQueue c)
  joins : ∀ e c, ∀ g ∈ (t.endUnit e).queues.classQueue c,
    g.frame.generation = s.directory.generation ∨ g ∈ (s.endUnit e).queues.classQueue c

theorem State.Purges.refl (s : State) : s.Purges s :=
  ⟨.refl s, fun _ => rfl, fun _ => rfl, fun _ => rfl, fun _ _ => List.filter_sublist, fun _ _ _ h => .inr h⟩

theorem State.Purges.trans (h : s.Purges t) (k : t.Purges r) : s.Purges r := by
  have stays := k.stays
  have joins := k.joins
  rw [h.core.directory] at stays joins
  refine ⟨h.core.trans k.core, fun e => (k.sender e).trans (h.sender e), fun e => (k.control e).trans (h.control e),
    fun e => (k.state e).trans (h.state e), fun e c => ?_, fun e c g there => ?_⟩
  · have twice := (h.stays e c).filter (fun g => decide (g.frame.generation = s.directory.generation))
    rw [List.filter_filter] at twice
    simp only [Bool.and_self] at twice
    exact twice.trans (stays e c)
  · rcases joins e c g there with fresh | there
    · exact .inl fresh
    · exact h.joins e c g there

/-- A class queue of the active generation alone. -/
def State.Purged (s : State) (e : EndId) (c : TrafficClass) : Prop :=
  ∀ g ∈ (s.endUnit e).queues.classQueue c, g.frame.generation = s.directory.generation

/-- A purged queue stays so. -/
theorem State.Purges.purged (h : s.Purges t) (k : s.Purged e c) : t.Purged e c := by
  intro g there
  rw [h.core.directory]
  rcases h.joins e c g there with fresh | there
  · exact fresh
  · exact k g there

/-- An end with one class queue replaced. -/
structure EndUnit.Requeues (c : TrafficClass) (q : List DataRecord) (u v : EndUnit) : Prop where
  sender : v.sender = u.sender
  state : v.state = u.state
  control : v.queues.control = u.queues.control
  here : v.queues.classQueue c = q
  others : ∀ d, d ≠ c → v.queues.classQueue d = u.queues.classQueue d

theorem EndQueues.classQueue_set_other {b c : TrafficClass} (w : EndQueues) (other : b ≠ c) (q : List DataRecord) :
    (w.setClassQueue c q).classQueue b = w.classQueue b := by
  cases c <;> cases b <;> simp [EndQueues.setClassQueue, EndQueues.classQueue] at other ⊢

theorem EndUnit.requeues_set (u : EndUnit) (c : TrafficClass) (q : List DataRecord) :
    u.Requeues c q { u with queues := u.queues.setClassQueue c q } := by
  refine ⟨rfl, rfl, by cases c <;> rfl, by cases c <;> rfl, fun d other => ?_⟩
  exact EndQueues.classQueue_set_other _ other q

theorem EndUnit.requeues_clear (u : EndUnit) (c : TrafficClass) (q : List DataRecord) :
    u.Requeues c q { u with queues := (u.queues.setClassQueue c q).clearRelief c } := by
  have cleared : ∀ (w : EndQueues) b, (w.clearRelief c).classQueue b = w.classQueue b := fun w b => by cases c <;> cases b <;> rfl
  refine ⟨rfl, rfl, by cases c <;> rfl, by cases c <;> rfl, fun d other => (cleared ..).trans ?_⟩
  exact EndQueues.classQueue_set_other _ other q

/-- One queue replaced, beside changes of lanes and counters. -/
theorem State.Spares.purges (h : s.Spares t) {v : EndUnit} (k : (t.endUnit e).Requeues c q v)
    (current : ∀ g ∈ q, g.frame.generation = s.directory.generation ∨ g ∈ (s.endUnit e).queues.classQueue c)
    (stays : (((s.endUnit e).queues.classQueue c).filter
      (fun g => decide (g.frame.generation = s.directory.generation))).Sublist q) : s.Purges (t.setEnd e v) := by
  have queues : ∀ d, (t.endUnit d).queues = (s.endUnit d).queues := fun d => by rw [h.unit d]
  have core : s.CoreFrame (t.setEnd e v) := h.core.modEnd (f := fun _ => v)
  have unit : ∀ d, (t.setEnd e v).endUnit d = if d = e then v else t.endUnit d := fun d => by cases d <;> cases e <;> rfl
  have senders : ∀ d, ((t.setEnd e v).endUnit d).sender = (s.endUnit d).sender ∧
      ((t.setEnd e v).endUnit d).queues.control = (s.endUnit d).queues.control ∧
      ((t.setEnd e v).endUnit d).state = (s.endUnit d).state := fun d => by
    rw [unit]
    split
    · rename_i same
      subst same
      exact ⟨k.sender.trans (by rw [h.unit d]), k.control.trans (by rw [queues]), k.state.trans (by rw [h.unit d])⟩
    · rw [h.unit d]
      exact ⟨rfl, rfl, rfl⟩
  have replaced : ∀ d b, (d = e ∧ b = c ∧ ((t.setEnd e v).endUnit d).queues.classQueue b = q) ∨
      ((t.setEnd e v).endUnit d).queues.classQueue b = (s.endUnit d).queues.classQueue b := fun d b => by
    rw [unit]
    split
    · rename_i same
      subst same
      by_cases there : b = c
      · subst there
        exact .inl ⟨rfl, rfl, k.here⟩
      · exact .inr ((k.others b there).trans (by rw [queues]))
    · exact .inr (by rw [queues])
  refine ⟨core, fun d => (senders d).1, fun d => (senders d).2.1, fun d => (senders d).2.2, fun d b => ?_, fun d b g there => ?_⟩
  · rcases replaced d b with ⟨rfl, rfl, new⟩ | same
    · rwa [new]
    · rw [same]
      exact List.filter_sublist
  · rcases replaced d b with ⟨rfl, rfl, new⟩ | same
    · exact current g (new ▸ there)
    · exact .inr (same ▸ there)

/-! ## The purge of one class queue (R132, R136) -/

/-- An end whose class queue is what the walk has kept of it, its relief count cleared when its head has left. -/
def EndUnit.rewalked (c : TrafficClass) (kept : List DataRecord) (leaves : Bool) (u : EndUnit) : EndUnit :=
  { u with queues := if leaves then (u.queues.setClassQueue c kept).clearRelief c else u.queues.setClassQueue c kept }

theorem EndUnit.rewalked_requeues (u : EndUnit) (c : TrafficClass) (q : List DataRecord) (leaves : Bool) :
    u.Requeues c q (u.rewalked c q leaves) := by
  cases leaves
  · exact u.requeues_set c q
  · exact u.requeues_clear c q

theorem State.purgeClass_eq (s : State) (e : EndId) (c : TrafficClass) :
    let q := (s.endUnit e).queues.classQueue c
    let w := State.purgeWalk e q s
    s.purgeClass e c = (w.2.1, w.2.2.modEnd e (EndUnit.rewalked c w.1 (s.headLeaves e q))) := by
  unfold State.purgeClass EndUnit.rewalked
  dsimp only
  cases s.headLeaves e ((s.endUnit e).queues.classQueue c) with
  | false => rfl
  | true =>
    rw [if_pos rfl]
    exact congrArg (Prod.mk _) (State.modEnd_modEnd ..)

theorem State.purgeClass_purges (s : State) (e : EndId) (c : TrafficClass) :
    s.Purges (s.purgeClass e c).2 ∧ (s.purgeClass e c).2.Purged e c ∧
    ∀ p ∈ (s.purgeClass e c).1, p.2.frame.generation = s.directory.generation := by
  have walked := State.purgeWalk_walked e ((s.endUnit e).queues.classQueue c) s
  rw [State.purgeClass_eq]
  have purges := walked.spares.purges (EndUnit.rewalked_requeues _ c _ (s.headLeaves e ((s.endUnit e).queues.classQueue c)))
    (fun g there => .inl (walked.current g there)) walked.stays
  refine ⟨purges, fun g there => ?_, walked.aside⟩
  dsimp only at there ⊢
  rw [State.endUnit_modEnd_self, (EndUnit.rewalked_requeues ..).here] at there
  exact (walked.current g there).trans (congrArg Directory.generation purges.core.directory).symm

theorem State.purgeQueues_purges (qs : List (EndId × TrafficClass)) (s : State) :
    s.Purges (State.purgeQueues qs s).2 ∧ (∀ e c, (e, c) ∈ qs → (State.purgeQueues qs s).2.Purged e c) ∧
    ∀ p ∈ (State.purgeQueues qs s).1, p.2.frame.generation = s.directory.generation := by
  induction qs generalizing s with
  | nil => exact ⟨.refl s, fun _ _ h => (nomatch h), fun _ h => (nomatch h)⟩
  | cons p qs ih =>
    obtain ⟨e, c⟩ := p
    obtain ⟨purges, purged, aside⟩ := s.purgeClass_purges e c
    obtain ⟨purges', purged', aside'⟩ := ih (s.purgeClass e c).2
    rw [purges.core.directory] at aside'
    refine ⟨purges.trans purges', fun d b there => ?_, fun p there => ?_⟩
    · rcases List.mem_cons.1 there with same | there
      · cases same
        exact purges'.purged purged
      · exact purged' d b there
    · rcases List.mem_append.1 there with there | there
      · exact aside p there
      · exact aside' p there

/-- The second pass places a frame at the tail of a queue, or loses it. -/
theorem State.placeAside_purges (current : g.frame.generation = s.directory.generation) : s.Purges (s.placeAside o g) := by
  unfold State.placeAside
  split
  · refine (State.Spares.refl s).purges (EndUnit.requeues_set (s.endUnit o) g.frame.cls _) (fun k there => ?_) ?_
    · rcases List.mem_append.1 there with old | new
      · exact .inr old
      · exact .inl (List.mem_singleton.1 new ▸ current)
    · exact List.filter_sublist.trans (List.sublist_append_left ..)
  · have unit : ∀ e, (s.loseRecord .consistChanged g).endUnit e = s.endUnit e := fun e => State.endUnit_loseRecord ..
    refine ⟨(State.CoreFrame.refl s).loseRecord, fun e => ?_, fun e => ?_, fun e => ?_, fun e c => ?_, fun e c k there => ?_⟩
    all_goals rw [unit] at *
    · exact List.filter_sublist
    · exact .inr there

theorem State.placeAsides_purges (ps : List (EndId × DataRecord)) (s : State)
    (current : ∀ p ∈ ps, p.2.frame.generation = s.directory.generation) :
    s.Purges (ps.foldl (fun s p => s.placeAside p.1 p.2) s) := by
  induction ps generalizing s with
  | nil => exact .refl s
  | cons p ps ih =>
    obtain ⟨here, there⟩ := List.forall_mem_cons.1 current
    have purges := State.placeAside_purges (o := p.1) here
    exact purges.trans (ih _ (by rwa [purges.core.directory]))

theorem State.purgeAtCommit_purges (s : State) : s.Purges s.purgeAtCommit ∧ ∀ e c, s.purgeAtCommit.Purged e c := by
  obtain ⟨purges, purged, aside⟩ := State.purgeQueues_purges purgeOrder s
  have placed := State.placeAsides_purges (State.purgeQueues purgeOrder s).1 (State.purgeQueues purgeOrder s).2
    (by rwa [purges.core.directory])
  exact ⟨purges.trans placed, fun e c => placed.purged (purged e c (by cases e <;> cases c <;> decide))⟩

/-! ## One frame of another generation (R119, R136) -/

/-- The head of a queue that begins with a frame of the active generation stays. -/
theorem State.headLeaves_fresh (fresh : g.frame.generation = s.directory.generation) : s.headLeaves e (g :: q) = false := by
  unfold State.headLeaves
  dsimp only
  rw [State.purgeOne_fresh fresh]

theorem State.purgeClass_purged (purged : s.Purged e c) : s.purgeClass e c = ([], s) := by
  have leaves : s.headLeaves e ((s.endUnit e).queues.classQueue c) = false := by
    unfold State.Purged at purged
    generalize (s.endUnit e).queues.classQueue c = q at *
    cases q with
    | nil => rfl
    | cons f rest => exact State.headLeaves_fresh (purged f List.mem_cons_self)
  rw [State.purgeClass_eq, State.purgeWalk_fresh purged, leaves]
  exact congrArg (Prod.mk _) (State.modEnd_same (by cases c <;> rfl))

theorem State.purgeQueues_purged (purged : ∀ e c, s.Purged e c) (qs : List (EndId × TrafficClass)) :
    State.purgeQueues qs s = ([], s) := by
  induction qs with
  | nil => rfl
  | cons p qs ih =>
    unfold State.purgeQueues
    rw [State.purgeClass_purged (purged p.1 p.2)]
    dsimp only
    rw [ih]
    rfl

/-- With one class queue to purge, the first pass is the purge of that queue. -/
theorem State.purgeQueues_one (others : ∀ d b, d ≠ e ∨ b ≠ c → s.Purged d b) (qs : List (EndId × TrafficClass))
    (there : (e, c) ∈ qs) : State.purgeQueues qs s = s.purgeClass e c := by
  induction qs with
  | nil => cases there
  | cons p qs ih =>
    by_cases same : p = (e, c)
    · subst same
      obtain ⟨purges, purged, -⟩ := s.purgeClass_purges e c
      have all : ∀ d b, (s.purgeClass e c).2.Purged d b := fun d b => by
        by_cases other : d ≠ e ∨ b ≠ c
        · exact purges.purged (others d b other)
        · obtain ⟨rfl, rfl⟩ := not_or.1 other |>.imp not_not.1 not_not.1
          exact purged
      unfold State.purgeQueues
      dsimp only
      rw [State.purgeQueues_purged all]
      simp
    · have elsewhere : p.1 ≠ e ∨ p.2 ≠ c := by
        by_contra here
        obtain ⟨end_, class_⟩ := not_or.1 here |>.imp not_not.1 not_not.1
        exact same (Prod.ext end_ class_)
      unfold State.purgeQueues
      rw [State.purgeClass_purged (others p.1 p.2 elsewhere)]
      dsimp only
      rw [ih ((List.mem_cons.1 there).resolve_left (Ne.symm same))]
      rfl

/-- An end that a frame has left, its relief count cleared where the frame was the head. -/
def EndUnit.without (c : TrafficClass) (before after : List DataRecord) (u : EndUnit) : EndUnit :=
  { u with queues := if before = [] then (u.queues.setClassQueue c (before ++ after)).clearRelief c
                     else u.queues.setClassQueue c (before ++ after) }

/-- One frame of another generation among frames of the active one. -/
structure State.Alone (s : State) (e : EndId) (c : TrafficClass) (before : List DataRecord) (f : DataRecord)
    (after : List DataRecord) : Prop where
  queue : (s.endUnit e).queues.classQueue c = before ++ f :: after
  before : ∀ g ∈ before, g.frame.generation = s.directory.generation
  after : ∀ g ∈ after, g.frame.generation = s.directory.generation

theorem State.headLeaves_keep (ran : s.purgeOne e f = (.keep g, t)) : s.headLeaves e (f :: q) = false := by
  unfold State.headLeaves
  dsimp only
  rw [ran]

theorem State.headLeaves_gone {v : PurgeVerdict} (ran : s.purgeOne e f = (v, t))
    (gone : v = .remove ∨ ∃ o g, v = .setAside o g) : s.headLeaves e (f :: q) = true := by
  unfold State.headLeaves
  dsimp only
  rw [ran]
  rcases gone with rfl | ⟨o, g, rfl⟩ <;> rfl

theorem State.Alone.keep (h : s.Alone e c before f after) (ran : s.purgeOne e f = (.keep g, t)) :
    s.purgeClass e c = ([], t.modEnd e (fun u => { u with queues := u.queues.setClassQueue c (before ++ g :: after) })) := by
  have core := (s.purgeOne_spares e f).core
  rw [ran] at core
  have walk : State.purgeWalk e (before ++ f :: after) s = (before ++ g :: after, [], t) := by
    rw [State.purgeWalk_before h.before, State.purgeWalk_keep ran, State.purgeWalk_fresh (by rw [core.directory]; exact h.after)]
  have head : s.headLeaves e (before ++ f :: after) = false := by
    cases before with
    | nil => exact State.headLeaves_keep ran
    | cons g before => exact State.headLeaves_fresh (h.before g List.mem_cons_self)
  rw [State.purgeClass_eq, h.queue, walk, head]
  rfl

/-- A frame that leaves the queue, whatever becomes of it. -/
theorem State.Alone.leaves (h : s.Alone e c before f after) (core : s.CoreFrame t) {v : PurgeVerdict}
    (ran : s.purgeOne e f = (v, t)) {aside : List (EndId × DataRecord)} (gone : v = .remove ∧ aside = [] ∨
      ∃ o g, v = .setAside o g ∧ aside = [(o, g)]) :
    s.purgeClass e c = (aside, t.modEnd e (EndUnit.without c before after)) := by
  have fresh : ∀ g ∈ after, g.frame.generation = t.directory.generation := by rw [core.directory]; exact h.after
  have walk : State.purgeWalk e (before ++ f :: after) s = (before ++ after, aside, t) := by
    rw [State.purgeWalk_before h.before]
    rcases gone with ⟨rfl, rfl⟩ | ⟨o, g, rfl, rfl⟩
    · rw [State.purgeWalk_remove ran, State.purgeWalk_fresh fresh]
    · rw [State.purgeWalk_setAside ran, State.purgeWalk_fresh fresh]
  have head : s.headLeaves e (before ++ f :: after) = before.isEmpty := by
    cases before with
    | nil => exact State.headLeaves_gone ran (gone.imp And.left fun ⟨o, g, aside, _⟩ => ⟨o, g, aside⟩)
    | cons g before => exact State.headLeaves_fresh (h.before g List.mem_cons_self)
  rw [State.purgeClass_eq, h.queue, walk, head]
  unfold EndUnit.rewalked EndUnit.without
  simp only [List.isEmpty_iff]

/-- With no other frame of another generation, the purge at commit is that of the frame's queue. -/
theorem State.purgeAtCommit_one (others : ∀ d b, d ≠ e ∨ b ≠ c → s.Purged d b) : s.purgeAtCommit =
    (s.purgeClass e c).1.foldl (fun s p => s.placeAside p.1 p.2) (s.purgeClass e c).2 := by
  unfold State.purgeAtCommit
  rw [State.purgeQueues_one others purgeOrder (by cases e <;> cases c <;> decide)]

/-- The purge when that frame is removed. -/
theorem State.Alone.purge_remove (h : s.Alone e c before f after) (others : ∀ d b, d ≠ e ∨ b ≠ c → s.Purged d b)
    (ran : s.purgeOne e f = (.remove, t)) : exec .commitPurge s = .next (t.modEnd e (EndUnit.without c before after)) := by
  have core := (s.purgeOne_spares e f).core
  rw [ran] at core
  have purge := State.purgeAtCommit_one others
  rw [h.leaves core ran (.inl ⟨rfl, rfl⟩)] at purge
  exact congrArg Host.Outcome.next purge

theorem State.Alone.purge_setAside (h : s.Alone e c before f after) (others : ∀ d b, d ≠ e ∨ b ≠ c → s.Purged d b)
    (ran : s.purgeOne e f = (.setAside o g, s)) :
    exec .commitPurge s = .next ((s.modEnd e (EndUnit.without c before after)).placeAside o g) := by
  have purge := State.purgeAtCommit_one others
  rw [h.leaves (.refl s) ran (.inr ⟨o, g, rfl, rfl⟩)] at purge
  exact congrArg Host.Outcome.next purge

theorem State.Alone.purge_keep (h : s.Alone e c before f after) (others : ∀ d b, d ≠ e ∨ b ≠ c → s.Purged d b)
    (ran : s.purgeOne e f = (.keep g, s)) : exec .commitPurge s =
      .next (s.modEnd e (fun u => { u with queues := u.queues.setClassQueue c (before ++ g :: after) })) := by
  have purge := State.purgeAtCommit_one others
  rw [h.keep ran] at purge
  exact congrArg Host.Outcome.next purge

/-! ## What becomes of a frame of another generation -/

theorem State.purgeOne_through (old : f.frame.generation ≠ s.directory.generation) (through : f.origin = .through) :
    s.purgeOne e f = (.remove, s.count e EndCounters.addStale) := by
  unfold State.purgeOne
  rw [if_neg old, through]

section Local

variable {lane : LaneId} {address : Address} {accepted w : Word} {tag : Tag}

theorem State.purgeOne_lost (old : f.frame.generation ≠ s.directory.generation) (origin : f.origin = .local_ lane address accepted)
    (lost : (∀ w, address ≠ .tag w) ∨ s.directory.resolve address = .unknownTag) :
    s.purgeOne e f = (.remove, s.lose .consistChanged lane) := by
  unfold State.purgeOne
  rw [if_neg old, origin]
  dsimp only
  split
  · rfl
  · rename_i isTag
    rcases lost with other | unknown
    · cases address with
      | tag w => exact absurd rfl (other w)
      | _ => exact absurd rfl isTag
    · rw [unknown]

theorem State.purgeOne_tag (old : f.frame.generation ≠ s.directory.generation)
    (origin : f.origin = .local_ lane (.tag tag) accepted) :
    (s.directory.resolve (.tag tag) = .loopback →
      s.purgeOne e f = (.remove, s.deliver (s.localEntry f.frame.cls f.frame.payload false))) ∧
    (∀ k h, s.directory.resolve (.tag tag) = .resolved k e h → s.purgeOne e f = (.keep (restamp s.directory f k h), s)) ∧
    ∀ k h, s.directory.resolve (.tag tag) = .resolved k e.other h →
      s.purgeOne e f = (.setAside e.other (restamp s.directory f k h), s) := by
  unfold State.purgeOne
  rw [if_neg old, origin]
  have other : e.other ≠ e := by cases e <;> exact nofun
  refine ⟨fun loop => ?_, fun k h here => ?_, fun k h there => ?_⟩
  · simp [Address.isTag, loop]
  · simp [Address.isTag, here]
  · simp [Address.isTag, there, other]

end Local

/-! ## Changes of an end beside a lane or a count -/

theorem State.modEnd_lose (s : State) (e : EndId) (g : EndUnit → EndUnit) (c : LossReason) (l : LaneId) :
    (s.lose c l).modEnd e g = (s.modEnd e g).lose c l := by cases e <;> cases l <;> rfl

theorem State.modEnd_deliver (s : State) (e : EndId) (g : EndUnit → EndUnit) (n : ReceiveEntry) :
    (s.deliver n).modEnd e g = (s.modEnd e g).deliver n := by
  have attached : (s.modEnd e g).anyAttached = s.anyAttached := by cases e <;> rfl
  unfold State.deliver
  rw [attached]
  split <;> cases e <;> rfl

/-- A frame set aside for the other end joins the tail there, or is lost (R119, R136). -/
theorem State.placeAside_room (admitted : (s.endUnit o).state = .admitted) (room : (s.endUnit o).queues.hasRoom g.frame.cls = true) :
    s.placeAside o g = s.modEnd o (fun u => { u with queues := u.queues.push g }) :=
  if_pos (by simp [State.admitted, admitted, room])

theorem State.placeAside_lost (refused : (s.endUnit o).state ≠ .admitted ∨ (s.endUnit o).queues.hasRoom g.frame.cls = false) :
    s.placeAside o g = s.loseRecord .consistChanged g := by
  refine if_neg ?_
  unfold State.admitted
  rw [Bool.and_eq_true, beq_iff_eq]
  rintro ⟨admitted, room⟩
  rcases refused with away | full
  · exact away admitted
  · rw [room] at full
    cases full

theorem State.loseRecord_local {lane : LaneId} {address : Address} {accepted : Word} (origin : g.origin = .local_ lane address accepted)
    (s : State) : s.loseRecord .consistChanged g = s.lose .consistChanged lane := by
  unfold State.loseRecord
  rw [origin]

/-! ## The admission decided again at commit (R86) -/

/-- Where an end's state is the one R83 decides, nothing follows. -/
theorem State.decideEnd_same (same : (s.endUnit e).state = s.endStateOf e) : s.decideEnd e false = s := by
  have state : s.modEnd e (fun u => { u with state := s.endStateOf e }) = s := State.modEnd_same (by rw [← same])
  unfold State.decideEnd
  dsimp only
  rw [state, same, if_neg (by simp), if_neg (by simp)]
  unfold State.engineEndChange
  simp

end Sys2Proof.Machine

open Sys2Proof Sys2Proof.Machine in
/-- Settles O42: the purge keeps what is of the active generation in any queue, what it makes of one other frame, and what
deciding the end states again makes of the ends. -/
theorem commitsPurgeAndReadmit : Obligations.CommitsPurgeAndReadmit := by
  refine ⟨fun s => ?_, ?_, fun s => ⟨?_, fun same1 same2 => ?_⟩⟩
  · obtain ⟨purges, purged⟩ := s.purgeAtCommit_purges
    refine ⟨_, rfl, purges.core.directory, purges.core.engine, fun e => ⟨purges.sender e, purges.control e, purges.state e,
      fun cls => ⟨fun r there => ?_, purges.stays e cls⟩⟩⟩
    exact (purged e cls r there).trans (congrArg Directory.generation purges.core.directory)
  · intro s e r before after d cls fresh queue old around others rest removed stamped
    have alone : s.Alone e cls before r after :=
      ⟨queue, fun g there => around g (List.mem_append_left _ there), fun g there => around g (List.mem_append_right _ there)⟩
    refine ⟨fun through => ?_, fun lane address accepted origin => ⟨fun gone => ?_, fun w tag =>
      ⟨fun t loop delivers => ?_, fun t h here => ?_, fun t h there => ⟨fun admitted room => ?_, fun refused => ?_⟩⟩⟩⟩
    · rw [alone.purge_remove others (State.purgeOne_through old through)]
      refine congrArg Host.Outcome.next ?_
      cases e <;> rfl
    · rw [alone.purge_remove others (State.purgeOne_lost old origin gone), State.modEnd_lose]
      rfl
    · subst tag
      rw [alone.purge_remove others ((State.purgeOne_tag old origin).1 loop), State.modEnd_deliver]
      exact congrArg Host.Outcome.next (State.delivers_deliver delivers)
    · subst tag
      rw [alone.purge_keep others ((State.purgeOne_tag old origin).2.1 t h here)]
      rfl
    · subst tag
      rw [alone.purge_setAside others ((State.purgeOne_tag old origin).2.2 t h there)]
      have unit : removed.endUnit e.other = s.endUnit e.other := State.endUnit_modEnd_other ..
      exact congrArg Host.Outcome.next (State.placeAside_room (s := removed) (by rw [unit]; exact admitted) (by rw [unit]; exact room))
    · subst tag
      rw [alone.purge_setAside others ((State.purgeOne_tag old origin).2.2 t h there)]
      have unit : removed.endUnit e.other = s.endUnit e.other := State.endUnit_modEnd_other ..
      exact congrArg Host.Outcome.next ((State.placeAside_lost (s := removed) (by rw [unit]; exact refused)).trans
        (State.loseRecord_local (g := stamped t h) origin removed))
  · refine ⟨_, rfl, ?_, fun same => ?_⟩
    · have other := ((State.EventFrame.refl .end2 (s.decideEnd .end1 false)).decideEnd (tag := false)).frame.2.1
      exact (congrArg EndUnit.state other).trans (s.decideEnd_unit .end1 false).2
    · rw [State.decideEnd_same (e := .end1) same]
      exact (s.decideEnd_unit .end2 false).2
  · exact congrArg Host.Outcome.next ((congrArg (fun s => State.decideEnd s .end2 false) (State.decideEnd_same (e := .end1) same1)).trans
      (State.decideEnd_same (e := .end2) same2))
end

section
/-! PROOF. A node that is not OFF stays out of the train, and start-up is what ends the first engagement (R65, R143, R144,
R147, R180). -/

namespace Sys2Proof.Machine

open Sys2Proof

variable {s t r : State} {u v : EndUnit} {e d : EndId} {x y : LineId} {l : LaneId} {done : Bool}

/-! ## The node out of the train -/

/-- An end held out of the train, its sender at rest. -/
def EndUnit.Rests (u : EndUnit) : Prop := u.HeldOut ∧ u.sender.IdleWithoutFrame

/-- The node held out of the train, its start-up complete or not; until it is, the bypass is ENGAGED. -/
structure State.Out (done : Bool) (s : State) : Prop where
  away : s.bypass.state ≠ .off
  ends : ∀ e, (s.endUnit e).Rests
  lanes : ∀ l, (s.lane l).sendQueue = []
  directory : s.directory = Directory.empty
  candidate : s.candidate = none
  quiet : s.engine.state = .quiet
  context : s.engine.context = none
  deadline : s.engine.deadline = none
  cause : s.engine.cause = none
  complete : s.bypass.startUpComplete = done
  engaged : done = false → s.bypass.state = .engaged

theorem State.HeldOut.out (h : s.HeldOut) (held : s.StartUpHeld) (away : s.bypass.state ≠ .off) :
    s.Out s.bypass.startUpComplete := by
  obtain ⟨idle, out⟩ := h
  obtain ⟨ends, laneA, laneB, directory, candidate, quiet, context, deadline, cause⟩ := out away
  exact ⟨away, fun e => ⟨State.everyEnd_iff.1 ends e, State.everyEnd_iff.1 idle e⟩,
    fun l => by cases l; exacts [laneA, laneB], directory, candidate, quiet, context, deadline, cause, rfl, held.2⟩

/-- A node that is OFF, or held out of the train. -/
def State.Placed (done : Bool) (s : State) : Prop :=
  s.Out done ∨ (s.bypass.state = .off ∧ s.bypass.startUpComplete = true ∧ done = true)

theorem State.Placed.heldOut (h : s.Placed done) (idle : ∀ e, (s.endUnit e).sender.IdleWithoutFrame) : s.HeldOut := by
  refine ⟨State.everyEnd_iff.2 idle, fun away => ?_⟩
  obtain ⟨-, ends, lanes, directory, candidate, quiet, context, deadline, cause, -⟩ := h.resolve_right fun off => away off.1
  exact ⟨State.everyEnd_iff.2 fun e => (ends e).1, lanes .laneA, lanes .laneB, directory, candidate, quiet, context, deadline,
    cause⟩

theorem State.Placed.complete (h : s.Placed done) : s.bypass.startUpComplete = done := by
  rcases h with out | ⟨-, complete, rfl⟩
  · exact out.complete
  · exact complete

theorem State.Placed.engaged (h : s.Placed done) (begun : s.bypass.startUpComplete = false) : s.bypass.state = .engaged := by
  rcases h with out | ⟨-, complete, -⟩
  · exact out.engaged (out.complete ▸ begun)
  · rw [complete] at begun
    cases begun

/-! ## What leaves the node out of the train -/

/-- The parts of the node that the train is not made of. -/
theorem State.Out.beside (h : s.Out done) (ends : ∀ e, (t.endUnit e).Rests) (lanes : ∀ l, (t.lane l).sendQueue = [])
    (directory : t.directory = s.directory) (candidate : t.candidate = s.candidate)
    (engine : t.engine = { s.engine with effective := t.engine.effective }) (bypass : t.bypass = s.bypass) : t.Out done where
  away := by rw [bypass]; exact h.away
  ends := ends
  lanes := lanes
  directory := directory.trans h.directory
  candidate := candidate.trans h.candidate
  quiet := by rw [engine]; exact h.quiet
  context := by rw [engine]; exact h.context
  deadline := by rw [engine]; exact h.deadline
  cause := by rw [engine]; exact h.cause
  complete := by rw [bypass]; exact h.complete
  engaged := by rw [bypass]; exact h.engaged

theorem State.Out.setBypass (h : s.Out done) {b : Bypass} (away : b.state ≠ .off)
    (complete : b.startUpComplete = s.bypass.startUpComplete) (engaged : done = false → b.state = .engaged) :
    State.Out done { s with bypass := b } where
  away := away
  ends e := by cases e; exacts [h.ends .end1, h.ends .end2]
  lanes l := by cases l; exacts [h.lanes .laneA, h.lanes .laneB]
  directory := h.directory
  candidate := h.candidate
  quiet := h.quiet
  context := h.context
  deadline := h.deadline
  cause := h.cause
  complete := complete.trans h.complete
  engaged := engaged

/-- The store, the inputs of the node, the rotation, the resolver and the votes. -/
theorem State.Out.rest (h : s.Out done) (end1 : t.end1 = s.end1) (end2 : t.end2 = s.end2) (laneA : t.laneA = s.laneA)
    (laneB : t.laneB = s.laneB) (directory : t.directory = s.directory) (candidate : t.candidate = s.candidate)
    (engine : t.engine = { s.engine with effective := t.engine.effective }) (bypass : t.bypass = s.bypass) : t.Out done :=
  h.beside (fun e => (by cases e; exacts [end1, end2] : t.endUnit e = s.endUnit e) ▸ h.ends e)
    (fun l => (by cases l; exacts [laneA, laneB] : t.lane l = s.lane l) ▸ h.lanes l) directory candidate engine bypass

theorem State.Out.modLane (h : s.Out done) {g : LanePort → LanePort} (k : (s.lane l).sendQueue = [] → (g (s.lane l)).sendQueue = []) :
    (s.modLane l g).Out done := by
  refine h.beside (fun e => by rw [State.endUnit_modLane]; exact h.ends e) (fun m => ?_) (State.directory_modLane ..)
    (State.candidate_modLane ..) (by rw [State.engine_modLane]) (State.bypass_modLane ..)
  rcases LaneId.eq_or_other l m with rfl | rfl
  · rw [State.lane_modLane_self]
    exact k (h.lanes _)
  · rw [State.lane_modLane_other]
    exact h.lanes _

theorem State.Out.raise (h : s.Out done) {n : Notice} : (s.raise n l).Out done := h.modLane fun c => by simpa using c

theorem State.Out.raiseBoth (h : s.Out done) {n : Notice} : (s.raiseBoth n).Out done := h.raise.raise

theorem State.Out.modEnd (h : s.Out done) {g : EndUnit → EndUnit} (k : (s.endUnit e).Rests → (g (s.endUnit e)).Rests) :
    (s.modEnd e g).Out done := by
  refine h.beside (fun d => ?_) (fun l => by rw [State.lane_modEnd]; exact h.lanes l) (State.directory_modEnd ..)
    (State.candidate_modEnd ..) (by rw [State.engine_modEnd]) (State.bypass_modEnd ..)
  rcases EndId.eq_or_other e d with rfl | rfl
  · rw [State.endUnit_modEnd_self]
    exact k (h.ends _)
  · rw [State.endUnit_modEnd_other]
    exact h.ends _

theorem State.Out.testRelease (h : s.Out done) : s.testRelease.Out done := by
  unfold State.testRelease
  split
  · rename_i may
    simp only [State.mayRelease, Bool.and_eq_true] at may
    obtain ⟨⟨⟨-, complete⟩, -⟩, -⟩ := may
    refine h.setBypass (by simp) rfl fun begun => ?_
    rw [h.complete, begun] at complete
    cases complete
  · exact h

theorem State.Out.topologyChange_same (h : s.Out done) : s.topologyChange = s :=
  s.topologyChange_turns.resolve_right fun acts => h.away acts.1

theorem State.Out.votesAtEngine_same (h : s.Out done) (old : Votes) : s.votesAtEngine old = s :=
  (s.votesAtEngine_turns old).resolve_right fun acts => acts.1.elim h.away fun c => c h.quiet

/-! ## The start of an engagement (R147) -/

/-- The trainers are free. -/
theorem State.engageEnd_trainer (s : State) (e : EndId) : ((s.engageEnd e).endUnit e).trainer.job = .free := by
  unfold State.engageEnd
  dsimp only
  split <;> simp only [State.endUnit_raiseBoth, State.endUnit_modEnd_self] <;> rfl

theorem State.engage_trainer (s : State) (e : EndId) : (s.engage.endUnit e).trainer.job = .free := by
  have cleared : ∀ r : State, State.endUnit { r.clearDirectory with engine := r.clearDirectory.engine.engage } e = r.endUnit e :=
    fun r => by cases e <;> rfl
  unfold State.engage
  dsimp only
  rw [cleared, (State.engageLanes_spec _).1]
  cases e with
  | end1 =>
    refine (congrArg (fun u => (EndUnit.trainer u).job) (State.endUnit_engageEnd_other _ .end2)).trans ?_
    exact State.engageEnd_trainer _ .end1
  | end2 => exact State.engageEnd_trainer _ .end2

/-- The start of an engagement puts the node out of the train. -/
theorem State.engage_out (s : State) (idle : ∀ e, (s.endUnit e).sender.IdleWithoutFrame) (complete : s.bypass.startUpComplete = true) :
    s.engage.Out true := by
  obtain ⟨bypass, directory, candidate, engine, ends, lanes⟩ := s.engages_engage
  have runs := (State.Runs.refl s).engage
  refine ⟨by rw [bypass]; exact nofun, fun e => ⟨?_, (runs.ends e).idle (idle e)⟩, fun l => ?_, directory, candidate,
    by rw [engine], by rw [engine], by rw [engine], by rw [engine], by rw [bypass]; exact complete, nofun⟩
  · obtain ⟨state, peer, receiver, frame, queues, -, lines⟩ := ends e
    exact ⟨(lines .lineA).1, (lines .lineB).1, state, peer, receiver, frame, queues, s.engage_trainer e⟩
  · have lane := lanes l
    dsimp only at lane
    rw [lane]

/-! ## A node that is OFF, or out of the train -/

theorem State.Placed.off (h : s.Placed done) (off : s.bypass.state = .off) : s.bypass.startUpComplete = true ∧ done = true := by
  rcases h with out | ⟨-, complete, begun⟩
  · exact absurd off out.away
  · exact ⟨complete, begun⟩

theorem State.Placed.out (h : s.Placed done) (away : s.bypass.state ≠ .off) : s.Out done :=
  h.resolve_right fun off => away off.1

/-- A change that leaves the bypass record, and leaves a node out of the train there. -/
theorem State.Placed.step (h : s.Placed done) (bypass : t.bypass = s.bypass) (out : s.Out done → t.Out done) : t.Placed done := by
  unfold State.Placed
  rw [bypass]
  exact h.imp_left out

theorem State.Placed.ite {p : Prop} [Decidable p] (h : s.Placed done) (k : p → t.Placed done) :
    State.Placed done (if p then t else s) := by
  split
  · exact k ‹_›
  · exact h

theorem State.Placed.modLane (h : s.Placed done) {g : LanePort → LanePort}
    (k : (s.lane l).sendQueue = [] → (g (s.lane l)).sendQueue = []) : (s.modLane l g).Placed done :=
  h.step (State.bypass_modLane ..) fun out => out.modLane k

/-- Where a node in OFF engages, it is out of the train. -/
theorem State.Placed.engages (h : s.Placed done) (off : s.bypass.state = .off) (idle : ∀ e, (s.endUnit e).sender.IdleWithoutFrame) :
    s.engage.Placed done := by
  obtain ⟨complete, rfl⟩ := h.off off
  exact .inl (s.engage_out idle complete)

theorem State.Placed.raiseBoth (h : s.Placed done) {n : Notice} : (s.raiseBoth n).Placed done :=
  h.step rfl fun out => out.raiseBoth

theorem State.Placed.testRelease (h : s.Placed done) : s.testRelease.Placed done := by
  by_cases off : s.bypass.state = .off
  · unfold State.testRelease
    rwa [if_neg (by simp [State.mayRelease, off])]
  · exact .inl (h.out off).testRelease

theorem State.Placed.latch (h : s.Placed done) (idle : ∀ e, (s.endUnit e).sender.IdleWithoutFrame) {c : LatchedCause} :
    (s.latch c).Placed done := by
  have latched : State.Placed done { s with bypass := { s.bypass with latched := c } } := by
    by_cases off : s.bypass.state = .off
    · exact .inr ⟨off, h.off off⟩
    · exact .inl ((h.out off).setBypass off rfl (h.out off).engaged)
  have idle : ∀ e, ((State.raiseBoth { s with bypass := { s.bypass with latched := c } } .bypassChange).endUnit e).sender.IdleWithoutFrame :=
    fun e => by cases e; exacts [idle .end1, idle .end2]
  unfold State.latch
  dsimp only
  split
  · exact h
  · split
    · exact latched.raiseBoth.engages ‹_› idle
    · exact latched.raiseBoth

theorem State.Placed.bypassRequestChanged (h : s.Placed done) (idle : ∀ e, (s.endUnit e).sender.IdleWithoutFrame) :
    s.bypassRequestChanged.Placed done := by
  unfold State.bypassRequestChanged
  split
  · exact h.ite fun off => h.engages off idle
  · exact h.testRelease

theorem State.Placed.votesAtEngine (h : s.Placed done) (old : Votes) : (s.votesAtEngine old).Placed done :=
  h.step (State.Beside.refl s).votesAtEngine.bypass fun out => by rwa [out.votesAtEngine_same]

theorem State.Placed.recombine (h : s.Placed done) (idle : ∀ e, (s.endUnit e).sender.IdleWithoutFrame) :
    s.recombine.Placed done := by
  have combined : State.Placed done { s with engine := { s.engine with effective := effectiveVotes s.laneA s.laneB } } :=
    h.step rfl fun out => out.rest rfl rfl rfl rfl rfl rfl rfl rfl
  refine State.Placed.votesAtEngine ?_ _
  exact combined.ite fun _ => combined.bypassRequestChanged fun e => by cases e; exacts [idle .end1, idle .end2]

end Sys2Proof.Machine
end

section
/-! PROOF. Every command leaves a node OFF, or out of the train (R65, R143, R144, R147, R180). -/

namespace Sys2Proof.Machine

open Sys2Proof

variable {s t r : State} {u v : EndUnit} {e d : EndId} {x y : LineId} {l : LaneId} {done : Bool}

/-! ## Release and start-up (R145, R149, R180) -/

theorem State.Out.idle (h : s.Out done) (e : EndId) : (s.endUnit e).sender.IdleWithoutFrame := (h.ends e).2

theorem State.Out.begun (h : s.Out done) (state : s.bypass.state ≠ .engaged) : done = true := by
  cases done with
  | true => rfl
  | false => exact absurd (h.engaged rfl) state

/-- The end of a release, by what holds then (R149). -/
theorem State.Out.releaseEnded (h : s.Out done) (releasing : s.bypass.state = .releasing) : s.releaseEnded.Placed done := by
  obtain rfl := h.begun (by rw [releasing]; exact nofun)
  unfold State.releaseEnded
  split
  · exact .inl (s.engage_out h.idle h.complete)
  · have held : s.HeldOut := State.Placed.heldOut (.inl h) h.idle
    obtain ⟨r, off, -, bypass, -⟩ := State.enterOff_held held h.away
    obtain ⟨-, -, -, -, -, -, same, -⟩ := ((State.EngineFrame.refl r).topologyChange).rest
    refine .inr ?_
    rw [off, same, bypass]
    exact ⟨rfl, h.complete, rfl⟩

/-- The end of start-up, which the node spends ENGAGED (R143, R180). -/
theorem State.Out.startUp (h : s.Out false) : s.startUp.Out true := by
  have loaded : State.Out false { s with store := s.store.afterLoad } := h.rest rfl rfl rfl rfl rfl rfl rfl rfl
  have told : ∀ {p : Prop} [Decidable p] {q : State}, q.Out false → State.Out false (if p then q.raiseBoth .settingsDefaulted else q) :=
    fun k => by
      split
      · exact k.raiseBoth
      · exact k
  have checked : ∀ {q : State}, q.Out false → State.Out false (if q.store.tagValid then q else q.latch .integrityTag) := fun {q} k => by
    split
    · exact k
    · exact (State.Placed.latch (.inl k) k.idle).resolve_right fun off => Bool.noConfusion off.2.2
  have complete : ∀ {q : State}, q.Out false → State.Out true { q with bypass := { q.bypass with
      startUpComplete := true, scrubTimer := some Config.scrubPeriod } } := fun k =>
    ⟨k.away, fun e => by cases e; exacts [k.ends .end1, k.ends .end2], fun l => by cases l; exacts [k.lanes .laneA, k.lanes .laneB],
      k.directory, k.candidate, k.quiet, k.context, k.deadline, k.cause, rfl, nofun⟩
  exact (complete (checked (told loaded))).testRelease

/-! ## Events at an end out of the train -/

theorem EndUnit.Rests.dark (h : u.Rests) (x : LineId) : (u.line x).state = .dark := by
  obtain ⟨⟨darkA, darkB, -⟩, -⟩ := h
  cases x
  · exact darkA
  · exact darkB

theorem EndUnit.Rests.sender (h : u.Rests) : u.sender.state = .idle ∧ u.sender.waitsHold = false := by
  obtain ⟨⟨-, -, -, -, -, frame, -⟩, idle⟩ := h
  exact idle frame

theorem EndUnit.Rests.modLine (h : u.Rests) {g : LineUnit → LineUnit} (state : (g (u.line x)).state = (u.line x).state) :
    (u.modLine x g).Rests := by
  obtain ⟨⟨darkA, darkB, rest⟩, idle⟩ := h
  cases x
  · exact ⟨⟨state.trans darkA, darkB, rest⟩, idle⟩
  · exact ⟨⟨darkA, state.trans darkB, rest⟩, idle⟩

theorem EndUnit.Rests.free (h : u.Rests) : u.trainer.job = .free ∧ u.state = .opened ∧ u.queues = EndQueues.empty := by
  obtain ⟨⟨-, -, state, -, -, -, queues, job⟩, -⟩ := h
  exact ⟨job, state, queues⟩

theorem LineUnit.serve_state (n : LineUnit) (b : LineFrame) (k : Sender) : (n.serve b k).state = n.state := by
  rw [LineUnit.serve_rest]

theorem EndUnit.Rests.holdEnded (h : u.Rests) (b : LineFrame) (x : LineId) : (u.holdEnded b x).Rests := by
  rw [EndUnit.holdEnded_serves (.inl h.sender.2)]
  exact h.modLine (LineUnit.serve_state ..)

theorem EndUnit.Rests.endTransmission (h : u.Rests) (b : LineFrame) (x : LineId) : (u.endTransmission b x).Rests := by
  by_cases none : (u.line x).tx.sending.isNone = true
  · rwa [EndUnit.endTransmission_idle none]
  · rw [EndUnit.endTransmission_sent none]
    have cut : (u.modLine x (fun n => { n with tx := n.tx.cut })).Rests := h.modLine rfl
    refine EndUnit.Rests.modLine ?_ (LineUnit.serve_state ..)
    cases (u.line x).tx.holdAfter with
    | none => exact cut
    | some y => exact cut.modLine rfl

theorem EndUnit.Rests.trainerTakes (h : u.Rests) : u.trainerTakes = u := by
  have waits : ∀ x, (u.line x).waitsForTrainer = false := fun x => by simp [LineUnit.waitsForTrainer, h.dark x]
  have waitsA : u.lineA.waitsForTrainer = false := waits .lineA
  have waitsB : u.lineB.waitsForTrainer = false := waits .lineB
  unfold EndUnit.trainerTakes
  rw [if_neg (not_not.2 h.free.1), if_neg (by simp [waitsA]), if_neg (by simp [waitsB])]

theorem EndUnit.Rests.inactive (h : u.Rests) (x : LineId) : (u.line x).isActive = false := by
  simp [LineUnit.isActive, h.dark x]

theorem EndUnit.Rests.anyActive (h : u.Rests) : u.anyActive = false := by
  have inactiveA : u.lineA.isActive = false := h.inactive .lineA
  have inactiveB : u.lineB.isActive = false := h.inactive .lineB
  simp [EndUnit.anyActive, inactiveA, inactiveB]

variable {c : Instr}

theorem State.Out.line (h : s.Out done) (e : EndId) (x : LineId) : (s.line e x).state = .dark := (h.ends e).dark x

/-- No frame arrives at a node out of the train. -/
theorem State.Out.arrive (h : s.Out done) {kind : Byte} {f : RawFrame} {valid : State → State} : s.arrive e x kind f valid = s :=
  State.arrive_inactive valid (by rw [h.line]; exact nofun)

/-- Events of the ends leave the node out of the train there. -/
theorem State.Out.endEvent (h : s.Out done) (at_ : endOf c = some e) : ∃ t, exec c s = .next t ∧ t.Out done := by
  have same : ∀ {c : Instr}, exec c s = .next s → ∃ t, exec c s = .next t ∧ t.Out done := fun runs => ⟨s, runs, h⟩
  have away : s.bypass.state ≠ .off := h.away
  have heard : ∀ {x kind f valid}, (.next (s.arrive e x kind f valid) : Host.Outcome State Fault Refusal) = .next s := fun {_ _ _ _} =>
    congrArg Host.Outcome.next h.arrive
  have rests := h.ends e
  have not_ : ∀ {p : Prop} [Decidable p] {t : State}, ¬ p → (.next (if p then t else s) : Host.Outcome State Fault Refusal) = .next s :=
    fun {_ _ _} no => congrArg Host.Outcome.next (if_neg no)
  cases c
  all_goals cases at_
  case couplerSenseChange coupled =>
    refine ⟨_, rfl, ?_⟩
    unfold State.senseChange
    split
    · exact h
    · dsimp only
      rw [if_pos (by simpa using away)]
      exact h.modEnd id
  case carrierChange x present =>
    refine ⟨_, rfl, ?_⟩
    unfold State.carrierChange
    split
    · exact h
    · dsimp only
      rw [if_pos (by simpa using away)]
      exact h.modEnd fun k => k.modLine rfl
  case settleTimerExpiry x => exact same (not_ (by simp [LineUnit.settles, h.line]))
  case fullSweepStart => exact same (congrArg Host.Outcome.next (State.modEnd_same rests.trainerTakes))
  case fullSweepEnd runs =>
    refine ⟨_, rfl, ?_⟩
    rw [rests.free.1]
    exact h
  case trainingPauseEnd x => exact same (not_ (by simp [h.line]))
  case silenceTimerExpiry x => exact same (not_ (by simp [LineUnit.isActive, h.line]))
  case recentreSweepEnd runs =>
    refine ⟨_, rfl, ?_⟩
    rw [rests.free.1]
    exact h
  case patternHoldEnd x =>
    refine ⟨_, rfl, ?_⟩
    split
    · rw [State.holdEnded_eq]
      exact h.modEnd fun k => k.holdEnded _ _
    · exact h
  case beaconDue x => exact same (not_ (by simp [LineUnit.isActive, h.line]))
  case transmissionEnd x =>
    refine ⟨_, rfl, ?_⟩
    rw [State.endTransmission_eq]
    exact h.modEnd fun k => k.endTransmission _ _
  case unknownFrameKind => exact same heard
  case beacon => exact same heard
  case patternRequest => exact same heard
  case alert => exact same heard
  case tally => exact same heard
  case closure => exact same heard
  case commit => exact same heard
  case dissent => exact same heard
  case defer => exact same heard
  case accept => exact same heard
  case hold => exact same heard
  case refuse => exact same heard
  case replyTimeout => exact same (not_ (by simp [State.replyMayTimeOut, Sender.timesReply, rests.sender.1]))
  case holdWaitEnd => exact same (not_ (by simp [Sender.timesHold, rests.sender.1]))
  case pendingSend => exact same (not_ (by simp [rests.sender.1]))
  case arbiterOffer =>
    exact same (congrArg Host.Outcome.next (State.offerFrame_stays (.inr (.inl rests.anyActive))))

/-! ## The switch of a node out of the train -/

theorem State.Out.noRecords (h : s.Out done) (e : EndId) (c : TrafficClass) : (s.endUnit e).queues.classQueue c = [] := by
  rw [(h.ends e).free.2.2]
  cases c <;> rfl

/-- There is nothing to purge. -/
theorem State.Out.purgeAtCommit (h : s.Out done) : s.purgeAtCommit = s := by
  unfold State.purgeAtCommit
  rw [State.purgeQueues_purged fun e c g there => by rw [h.noRecords e c] at there; cases there]
  rfl

/-- The end states stay OPEN. -/
theorem State.Out.decideEnd (h : s.Out done) (e : EndId) : s.decideEnd e false = s := by
  refine State.decideEnd_same ?_
  rw [State.endStateOf, (h.ends e).free.2.1]
  exact (if_pos h.away).symm

theorem State.Out.examineHead (h : s.Out done) (l : LaneId) : s.examineHead l = (false, s) := by
  unfold State.examineHead
  rw [h.lanes l]

theorem State.Out.resolverOpportunity (h : s.Out done) : s.resolverOpportunity = s := by
  unfold State.resolverOpportunity
  simp only [h.examineHead]

/-- A message finds no directory, and joins no queue. -/
theorem State.Out.judgeSend (h : s.Out done) (l : LaneId) (m : Message) : (s.judgeSend l m).2 = s := by
  unfold State.judgeSend
  rw [h.directory]
  cases m.address <;> rfl

/-- A turn finds no line to recentre. -/
theorem State.Out.recentreTurn (h : s.Out done) : s.recentreTurn.Out done := by
  have turned : State.Out done { s with rotation := nextTurn s.rotation, recentreTimer := some Config.recentrePeriod } :=
    h.rest rfl rfl rfl rfl rfl rfl rfl rfl
  unfold State.recentreTurn
  dsimp only
  rw [if_neg]
  · exact turned
  · simp [EndUnit.mayRecentre, LineUnit.recentrable, (turned.ends _).inactive]

/-! ## What leaves the bypass record -/

theorem State.EndFrame.bypass (h : State.EndFrame e s t) : t.bypass = s.bypass := by
  obtain ⟨-, -, -, -, -, -, bypass, -⟩ := h.rest
  exact bypass

theorem State.EngineFrame.bypass (h : s.EngineFrame t) : t.bypass = s.bypass := by
  obtain ⟨-, -, -, -, -, -, bypass, -⟩ := h.rest
  exact bypass

theorem State.recentreTurn_bypass (s : State) : s.recentreTurn.bypass = s.bypass := by
  have starts : ∀ (q : State) e x, (q.startRecentre e x).bypass = q.bypass := fun q e x => by
    have asked := ((State.EngineFrame.refl (q.modLine e x (fun n => { n with recentre := .requested }))).sendControl
      (e := e) (f := .patternRequest x true)).bypass
    rw [State.bypass_modLine] at asked
    unfold State.startRecentre
    dsimp only
    split
    · exact asked
    · rw [State.bypass_modEnd, asked]
  unfold State.recentreTurn
  dsimp only
  split
  · exact starts _ _ _
  · rfl

theorem State.examineArrival_bypass {bit : Bool} {f : DataFrame} : (s.examineArrival e x bit f).bypass = s.bypass := by
  have earns : ∀ (q : State) a, (q.earn e x a).bypass = q.bypass := fun q a => (State.EndFrame.refl e q).earn.bypass
  unfold State.examineArrival
  split
  · exact earns _ _
  split
  · rw [earns, State.bypass_count]
  split
  · rename_i r taken
    rw [earns, (State.examineData_beside taken).bypass]
  · exact earns _ _

theorem State.takeAwaiting_bypass {β : Type} {f : RawFrame} {decode : List Byte → Option β} {handle : β → State → State}
    (handles : ∀ b, (handle b s).bypass = s.bypass) : (s.takeAwaiting e x f decode handle).bypass = s.bypass := by
  have fresh : State.bypass (match decode f.body with
      | none => s.earn e x (.plain (frameBit f) (.refuse .malformed))
      | some b => handle b s) = s.bypass := by
    split
    · exact (State.EndFrame.refl e s).earn.bypass
    · exact handles _
  unfold State.takeAwaiting
  dsimp only
  split
  · exact fresh
  · split
    · exact (State.EndFrame.refl e s).answer.bypass
    · exact fresh

theorem exec_data_bypass {f : RawFrame} (h : exec (.data e x f) s = .next t) : t.bypass = s.bypass := by
  obtain rfl := Host.Outcome.next.inj h
  unfold State.arrive
  split
  · rfl
  split
  · exact State.bypass_modLine ..
  · exact (State.takeAwaiting_bypass fun _ => State.examineArrival_bypass).trans (State.bypass_modLine ..)

/-! ## Requests (chapter 9) -/

theorem State.Placed.handleKind (h : s.Placed done) {is : Byte → Bool} {f : List Byte → Reply × State}
    (k : ∀ body, (f body).2.Placed done) : (s.handleKind l is f).Placed done := by
  unfold State.handleKind
  split
  · split
    · exact (k _).modLane id
    · exact h
  · exact h
  · exact h

theorem State.Placed.handleAttached (h : s.Placed done) {code : Byte} {f : List Byte → Reply × State}
    (k : ∀ body, (f body).2.Placed done) : (s.handleAttached l code f).Placed done := by
  refine h.handleKind fun body => ?_
  split
  · exact k body
  · exact h

theorem State.Placed.noBody (h : s.Placed done) {p : Reply × State} (k : p.2.Placed done) (body : List Byte) :
    (Machine.noBody s p body).2.Placed done := by
  unfold Machine.noBody
  split
  · exact k
  · exact h

theorem State.Placed.withBody (h : s.Placed done) {β : Type} {decode : List Byte → Option β} {f : β → Reply × State}
    (k : ∀ b, (f b).2.Placed done) (body : List Byte) : (Machine.withBody s decode f body).2.Placed done := by
  unfold Machine.withBody
  split
  · exact k _
  · exact h

theorem State.Placed.setStore (h : s.Placed done) {w : Store} : State.Placed done { s with store := w } :=
  h.step rfl fun out => out.rest rfl rfl rfl rfl rfl rfl rfl rfl

theorem State.Placed.storeDone (h : s.Placed done) : s.storeDone.Placed done := by
  have done_ : State.Placed done { s with store := { s.store with activity := .idle, writingLane := none, operation := none } } :=
    h.setStore
  unfold State.storeDone
  dsimp only
  split
  · exact done_.step (State.bypass_raise ..) fun out => out.raise
  · exact done_

theorem State.Placed.recombines (h : s.Placed done) (idle : ∀ e, (s.endUnit e).sender.IdleWithoutFrame) {g : LanePort → LanePort}
    (k : (s.lane l).sendQueue = [] → (g (s.lane l)).sendQueue = []) : (s.modLane l g).recombine.Placed done :=
  (h.modLane k).recombine fun e => by rw [State.endUnit_modLane]; exact idle e

theorem State.Placed.topologyChange (h : s.Placed done) : s.topologyChange.Placed done :=
  h.step (State.EngineFrame.refl s).topologyChange.bypass fun out => by rwa [out.topologyChange_same]

theorem State.Placed.retrainLine (h : s.Placed done) (e : EndId) (x : LineId) : (s.retrainLine e x).Placed done := by
  refine h.step ?_ fun out => ?_
  · unfold State.retrainLine
    split
    · obtain ⟨-, -, -, -, -, -, bypass, -⟩ := (State.EventFrame.refl e (s.modLine e x (LineUnit.enterSettling s.settleTime true))).afterLines.frame.1
      rw [bypass, State.bypass_modLine]
    · rfl
  · unfold State.retrainLine
    rwa [if_neg (by simp [out.line])]

theorem LanePort.sendQueue_transact (p : LanePort) (pending : Bool) (bytes : List Byte) :
    (p.transact pending bytes).sendQueue = p.sendQueue := by
  unfold LanePort.transact LanePort.examineRequest
  dsimp only
  split
  · rfl
  · split
    · rfl
    · split <;> simp

theorem State.Placed.writeSetting (h : s.Placed done) (l : LaneId) (w : SettingWrite) : (s.writeSetting l w).2.Placed done := by
  unfold State.writeSetting
  split
  · exact h
  split
  · exact h
  split
  · exact h
  · exact h.setStore

theorem State.Placed.lockCommissioning (h : s.Placed done) (l : LaneId) : (s.lockCommissioning l).2.Placed done := by
  unfold State.lockCommissioning
  split
  · exact h
  split
  · exact h
  split
  · exact h
  · exact h.setStore

/-! ## The commands -/

/-- An event at one end leaves the bypass record. -/
theorem State.Placed.endEvent (h : s.Placed done) (at_ : endOf c = some e) (runs : exec c s = .next t) : t.Placed done := by
  obtain ⟨-, -, -, -, -, -, bypass, -⟩ := (exec_endEventFrame at_ runs).1
  refine h.step bypass fun out => ?_
  obtain ⟨r, next, gone⟩ := out.endEvent at_
  rwa [← Host.Outcome.next.inj (next.symm.trans runs)]

/-- Every command but the resets and the end of start-up leaves the node OFF, or out of the train. -/
theorem exec_placed (h : s.Placed done) (idle : ∀ e, (s.endUnit e).sender.IdleWithoutFrame) (c : Instr)
    (runs : exec c s = .next t) : c = .powerOn ∨ c = .nodeReset ∨ c = .startUpComplete ∨ t.Placed done := by
  have placed : ∀ {r : State}, exec c s = .next r → r.Placed done →
      c = .powerOn ∨ c = .nodeReset ∨ c = .startUpComplete ∨ t.Placed done := fun next k =>
    .inr (.inr (.inr (Host.Outcome.next.inj (next.symm.trans runs) ▸ k)))
  cases at_ : endOf c with
  | some e => exact .inr (.inr (.inr (h.endEvent at_ runs)))
  | none =>
    cases c with
    | powerOn => exact .inl rfl
    | nodeReset => exact .inr (.inl rfl)
    | startUpComplete => exact .inr (.inr (.inl rfl))
    | nodeResetRelease => exact placed rfl (h.step rfl fun out => out.rest rfl rfl rfl rfl rfl rfl rfl rfl)
    | laneReset l => exact placed rfl (h.recombines idle fun _ => rfl)
    | laneResetRelease l => exact placed rfl (h.modLane id)
    | recentreTurn => exact placed rfl (h.ite fun _ => h.step s.recentreTurn_bypass fun out => out.recentreTurn)
    | commitPurge => exact placed rfl (h.step s.purgeAtCommit_beside.bypass fun out => by rwa [out.purgeAtCommit])
    | admissionAtCommit =>
      refine placed rfl (h.step (State.Beside.refl s).decideEnd.decideEnd.bypass fun out => ?_)
      rwa [out.decideEnd, out.decideEnd]
    | data e x f =>
      refine placed runs (h.step (exec_data_bypass runs) fun out => ?_)
      rwa [← Host.Outcome.next.inj ((congrArg Host.Outcome.next out.arrive.symm).trans runs)]
    | resolverExamination =>
      exact placed rfl (h.step s.resolverOpportunity_beside.bypass fun out => by rwa [out.resolverOpportunity])
    | deadlineExpiry =>
      refine placed rfl (h.ite fun due => h.step (State.EngineFrame.refl s).deadlineExpired.bypass fun out => ?_)
      rw [out.deadline] at due
      cases due
    | releaseEnd => exact placed rfl (h.ite fun ends => (h.out (by rw [ends.1]; exact nofun)).releaseEnded ends.1)
    | engageEnd =>
      refine placed rfl (h.ite fun ends => ?_)
      have out := h.out (by rw [ends.1]; exact nofun)
      exact .inl ((out.setBypass (b := { s.bypass with state := .engaged, transition := none }) nofun rfl fun _ => rfl).testRelease)
    | scrub =>
      refine placed rfl (h.ite fun _ => ?_)
      unfold State.scrubbed
      split
      · exact h.latch idle
      · exact h.ite fun _ => h.latch idle
    | writeComplete => exact placed rfl (h.ite fun _ => h.setStore.storeDone)
    | lockComplete => exact placed rfl (h.ite fun _ => h.setStore.storeDone)
    | laneTransaction l span bytes =>
      refine placed rfl ?_
      split
      · exact h
      · exact h.modLane fun empty => (LanePort.sendQueue_transact ..).trans empty
    | unknownRequest l => exact placed rfl (h.handleKind fun _ => h)
    | null l => exact placed rfl (h.handleKind (h.noBody h))
    | attach l =>
      refine placed rfl (h.handleKind (h.noBody ?_))
      dsimp only
      unfold State.attachLane
      split
      · exact h
      · exact h.recombines idle id
    | detach l => exact placed rfl (h.handleKind (h.noBody (h.ite fun _ => h.recombines idle fun _ => rfl)))
    | setVotes l => exact placed rfl (h.handleAttached (h.withBody fun _ => h.recombines idle id))
    | send l =>
      refine placed rfl (h.handleAttached (h.withBody fun m => ?_))
      exact h.step (s.judgeSend_beside l m).bypass fun out => by
        dsimp only
        rwa [out.judgeSend]
    | fetch l =>
      refine placed rfl (h.handleAttached (h.noBody ?_))
      unfold State.fetchEntry
      split
      · exact h
      · dsimp only
        exact h.modLane id
    | readDirectory l => exact placed rfl (h.handleKind (h.withBody fun _ => h))
    | readLines l => exact placed rfl (h.handleKind (h.withBody fun _ => h))
    | readSetting l => exact placed rfl (h.handleKind (h.withBody fun _ => h))
    | readNode l => exact placed rfl (h.handleKind (h.noBody h))
    | readCounters l => exact placed rfl (h.handleKind (h.noBody h))
    | readNotices l => exact placed rfl (h.handleKind (h.noBody h))
    | clearNotices l => exact placed rfl (h.handleKind (h.withBody fun _ => h.modLane id))
    | setMask l =>
      refine placed rfl (h.handleKind (h.withBody fun _ => ?_))
      dsimp only
      exact h.modLane id
    | startInauguration l =>
      refine placed rfl (h.handleAttached (h.noBody ?_))
      unfold State.startInauguration
      split
      · exact h
      · exact h.topologyChange
    | retrainLine l => exact placed rfl (h.handleAttached (h.withBody fun p => h.retrainLine p.1 p.2))
    | writeSetting l => exact placed rfl (h.handleAttached (h.withBody fun w => h.writeSetting l w))
    | lockCommissioning l => exact placed rfl (h.handleAttached (h.noBody (h.lockCommissioning l)))
    | _ => cases at_

/-! ## The invariant -/

theorem State.HeldOut.placed (h : s.HeldOut) (held : s.StartUpHeld) : s.Placed s.bypass.startUpComplete := by
  by_cases off : s.bypass.state = .off
  · have complete : s.bypass.startUpComplete = true := by
      by_contra begun
      rw [held.2 (eq_false_of_ne_true begun)] at off
      cases off
    exact .inr ⟨off, complete, complete⟩
  · exact .inl (h.out held off)

/-- Where the node is placed and its senders without a frame are IDLE, both invariants hold. -/
theorem State.Placed.kept (h : s.Placed done) (idle : ∀ e, (s.endUnit e).sender.IdleWithoutFrame)
    (loading : s.store.activity = .loading → done = false) : s.HeldOut ∧ s.StartUpHeld :=
  ⟨h.heldOut idle, fun loads => h.complete.trans (loading loads), h.engaged⟩

/-- The node right after a reset. -/
theorem State.resetBlocks_out (s : State) (cause : ResetCause) : (s.resetBlocks cause).Out false := by
  have rests : ∀ sense a b, (EndUnit.reset sense a b).Rests := fun _ _ _ => ⟨⟨rfl, rfl, rfl, rfl, rfl, rfl, rfl, rfl⟩, fun _ => ⟨rfl, rfl⟩⟩
  exact ⟨nofun, fun e => by cases e <;> exact rests .., fun l => by cases l <;> rfl, rfl, rfl, rfl, rfl, rfl, rfl, rfl, fun _ => rfl⟩

theorem exec_idle (h : exec c s = .next t) (idle : ∀ e, (s.endUnit e).sender.IdleWithoutFrame) (e : EndId) :
    (t.endUnit e).sender.IdleWithoutFrame := by
  rcases (exec_ends h).2 with resets | ⟨wmin, -, ends⟩
  · obtain ⟨sense, a, b, reset⟩ := resets e
    rw [reset]
    exact fun _ => ⟨rfl, rfl⟩
  · obtain ⟨u, moved, retains⟩ := ends e
    exact retains.idle (by rw [moved.sender]; exact idle e)

theorem State.startUp_idle (s : State) : s.startUp.store.activity ≠ .loading := by
  intro loads
  have idle : (State.store { s with store := s.store.afterLoad }).activity = .loading := by
    rcases s.startUp_cases with core | down
    · exact core.loading loads
    · exact down.loading loads
  cases idle

/-- What a command makes of a node that is OFF, or held out of the train. -/
theorem exec_heldOut (h : s.HeldOut) (held : s.StartUpHeld) (runs : exec c s = .next t) : t.HeldOut ∧ t.StartUpHeld := by
  have placed := h.placed held
  have idle := State.everyEnd_iff.1 h.1
  have idle' := exec_idle runs idle
  by_cases power : c = .powerOn
  · subst power
    obtain rfl := Host.Outcome.next.inj runs
    exact State.Placed.kept (.inl (s.resetBlocks_out .powerOn)) idle' fun _ => rfl
  by_cases reset : c = .nodeReset
  · subst reset
    obtain rfl := Host.Outcome.next.inj runs
    exact State.Placed.kept (.inl ((s.resetBlocks_out .nodeReset).rest rfl rfl rfl rfl rfl rfl rfl rfl)) idle' fun _ => rfl
  by_cases start : c = .startUpComplete
  · subst start
    obtain rfl := Host.Outcome.next.inj runs
    split at idle'
    · rename_i loads
      rw [if_pos loads]
      have begun := held.1 (by simpa using (Bool.and_eq_true_iff.1 loads).2)
      have out : s.Out false := begun ▸ placed.out (by rw [held.2 begun]; exact nofun)
      exact State.Placed.kept (.inl out.startUp) idle' fun loading => absurd loading s.startUp_idle
    · rename_i stays
      rw [if_neg stays]
      exact ⟨h, held⟩
  obtain ⟨r, next, cases_⟩ := exec_passes c s
  obtain rfl := Host.Outcome.next.inj (runs.symm.trans next)
  have passes := ((cases_.resolve_left power).resolve_left reset).resolve_left start
  have placed' := (((exec_placed placed idle c runs).resolve_left power).resolve_left reset).resolve_left start
  exact placed'.kept idle' fun loading => held.1 (passes.loading loading)

end Sys2Proof.Machine

open Sys2Proof Sys2Proof.Machine in
/-- Settles O11: every command leaves the node OFF or out of the train, and only the end of start-up ends the first engagement. -/
theorem heldOutKeptByStep : Obligations.HeldOutKeptByStep := by
  intro s t out held runs
  rcases step_cases runs with rfl | ⟨c, rest, runs⟩
  · exact ⟨out, held⟩
  · exact exec_heldOut (s := { s with pending := rest }) out held runs
end

section
/-! PROOF. What the operations of an end make of the fields of its sender (R94 to R101): each keeps them together. -/

namespace Sys2Proof.Machine

open Sys2Proof

variable {u v : EndUnit} {n : Sender} {x : LineId} {b : LineFrame} {o : FrameOutcome} {f : HeldFrame}

/-! ## Sends (R94, R97, R99) -/

/-- A sender whose frame may be sent once more on its line. -/
structure Sender.MaySend (n : Sender) : Prop where
  held : n.frame ≠ none
  sends : n.sends ≤ 2
  holds : n.holds < 2000

theorem Sender.Kept.held (h : n.Kept) (busy : n.state ≠ .idle) : n.frame ≠ none ∧ n.holds < 2000 := by
  obtain ⟨frame, -, -, -, -, -, -, holds⟩ := h
  exact ⟨fun none => busy (frame.1 none), holds busy⟩

/-- A frame that has not been sent since it was taken, or since its last HOLD. -/
theorem Sender.Kept.unsent (h : n.Kept) (state : n.state = .pending ∨ n.state = .backing) : n.sends = 0 ∧ n.MaySend := by
  obtain ⟨held, holds⟩ := h.held (by rcases state with c | c <;> rw [c] <;> decide)
  obtain ⟨-, -, -, -, none_, -⟩ := h
  have sends := none_ state
  exact ⟨sends, held, by omega, holds⟩

theorem Sender.Kept.waiting (h : n.Kept) (waits : n.waitsHold = true) : n.MaySend := by
  obtain ⟨-, -, -, waiting, -⟩ := id h
  obtain ⟨awaiting, sends⟩ := waiting waits
  obtain ⟨held, holds⟩ := h.held (by rw [awaiting]; decide)
  exact ⟨held, sends, holds⟩

theorem Sender.MaySend.sending (h : n.MaySend) : n.sending.Kept := by
  obtain ⟨held, sends, holds⟩ := h
  refine ⟨⟨fun c => absurd c held, nofun⟩, ⟨fun _ => ⟨rfl, rfl⟩, fun _ => rfl⟩, ⟨nofun, nofun⟩, nofun, ?_,
    Nat.succ_le_succ sends, Nat.le_of_lt holds, fun _ => holds⟩
  rintro (c | c) <;> cases c

/-- A send that waits for the hold of its line (log 15). -/
theorem Sender.MaySend.waits (h : n.MaySend) :
    Sender.Kept { n with state := .awaiting, timer := .stopped, waitsHold := true } := by
  obtain ⟨held, sends, holds⟩ := h
  refine ⟨⟨fun c => absurd c held, nofun⟩, ⟨nofun, nofun⟩, ⟨nofun, nofun⟩, fun _ => ⟨rfl, sends⟩, ?_,
    Nat.le_succ_of_le sends, Nat.le_of_lt holds, fun _ => holds⟩
  rintro (c | c) <;> cases c

theorem EndUnit.sendHeld_senderKept (h : u.sender.MaySend) : (u.sendHeld b).sender.Kept := by
  rcases u.sendHeld_sender_cases (b := b) with c | c <;> rw [c]
  · exact h.sending
  · exact h.waits

/-- The first send of a frame, or its wait for a line. -/
theorem EndUnit.firstSend_senderKept (h : u.sender.MaySend) (sends : u.sender.sends = 0) (timer : u.sender.timer = .stopped)
    (waits : u.sender.waitsHold = false) : (u.firstSend b).sender.Kept := by
  unfold EndUnit.firstSend
  split
  · exact EndUnit.sendHeld_senderKept ⟨h.held, h.sends, h.holds⟩
  · refine ⟨⟨fun c => absurd c h.held, nofun⟩, ?_, ?_, fun c => ?_, fun _ => sends, Nat.le_succ_of_le h.sends,
      Nat.le_of_lt h.holds, fun _ => h.holds⟩
    · dsimp only
      rw [timer]
      exact ⟨nofun, nofun⟩
    · dsimp only
      rw [timer]
      exact ⟨nofun, nofun⟩
    · exact absurd (waits.symm.trans c) (by decide)

theorem EndUnit.takeFrame_senderKept (u : EndUnit) : (u.takeFrame b f).sender.Kept :=
  EndUnit.firstSend_senderKept ⟨nofun, Nat.zero_le _, Nat.succ_pos _⟩ rfl rfl rfl

/-- A PENDING frame that finds a line, or waits on. -/
theorem EndUnit.firstSend_pending_senderKept (h : u.sender.Kept) (pending : u.sender.state = .pending) :
    (u.firstSend b).sender.Kept := by
  obtain ⟨sends, may⟩ := h.unsent (.inl pending)
  obtain ⟨-, reply, hold, waits, -⟩ := h
  refine EndUnit.firstSend_senderKept may sends ?_ ?_
  · cases timer : u.sender.timer with
    | stopped => rfl
    | reply => exact absurd (pending.symm.trans (reply.1 timer).1) (by decide)
    | holdWait => exact absurd (pending.symm.trans (hold.1 timer)) (by decide)
  · exact eq_false_of_ne_true fun c => absurd (pending.symm.trans (waits c).1) (by decide)

theorem EndUnit.moveFrame_senderKept (held : u.sender.frame ≠ none) (holds : u.sender.holds < 2000) :
    (u.moveFrame b).sender.Kept := EndUnit.sendHeld_senderKept ⟨held, Nat.zero_le _, holds⟩

/-! ## Recentres and outcomes (R78, R95) -/

/-- What leaves all of the sender but for the mark of a PATTERN-REQUEST it holds. -/
theorem EndUnit.KeepsTraffic.senderKept (h : u.KeepsTraffic v) (kept : u.sender.Kept) : v.sender.Kept := by
  unfold Sender.Kept
  rw [h.frame, h.sender]
  exact kept

/-- The outcome of a held frame, whatever the sender was doing with it. -/
theorem EndUnit.endFrame_senderKept_of_held (held : u.sender.frame ≠ none) (sends : u.sender.sends ≤ 3)
    (holds : u.sender.holds ≤ 2000) : (u.endFrame o).sender.Kept := by
  cases frame : u.sender.frame with
  | none => exact absurd frame held
  | some f =>
    rw [EndUnit.endFrame_some frame]
    have idle : (u.senderIdle o).sender.Kept := by
      refine ⟨⟨fun _ => rfl, fun _ => rfl⟩, ⟨nofun, nofun⟩, ⟨nofun, nofun⟩, nofun, ?_, sends, holds, fun c => absurd rfl c⟩
      rintro (c | c) <;> cases c
    change ((u.senderIdle o).reportRecentre o f).sender.Kept
    rcases (u.senderIdle o).reportRecentre_cases o f with c | ⟨x, c | c⟩ <;> rw [c]
    · exact idle
    · rwa [EndUnit.startRecentreSweep_sender]
    · exact (EndUnit.Eases.refl _).abandonRecentre.senderKept idle

theorem EndUnit.endFrame_senderKept (h : u.sender.Kept) : (u.endFrame o).sender.Kept := by
  by_cases frame : u.sender.frame = none
  · rwa [EndUnit.endFrame_none frame]
  · obtain ⟨-, -, -, -, -, sends, holds, -⟩ := h
    exact EndUnit.endFrame_senderKept_of_held frame sends holds

/-- What the sender makes of changed lines (R101). -/
theorem EndUnit.senderAfterLines_senderKept (h : u.sender.Kept) : (u.senderAfterLines b).sender.Kept := by
  unfold EndUnit.senderAfterLines
  split
  · exact EndUnit.endFrame_senderKept h
  · split
    · rename_i left
      have busy : u.sender.state ≠ .idle := fun idle => by
        rw [idle] at left
        cases left
      split
      · exact EndUnit.endFrame_senderKept h
      · exact EndUnit.moveFrame_senderKept (h.held busy).1 (h.held busy).2
    · exact h

/-! ## Replies, holds and transmissions (R79, R99, R104) -/

theorem EndUnit.holdFollows_sender (u : EndUnit) (hold : Option LineId) : (u.holdFollows hold).sender = u.sender := by
  cases hold with
  | none => rfl
  | some y => exact EndUnit.sender_modLine ..

theorem EndUnit.endTransmission_sender (u : EndUnit) (x : LineId) : (u.endTransmission b x).sender = u.sender := by
  unfold EndUnit.endTransmission
  split
  · rfl
  · rw [EndUnit.sender_modLine, EndUnit.holdFollows_sender, EndUnit.sender_modLine]

theorem EndUnit.answer_sender (u : EndUnit) (x : LineId) (r : WaitingReply) : (u.answer b x r).sender = u.sender := by
  unfold EndUnit.answer
  split
  · exact EndUnit.sender_modLine ..
  · split
    · exact EndUnit.sender_modLine ..
    · exact u.holdFollows_sender _

theorem EndUnit.earn_sender (u : EndUnit) (x : LineId) (r : WaitingReply) : (u.earn b x r).sender = u.sender := by
  unfold EndUnit.earn
  rw [EndUnit.answer_sender]
  split <;> rfl

/-- The sender of a frame that waited for the hold sends it. -/
theorem EndUnit.holdEnded_senderKept (h : u.sender.Kept) : (u.holdEnded b x).sender.Kept := by
  unfold EndUnit.holdEnded
  dsimp only
  split
  · rename_i waits
    have waits := (Bool.and_eq_true_iff.1 waits).1
    exact EndUnit.sendHeld_senderKept (by rw [EndUnit.sender_modLine]; exact h.waiting waits)
  · simpa using h

end Sys2Proof.Machine
end

section
/-! PROOF. What no operation of a command does: break the fields of a sender apart, or let a counter fall (R94 to R99, R105,
R141, R142, R164). -/

namespace Sys2Proof.Machine

open Sys2Proof

variable {s t r : State} {u v : EndUnit} {e d : EndId} {x y : LineId} {l : LaneId} {o : FrameOutcome}

/-! ## Changes of the lines leave the sender -/

theorem EndUnit.lineTo_keepsTraffic (u : EndUnit) (x : LineId) (st : LineState) : u.KeepsTraffic (u.lineTo x st) :=
  (((EndUnit.Eases.refl u).abandonRecentre (x := x)).freeTrainer (x := x)).toKeepsTraffic.modLine

theorem EndUnit.KeepsTraffic.inputChanged (h : u.KeepsTraffic v) {settle : Nat} {present : Bool} :
    u.KeepsTraffic (v.inputChanged settle present x) := by
  unfold EndUnit.inputChanged
  split
  case h_1 => exact h.modLine
  case h_2 => exact h.modLine
  all_goals
    split
    · exact h
    · exact h.trans (v.lineTo_keepsTraffic x .dark)

theorem EndUnit.settleExpired_keepsTraffic (u : EndUnit) (x : LineId) : u.KeepsTraffic (u.settleExpired x) := by
  unfold EndUnit.settleExpired
  dsimp only
  split
  · exact (EndUnit.KeepsTraffic.refl u).modLine
  · exact u.lineTo_keepsTraffic x .dark

theorem EndUnit.trainerTakes_sender (u : EndUnit) : u.trainerTakes.sender = u.sender := by
  unfold EndUnit.trainerTakes
  split
  · rfl
  · split
    · rfl
    · split <;> rfl

/-! ## What advances -/

/-- The fields of both senders stay together, and no counter falls. -/
structure State.Advances (s t : State) : Prop where
  senders : ∀ e, (s.endUnit e).sender.Kept → (t.endUnit e).sender.Kept
  counters : ∀ e, (s.endUnit e).counters.NoneFell (t.endUnit e).counters
  checkErrors : ∀ e x, (s.line e x).checkErrors ≤ (t.line e x).checkErrors
  noListener : s.noListener ≤ t.noListener
  lanes : ∀ l, (s.lane l).NoneFell (t.lane l)

theorem State.Advances.refl (s : State) : s.Advances s :=
  ⟨fun _ => id, fun _ => .refl _, fun _ _ => BitVec.le_refl _, BitVec.le_refl _, fun _ => .refl _⟩

theorem State.Advances.trans (h : s.Advances t) (k : t.Advances r) : s.Advances r :=
  ⟨fun e => k.senders e ∘ h.senders e, fun e => (h.counters e).trans (k.counters e),
    fun e x => BitVec.le_trans (h.checkErrors e x) (k.checkErrors e x), BitVec.le_trans h.noListener k.noListener,
    fun l => (h.lanes l).trans (k.lanes l)⟩

theorem State.Advances.ite {p : Prop} [Decidable p] (h : p → s.Advances t) : s.Advances (if p then t else s) := by
  split
  · exact h ‹_›
  · exact .refl s

/-- An event at one end, what becomes of its sender given. -/
theorem State.Advances.event (h : s.Advances t) (k : State.EventFrame e t r)
    (sender : (t.endUnit e).sender.Kept → (r.endUnit e).sender.Kept) : s.Advances r := by
  obtain ⟨⟨-, -, -, -, -, noListener, -, -⟩, other, -⟩ := k.frame
  refine h.trans ⟨fun d => ?_, k.counters, k.checkErrors, by rw [noListener]; exact BitVec.le_refl _, k.fell⟩
  rcases EndId.eq_or_other e d with rfl | rfl
  · exact sender
  · rw [other]
    exact id

/-- The parts of the node that are no end and no lane. -/
theorem State.Advances.rest (h : s.Advances t) (end1 : r.end1 = t.end1) (end2 : r.end2 = t.end2) (laneA : r.laneA = t.laneA)
    (laneB : r.laneB = t.laneB) (noListener : t.noListener ≤ r.noListener) : s.Advances r := by
  have ends : ∀ e, r.endUnit e = t.endUnit e := fun e => by cases e; exacts [end1, end2]
  have lanes : ∀ l, r.lane l = t.lane l := fun l => by cases l; exacts [laneA, laneB]
  refine h.trans ⟨fun e => ?_, fun e => ?_, fun e x => ?_, noListener, fun l => ?_⟩
  · rw [ends]
    exact id
  · rw [ends]
    exact .refl _
  · unfold State.line
    rw [ends]
    exact BitVec.le_refl _
  · rw [lanes]
    exact .refl _

theorem State.Advances.setBypass (h : s.Advances t) {b : Bypass} : s.Advances { t with bypass := b } :=
  h.rest rfl rfl rfl rfl (BitVec.le_refl _)

theorem State.Advances.setStore (h : s.Advances t) {w : Store} : s.Advances { t with store := w } :=
  h.rest rfl rfl rfl rfl (BitVec.le_refl _)

theorem State.Advances.engine (h : s.Advances t) (k : t.EngineFrame r) : s.Advances r :=
  h.event (k.event .end1) (by
    obtain ⟨-, -, -, -, sender, -⟩ := k.sameUnit .end1
    rw [sender]
    exact id)

theorem State.Advances.raiseBoth (h : s.Advances t) {n : Notice} : s.Advances (t.raiseBoth n) :=
  h.engine (State.EngineFrame.refl t).raiseBoth

theorem State.Advances.modLane (h : s.Advances t) {g : LanePort → LanePort} (k : (t.lane l).NoneFell (g (t.lane l))) :
    s.Advances (t.modLane l g) := by
  refine h.trans ⟨fun e => ?_, fun e => ?_, fun e x => ?_, ?_, fun m => ?_⟩
  · rw [State.endUnit_modLane]
    exact id
  · rw [State.endUnit_modLane]
    exact .refl _
  · unfold State.line
    rw [State.endUnit_modLane]
    exact BitVec.le_refl _
  · rw [State.noListener_modLane]
    exact BitVec.le_refl _
  · rcases LaneId.eq_or_other l m with rfl | rfl
    · rwa [State.lane_modLane_self]
    · rw [State.lane_modLane_other]
      exact .refl _

/-- Any change of one end. -/
theorem State.Advances.modEnd (h : s.Advances t) {g : EndUnit → EndUnit}
    (lines : ∀ x, ((t.endUnit e).line x).checkErrors ≤ ((g (t.endUnit e)).line x).checkErrors)
    (counters : (t.endUnit e).counters.NoneFell (g (t.endUnit e)).counters)
    (sender : (t.endUnit e).sender.Kept → (g (t.endUnit e)).sender.Kept) : s.Advances (t.modEnd e g) := by
  refine h.trans ⟨fun d => ?_, fun d => ?_, fun d x => ?_, ?_, fun l => ?_⟩
  · rcases EndId.eq_or_other e d with rfl | rfl
    · rwa [State.endUnit_modEnd_self]
    · rw [State.endUnit_modEnd_other]
      exact id
  · rcases EndId.eq_or_other e d with rfl | rfl
    · rwa [State.endUnit_modEnd_self]
    · rw [State.endUnit_modEnd_other]
      exact .refl _
  · unfold State.line
    rcases EndId.eq_or_other e d with rfl | rfl
    · rw [State.endUnit_modEnd_self]
      exact lines x
    · rw [State.endUnit_modEnd_other]
      exact BitVec.le_refl _
  · rw [State.noListener_modEnd]
    exact BitVec.le_refl _
  · rw [State.lane_modEnd]
    exact .refl _

/-- A change of one end that keeps what `EndUnit.Keeps` names. -/
theorem State.Advances.keeps (h : s.Advances t) {g : EndUnit → EndUnit} (k : (t.endUnit e).Keeps (g (t.endUnit e)))
    (sender : (t.endUnit e).sender.Kept → (g (t.endUnit e)).sender.Kept) : s.Advances (t.modEnd e g) :=
  h.modEnd (fun x => (k.lines x).checkErrors) k.counters sender

theorem State.Advances.modLine (h : s.Advances t) {g : LineUnit → LineUnit} (k : (t.line e x).Keeps (g (t.line e x))) :
    s.Advances (t.modLine e x g) := h.keeps ((EndUnit.Keeps.refl _).modLine k) (by simp)

theorem State.Advances.modSender (h : s.Advances t) {g : Sender → Sender}
    (k : (t.endUnit e).sender.Kept → (g (t.endUnit e).sender).Kept) : s.Advances (t.modSender e g) :=
  h.keeps ((EndUnit.Keeps.refl _).inner (Nat.le_refl _)) k

/-! ## Counts, losses and deliveries -/

theorem State.Advances.count (h : s.Advances t) {g : EndCounters → EndCounters} (k : ∀ c : EndCounters, c.NoneFell (g c)) :
    s.Advances (t.count e g) :=
  h.modEnd (fun x => by cases x <;> exact BitVec.le_refl _) (k _) id

theorem EndCounters.addNoAnswer_noneFell (c : EndCounters) : c.NoneFell c.addNoAnswer := by
  simp [EndCounters.NoneFell, EndCounters.addNoAnswer, satInc_le]

theorem EndCounters.addMisroute_noneFell (c : EndCounters) : c.NoneFell c.addMisroute := by
  simp [EndCounters.NoneFell, EndCounters.addMisroute, satInc_le]

theorem EndCounters.addStale_noneFell (c : EndCounters) : c.NoneFell c.addStale := by
  simp [EndCounters.NoneFell, EndCounters.addStale, satInc_le]

/-- The queues of an end alone. -/
theorem State.Advances.queues (h : s.Advances t) {g : EndQueues → EndQueues} :
    s.Advances (t.modEnd e (fun u => { u with queues := g u.queues })) :=
  h.modEnd (fun x => by cases x <;> exact BitVec.le_refl _) (.refl _) id

theorem State.Advances.enqueue (h : s.Advances t) {f : DataRecord} : s.Advances (t.enqueue e f) :=
  h.queues (g := fun q => q.push f)

theorem State.Advances.lose (h : s.Advances t) {c : LossReason} : s.Advances (t.lose c l) :=
  h.modLane (LanePort.lose_reports c _).2.2

theorem State.Advances.loseRecord (h : s.Advances t) {c : LossReason} {f : DataRecord} : s.Advances (t.loseRecord c f) := by
  unfold State.loseRecord
  split
  · exact h
  · exact h.lose

theorem LanePort.deliver_noneFell (p : LanePort) (a : ReceiveEntry) : p.NoneFell (p.deliver a) := by
  have same := LanePort.NoneFell.refl p
  unfold LanePort.deliver LanePort.receive
  split
  · split
    · exact same
    · split <;> simp [LanePort.NoneFell, satInc_le]
  · exact same

theorem State.Advances.deliver (h : s.Advances t) {a : ReceiveEntry} : s.Advances (t.deliver a) := by
  unfold State.deliver
  split
  · exact (h.modLane (LanePort.deliver_noneFell _ a)).modLane (LanePort.deliver_noneFell _ a)
  · exact h.rest rfl rfl rfl rfl (satInc_le _)

theorem State.Advances.foldl {α : Type} {f : State → α → State} {as : List α} (h : s.Advances t)
    (k : ∀ t a, State.Advances t (f t a)) : s.Advances (as.foldl f t) := by
  induction as generalizing t with
  | nil => exact h
  | cons a as ih => exact ih (h.trans (k t a))

/-! ## The operations of one end -/

theorem State.Advances.answer (h : s.Advances t) {a : WaitingReply} : s.Advances (t.answer e x a) :=
  h.event (State.EndFrame.refl e t).answer.event (by
    rw [State.answer_eq, State.endUnit_modEnd_self, EndUnit.answer_sender]
    exact id)

theorem State.Advances.earn (h : s.Advances t) {a : WaitingReply} : s.Advances (t.earn e x a) :=
  h.event (State.EndFrame.refl e t).earn.event (by
    rw [State.earn_eq, State.endUnit_modEnd_self, EndUnit.earn_sender]
    exact id)

theorem State.Advances.endTransmission (h : s.Advances t) : s.Advances (t.endTransmission e x) :=
  h.event (State.EndFrame.refl e t).endTransmission.event (by
    rw [State.endTransmission_eq, State.endUnit_modEnd_self, EndUnit.endTransmission_sender]
    exact id)

theorem State.Advances.queueBeacon (h : s.Advances t) : s.Advances (t.queueBeacon e x) :=
  h.event (State.EndFrame.refl e t).queueBeacon.event (by
    rw [State.queueBeacon_eq, State.endUnit_modLine_self, EndUnit.sender_modLine]
    exact id)

theorem State.Advances.holdEnded (h : s.Advances t) : s.Advances (t.holdEnded e x) :=
  h.event (State.EndFrame.refl e t).holdEnded.event (by
    rw [State.holdEnded_eq, State.endUnit_modEnd_self]
    exact EndUnit.holdEnded_senderKept)

theorem State.Advances.countCheckError (h : s.Advances t) : s.Advances (t.countCheckError e x) :=
  h.modLine ⟨rfl, satInc_le _⟩

theorem State.Advances.endFrame (h : s.Advances t) : s.Advances (t.endFrame o e) :=
  h.event (State.EndFrame.refl e t).endFrame.event (by
    rw [State.endUnit_endFrame_self]
    exact EndUnit.endFrame_senderKept)

/-- The end state decided again leaves the sender. -/
theorem State.Advances.decideEnd (h : s.Advances t) {tag : Bool} : s.Advances (t.decideEnd e tag) :=
  h.event (State.EventFrame.refl e t).decideEnd (by
    obtain ⟨⟨-, -, -, -, sender, -⟩, -⟩ := t.decideEnd_unit e tag
    rw [sender]
    exact id)

/-- What follows a change of the lines of an end. -/
theorem State.Advances.afterLines (h : s.Advances t) : s.Advances (t.afterLines e) := by
  have followed : s.Advances ((t.modEnd e EndUnit.afterLines).senderAfterLines e) :=
    (h.keeps (EndUnit.Keeps.refl _).abandonWithoutPartner.abandonWithoutPartner.forgetPeer
      ((t.endUnit e).eases_afterLines.senderKept)).event (State.EndFrame.refl e _).senderAfterLines.event (by
        rw [State.endUnit_senderAfterLines]
        exact EndUnit.senderAfterLines_senderKept)
  rw [State.afterLines_eq]
  exact followed.decideEnd

theorem State.Advances.lineSilent (h : s.Advances t) : s.Advances (t.lineSilent e x) := by
  refine State.Advances.afterLines (h.keeps (g := EndUnit.silenced x) ?_ ((t.endUnit e).silenced_keepsTraffic x).senderKept)
  unfold EndUnit.silenced
  split
  · exact (EndUnit.Keeps.refl _).enterTraining
  · exact (EndUnit.Keeps.refl _).enterDark

/-! ## The sender (R94 to R101) -/

theorem State.Advances.sendHeld (h : s.Advances t) (may : (t.endUnit e).sender.Kept → (t.endUnit e).sender.MaySend) :
    s.Advances (t.sendHeld e) :=
  h.event (State.EndFrame.refl e t).sendHeld.event (by
    rw [State.sendHeld_eq, State.endUnit_modEnd_self]
    exact fun kept => EndUnit.sendHeld_senderKept (may kept))

theorem State.Advances.firstSend (h : s.Advances t) (pending : (t.endUnit e).sender.state = .pending) :
    s.Advances (t.firstSend e) :=
  h.event (State.EndFrame.refl e t).firstSend.event (by
    rw [State.firstSend_eq, State.endUnit_modEnd_self]
    exact fun kept => EndUnit.firstSend_pending_senderKept kept pending)

theorem State.Advances.offerFrame (h : s.Advances t) : s.Advances (t.offerFrame e) := by
  refine h.event (State.EndFrame.offerFrame t e).event ?_
  unfold State.offerFrame
  dsimp only
  split
  · split
    · exact id
    · rw [State.takeFrame_eq, State.modEnd_modEnd, State.endUnit_modEnd_self]
      exact fun _ => EndUnit.takeFrame_senderKept _
  · exact id

theorem State.Advances.moveFrame (h : s.Advances t) (busy : (t.endUnit e).sender.state ≠ .idle) :
    s.Advances (t.moveFrame e) :=
  h.event (State.EndFrame.refl e t).moveFrame.event (by
    rw [State.moveFrame_eq, State.endUnit_modEnd_self]
    exact fun kept => EndUnit.moveFrame_senderKept (kept.held busy).1 (kept.held busy).2)

theorem SenderState.busy_of_sent {n : SenderState} (h : n = .awaiting ∨ n = .backing) : n ≠ .idle := by
  rcases h with c | c <;> rw [c] <;> decide

/-- A HOLD below the limit leaves the sender BACKING. -/
theorem Sender.Kept.backs {n : Sender} (h : n.Kept) (busy : n.state ≠ .idle) (few : n.holds + 1 < 2000) :
    Sender.Kept { n.heldOff with state := .backing, timer := .holdWait } := by
  obtain ⟨held, -⟩ := h.held busy
  exact ⟨⟨fun c => absurd c held, nofun⟩, ⟨nofun, nofun⟩, ⟨fun _ => rfl, fun _ => rfl⟩, nofun, fun _ => rfl, Nat.zero_le _,
    Nat.le_of_lt few, fun _ => few⟩

theorem State.Advances.onHold (h : s.Advances t)
    (sent : (t.endUnit e).sender.state = .awaiting ∨ (t.endUnit e).sender.state = .backing) : s.Advances (t.onHold e) := by
  refine h.event (State.EndFrame.refl e t).onHold.event fun kept => ?_
  obtain ⟨held, holds⟩ := kept.held (SenderState.busy_of_sent sent)
  rw [State.onHold_eq]
  split
  · rw [State.endUnit_endFrame_self]
    have same := t.heldOff_sender e
    exact EndUnit.endFrame_senderKept_of_held (by rw [same]; exact held) (by rw [same]; exact Nat.zero_le _)
      (by rw [same]; exact holds)
  · rename_i few
    rw [State.sender_modSender, State.heldOff_sender]
    exact kept.backs (SenderState.busy_of_sent sent) (Nat.not_le.1 few)

/-- The sends on a line are exhausted: its run counts up, and the frame moves or ends. -/
theorem State.Advances.sendsExhausted (h : s.Advances t) (sent : (t.endUnit e).sender.state = .awaiting) :
    s.Advances (t.sendsExhausted e) := by
  have counted : ∀ x k, s.Advances (t.modLine e x (fun n => { n with unanswered := k })) :=
    fun _ _ => h.modLine ⟨rfl, BitVec.le_refl _⟩
  have leaves : ∀ (p : Prop) [Decidable p] (q : State), s.Advances q → (q.endUnit e).sender.state = .awaiting →
      s.Advances (if p then q.moveFrame e else q.endFrame .noAnswer e) := fun p _ q k awaits => by
    split
    · exact k.moveFrame (by rw [awaits]; decide)
    · exact k.endFrame
  unfold State.sendsExhausted
  dsimp only
  split
  · exact (leaves _ _ (counted _ _) (by simpa using sent)).lineSilent
  · exact leaves _ _ (counted _ _) (by simpa using sent)

theorem State.Advances.replyTimedOut (h : s.Advances t) (sent : (t.endUnit e).sender.state = .awaiting) :
    s.Advances (t.replyTimedOut e) := by
  have sendEnds : s.Advances (t.sendOver e) := by
    unfold State.sendOver
    dsimp only
    split
    · exact h.endTransmission
    · exact h
  have counted : s.Advances ((t.sendOver e).modSender e (fun n => { n with holds := 0 })) :=
    sendEnds.modSender fun ⟨frame, reply, hold, waits, unsent, sends, _, _⟩ =>
      ⟨frame, reply, hold, waits, unsent, sends, Nat.zero_le _, fun _ => Nat.succ_pos _⟩
  have awaits : (((t.sendOver e).modSender e (fun n => { n with holds := 0 })).endUnit e).sender.state = .awaiting := by
    rw [State.sender_modSender, State.sendOver_sender]
    exact sent
  unfold State.replyTimedOut
  dsimp only
  split
  · rename_i few
    refine counted.sendHeld fun kept => ?_
    obtain ⟨held, holds⟩ := kept.held (by rw [awaits]; decide)
    exact ⟨held, Nat.le_of_lt_succ few, holds⟩
  · exact counted.sendsExhausted awaits

end Sys2Proof.Machine
end

section
/-! PROOF. What advances in each command that reaches both ends or the lanes, and in the arrivals of frames. -/

namespace Sys2Proof.Machine

open Sys2Proof

variable {s t r : State} {u v : EndUnit} {e d : EndId} {x y : LineId} {l : LaneId} {o : FrameOutcome} {c : TrafficClass}

/-! ## Arrivals (R90 to R104) -/

theorem State.Advances.arrive {kind : Byte} {f : RawFrame} {valid : State → State}
    (h : ∀ r, s.Advances r → s.Advances (valid r)) : s.Advances (s.arrive e x kind f valid) := by
  unfold State.arrive
  split
  · exact .refl s
  · split
    · exact (State.Advances.refl s).countCheckError
    · exact h _ ((State.Advances.refl s).modLine ⟨rfl, BitVec.le_refl _⟩)

theorem State.Advances.takeAwaiting {β : Type} {f : RawFrame} {decode : List Byte → Option β} {handle : β → State → State}
    (k : s.Advances t) (h : ∀ b, s.Advances (handle b t)) : s.Advances (t.takeAwaiting e x f decode handle) := by
  have fresh : s.Advances (match decode f.body with
      | none => t.earn e x (.plain (frameBit f) (.refuse .malformed))
      | some b => handle b t) := by
    split
    · exact k.earn
    · exact h _
  unfold State.takeAwaiting
  dsimp only
  split
  · exact fresh
  · split
    · exact k.answer
    · exact fresh

theorem State.Advances.takeUnanswered {β : Type} {f : RawFrame} {decode : List Byte → Option β} {handle : β → State → State}
    (k : s.Advances t) (h : ∀ b, s.Advances (handle b t)) : s.Advances (t.takeUnanswered e x f decode handle) := by
  unfold State.takeUnanswered
  split
  · exact k.countCheckError
  · exact h _

theorem State.Advances.controlArrives {β : Type} {kind : Byte} {f : RawFrame} {decode : List Byte → Option β}
    {engine : β → State → State} (h : ∀ b r, State.EngineFrame r (engine b r)) :
    s.Advances (s.controlArrives e x kind f decode engine) :=
  .arrive fun _ k => k.takeAwaiting fun b => k.earn.engine (h b _)

theorem State.Advances.onReply {bit : Bool} {handle : State → State} (k : s.Advances t)
    (h : ∀ r, s.Advances r → (r.endUnit e).sender.state = .awaiting ∨ (r.endUnit e).sender.state = .backing →
      s.Advances (handle r)) : s.Advances (t.onReply e bit handle) := by
  unfold State.onReply
  split
  · rename_i answers
    refine h _ (k.modLine ⟨rfl, BitVec.le_refl _⟩) ?_
    unfold State.endRun
    rw [State.endUnit_modLine_self, EndUnit.sender_modLine]
    simp only [Sender.matches, Bool.and_eq_true] at answers
    exact SenderState.sent_iff.1 answers.1
  · exact k

theorem State.Advances.takeBeacon (h : s.Advances t) {p : PeerId} : s.Advances (t.takeBeacon e p) :=
  (h.keeps ((EndUnit.Keeps.refl (t.endUnit e)).inner (p := some p) (Nat.le_refl _)) id).decideEnd

/-! ## The switch (chapters 6 and 7) -/

theorem State.Advances.queueSend (h : s.Advances t) {a : SendRecord} : s.Advances (t.queueSend l a) := h.modLane (.refl _)

theorem State.Advances.setSendQueue (h : s.Advances t) {q : List SendRecord} : s.Advances (t.setSendQueue l q) :=
  h.modLane (.refl _)

theorem State.judgeSend_advances (s : State) (l : LaneId) (m : Message) : s.Advances (s.judgeSend l m).2 := by
  have h := State.Advances.refl s
  unfold State.judgeSend
  dsimp only
  split
  · split
    · exact h
    · split
      · exact h.deliver
      · split
        · exact h
        · exact h.deliver.queueSend
  · split
    · exact h
    · exact h
    · exact h
    · exact h.deliver
    · split
      · exact h
      · exact h.queueSend

theorem State.Advances.placeCopy (h : s.Advances t) {a : SendRecord} {copy : Option (EndId × Nat)} {placed : Bool} :
    s.Advances (t.placeCopy l a copy placed).2 := by
  unfold State.placeCopy
  split
  · exact h
  · split
    · exact h
    · split
      · exact h.lose
      · split
        · exact h.enqueue
        · exact h

theorem State.examineHead_advances (s : State) (l : LaneId) : s.Advances (s.examineHead l).2 := by
  have h := State.Advances.refl s
  unfold State.examineHead
  split
  · exact h
  · split
    · unfold State.examineBroadcast
      split
      · exact h.setSendQueue.lose
      · dsimp only
        split <;> exact h.placeCopy.placeCopy.setSendQueue
    · unfold State.examineUnicast
      dsimp only
      split
      · exact h.setSendQueue.lose
      · split
        · split
          · exact h.setSendQueue.lose
          · split
            · exact h.setSendQueue.enqueue
            · exact h
        · exact h.setSendQueue.deliver
        · exact h.setSendQueue.lose
        · exact h.setSendQueue.lose
        · exact h.setSendQueue.lose

/-- The turn of the resolver alone. -/
theorem State.Advances.setResolver (h : s.Advances t) {m : LaneId} : s.Advances { t with resolver := m } :=
  h.rest rfl rfl rfl rfl (BitVec.le_refl _)

theorem State.resolverOpportunity_advances (s : State) : s.Advances s.resolverOpportunity := by
  have examined := s.examineHead_advances s.resolver
  unfold State.resolverOpportunity
  dsimp only
  split
  · rename_i t first
    rw [first] at examined
    exact examined.setResolver
  · rename_i t first
    rw [first] at examined
    have second := t.examineHead_advances s.resolver.other
    split
    · rename_i r other
      rw [other] at second
      exact (examined.trans second).setResolver
    · rename_i r other
      rw [other] at second
      exact examined.trans second

theorem State.examineBroadcastFrame_advances {f : DataFrame} (k : s.examineBroadcastFrame e f = some r) : s.Advances r := by
  have h := State.Advances.refl s
  unfold State.examineBroadcastFrame at k
  dsimp only at k
  split at k
  · cases k
  split at k
  · cases k
    exact h.deliver
  split at k
  · cases k
    exact h.deliver.count EndCounters.addNoAnswer_noneFell
  split at k
  · cases k
    exact h.deliver.enqueue
  · cases k

theorem State.examineThrough_advances {p : Nat} {o : Orientation} {f : DataFrame} (k : s.examineThrough e p o f = some r) :
    s.Advances r := by
  have h := State.Advances.refl s
  unfold State.examineThrough at k
  dsimp only at k
  split at k
  · cases k
    exact h.count EndCounters.addMisroute_noneFell
  split at k
  · cases k
    exact h.count EndCounters.addNoAnswer_noneFell
  split at k
  · cases k
    exact h.enqueue
  · cases k

theorem State.examineData_advances {f : DataFrame} (k : s.examineData e f = some r) : s.Advances r := by
  have h := State.Advances.refl s
  have misrouted : s.Advances (s.count e EndCounters.addMisroute) := h.count EndCounters.addMisroute_noneFell
  unfold State.examineData at k
  split at k
  · exact State.examineBroadcastFrame_advances k
  split at k
  · cases k
    exact misrouted
  split at k
  · split at k
    · split at k
      · cases k
        exact misrouted
      split at k
      · cases k
      · cases k
        exact h.deliver
    · exact State.examineThrough_advances k
  · cases k
    exact misrouted

theorem State.Advances.examineArrival (h : s.Advances t) {bit : Bool} {f : DataFrame} :
    s.Advances (t.examineArrival e x bit f) := by
  unfold State.examineArrival
  split
  · exact h.earn
  · split
    · exact (h.count EndCounters.addStale_noneFell).earn
    · split
      · rename_i r taken
        exact (h.trans (State.examineData_advances taken)).earn
      · exact h.earn

theorem State.Advances.purgeOne (h : s.Advances t) {f : DataRecord} : s.Advances (t.purgeOne e f).2 := by
  unfold State.purgeOne
  split
  · exact h
  · split
    · exact h.count EndCounters.addStale_noneFell
    · split
      · exact h.lose
      · split
        · split <;> exact h
        · exact h.deliver
        · exact h.lose
        · exact h.lose
        · exact h.lose

theorem State.Advances.purgeWalk (q : List DataRecord) (h : s.Advances t) : s.Advances (State.purgeWalk e q t).2.2 := by
  induction q generalizing t with
  | nil => exact h
  | cons f q ih =>
    have k := ih (h.purgeOne (e := e) (f := f))
    unfold State.purgeWalk
    dsimp only
    split <;> exact k

theorem State.Advances.purgeClass (h : s.Advances t) : s.Advances (t.purgeClass e c).2 := by
  have k := State.Advances.purgeWalk (e := e) ((t.endUnit e).queues.classQueue c) h
  have placed := k.queues (e := e)
    (g := fun q => q.setClassQueue c (State.purgeWalk e ((t.endUnit e).queues.classQueue c) t).1)
  unfold State.purgeClass
  dsimp only
  split
  · exact placed.queues (e := e) (g := fun q => q.clearRelief c)
  · exact placed

theorem State.Advances.purgeQueues (qs : List (EndId × TrafficClass)) (h : s.Advances t) :
    s.Advances (State.purgeQueues qs t).2 := by
  induction qs generalizing t with
  | nil => exact h
  | cons q qs ih => exact ih h.purgeClass

theorem State.purgeAtCommit_advances (s : State) : s.Advances s.purgeAtCommit := by
  unfold State.purgeAtCommit
  refine (State.Advances.purgeQueues purgeOrder (.refl s)).foldl fun t p => ?_
  unfold State.placeAside
  split
  · exact (State.Advances.refl t).enqueue
  · exact (State.Advances.refl t).loseRecord

/-! ## Sweeps and recentres (R74 to R80) -/

theorem State.Advances.trainerDone (h : s.Advances t) {map : List Bool} :
    s.Advances (t.modEnd e (EndUnit.trainerDone map)) := h.keeps (EndUnit.Keeps.refl _).trainerDone id

theorem State.Advances.enterActive (h : s.Advances t) : s.Advances (t.enterActive e x) :=
  h.event (State.EndFrame.refl e t).enterActive.event (by
    rw [State.enterActive_eq, State.endUnit_modLine_self, EndUnit.sender_modLine]
    exact id)

theorem State.Advances.fullSweepEnded (h : s.Advances t) {runs : List Nat} : s.Advances (t.fullSweepEnded e x runs) := by
  have swept : ∀ a w, s.Advances ((t.modEnd e (EndUnit.trainerDone (sweepMap runs 0 63))).modLine e x
      (fun n => { n with record := n.record.swept a w })) := fun a w => h.trainerDone.modLine ⟨rfl, BitVec.le_refl _⟩
  unfold State.fullSweepEnded
  refine State.Advances.afterLines ?_
  split
  · exact (swept _ _).enterActive
  · unfold State.sweepFailed
    split
    · exact ((swept _ _).modLine ⟨rfl, BitVec.le_refl _⟩).raiseBoth
    · exact (swept _ _).modLine ⟨rfl, BitVec.le_refl _⟩

theorem EndUnit.enterTraining_keepsTraffic (u : EndUnit) (x : LineId) (cause : TrainingCause) :
    u.KeepsTraffic (u.enterTraining x cause) := (u.lineTo_keepsTraffic x .training).modLine

theorem State.Advances.recentreEnded (h : s.Advances t) {runs : List Nat} : s.Advances (t.recentreEnded e x runs) := by
  unfold State.recentreEnded
  dsimp only
  split
  · exact h.trainerDone.modLine ⟨rfl, BitVec.le_refl _⟩
  · exact ((h.trainerDone.modLine ⟨rfl, BitVec.le_refl _⟩).keeps (EndUnit.Keeps.refl _).enterTraining
      (EndUnit.enterTraining_keepsTraffic _ x _).senderKept).afterLines

theorem State.Advances.startRecentre (h : s.Advances t) : s.Advances (t.startRecentre e x) := by
  have marked : s.Advances (t.modLine e x (fun n => { n with recentre := .requested })) := h.modLine ⟨rfl, BitVec.le_refl _⟩
  have asked := marked.engine ((State.EngineFrame.refl _).sendControl (e := e) (f := .patternRequest x true))
  unfold State.startRecentre
  dsimp only
  split
  · exact asked
  · exact asked.keeps (EndUnit.Keeps.refl _).abandonRecentre
      (EndUnit.Eases.refl _).abandonRecentre.toKeepsTraffic.senderKept

theorem State.Advances.recentreTurn (h : s.Advances t) : s.Advances t.recentreTurn := by
  have turned := h.rest (r := { t with rotation := nextTurn t.rotation, recentreTimer := some Config.recentrePeriod })
    rfl rfl rfl rfl (BitVec.le_refl _)
  unfold State.recentreTurn
  dsimp only
  split
  · exact turned.startRecentre
  · exact turned

/-! ## Inputs (R65) -/

theorem State.Advances.senseChange (s : State) (e : EndId) (coupled : Bool) :
    State.Advances (s.modEnd e (fun u => { u with sense := coupled })) (s.senseChange e coupled) := by
  unfold State.senseChange
  split
  · rename_i same
    rw [State.modEnd_same (by rw [← same])]
    exact .refl s
  · dsimp only
    split
    · exact .refl _
    · exact ((State.Advances.refl _).keeps (EndUnit.Keeps.refl _).senseChanged
        (EndUnit.KeepsTraffic.refl _).inputChanged.inputChanged.senderKept).afterLines

theorem State.Advances.carrierChange (s : State) (e : EndId) (x : LineId) (present : Bool) :
    State.Advances (s.modLine e x (fun n => { n with carrier := present })) (s.carrierChange e x present) := by
  unfold State.carrierChange
  split
  · rename_i same
    rw [State.modLine_same (by rw [← same])]
    exact .refl s
  · dsimp only
    split
    · exact .refl _
    · exact ((State.Advances.refl _).keeps (EndUnit.Keeps.refl _).inputChanged
        (EndUnit.KeepsTraffic.refl _).inputChanged.senderKept).afterLines

/-! ## The bypass and the votes (R145 to R150) -/

theorem EndUnit.engage_keeps (u : EndUnit) : (∀ x, (u.line x).checkErrors ≤ (u.engage.line x).checkErrors) ∧
    u.counters.NoneFell u.engage.counters := by
  have dark := (EndUnit.Keeps.refl u).enterDark (x := .lineA) |>.enterDark (x := .lineB)
  exact ⟨fun x => by cases x; exacts [(dark.lines .lineA).checkErrors, (dark.lines .lineB).checkErrors], dark.counters⟩

theorem EndUnit.engage_senderKept (kept : u.sender.Kept) : u.engage.sender.Kept :=
  ((u.lineTo_keepsTraffic .lineA .dark).trans (EndUnit.lineTo_keepsTraffic _ .lineB .dark)).senderKept kept

theorem State.Advances.engageEnd (h : s.Advances t) : s.Advances (t.engageEnd e) := by
  have ended : s.Advances (t.endFrame .bypass e) := h.endFrame
  have lost : s.Advances ((((t.endFrame .bypass e).endUnit e).queues.classRecords).foldl
      (fun r d => r.loseRecord .bypass d) (t.endFrame .bypass e)) := ended.foldl fun r _ => (State.Advances.refl r).loseRecord
  have engaged := lost.modEnd (e := e) (g := EndUnit.engage) (EndUnit.engage_keeps _).1 (EndUnit.engage_keeps _).2
    EndUnit.engage_senderKept
  unfold State.engageEnd
  dsimp only
  split
  · exact engaged.raiseBoth
  · exact engaged

theorem State.Advances.engageLane (h : s.Advances t) : s.Advances (t.engageLane l) := by
  unfold State.engageLane
  exact (h.foldl fun r _ => (State.Advances.refl r).lose).modLane (.refl _)

theorem State.Advances.standDown (h : s.Advances t) :
    s.Advances { t.clearDirectory with engine := t.clearDirectory.engine.engage } := h.rest rfl rfl rfl rfl (BitVec.le_refl _)

theorem State.Advances.engage (h : s.Advances t) : s.Advances t.engage := by
  have begun := (h.setBypass (b := { t.bypass with state := .engaging, transition := some Config.relayTime })).raiseBoth
    (n := .bypassChange)
  have lanes := begun.engageEnd (e := .end1) |>.engageEnd (e := .end2) |>.engageLane (l := .laneA) |>.engageLane (l := .laneB)
  exact lanes.standDown

theorem State.Advances.latch (h : s.Advances t) {c : LatchedCause} : s.Advances (t.latch c) := by
  have latched := (h.setBypass (b := { t.bypass with latched := c })).raiseBoth (n := .bypassChange)
  unfold State.latch
  dsimp only
  split
  · exact h
  · split
    · exact latched.engage
    · exact latched

theorem State.Advances.testRelease (h : s.Advances t) : s.Advances t.testRelease := by
  unfold State.testRelease
  split
  · exact h.setBypass
  · exact h

theorem State.Advances.recombine (h : s.Advances t) : s.Advances t.recombine := by
  have combined := h.rest (r := { t with engine := { t.engine with effective := effectiveVotes t.laneA t.laneB } })
    rfl rfl rfl rfl (BitVec.le_refl _)
  unfold State.recombine
  dsimp only
  refine State.Advances.engine ?_ (State.votesAtEngine_engineFrame ..)
  split
  · unfold State.bypassRequestChanged
    split
    · split
      · exact combined.engage
      · exact combined
    · exact combined.testRelease
  · exact combined

theorem EndUnit.takeInputs_keeps (u : EndUnit) (settle : Nat) : u.Keeps (u.takeInputs settle) :=
  ((EndUnit.Keeps.refl u).modLine (LineUnit.wake_keeps _ _ _)).modLine (LineUnit.wake_keeps _ _ _)

theorem State.Advances.takeInputs (h : s.Advances t) {settle : Nat} : s.Advances (t.modEnd e (EndUnit.takeInputs settle)) :=
  h.keeps (EndUnit.takeInputs_keeps _ _) (by
    unfold EndUnit.takeInputs
    rw [EndUnit.sender_modLine, EndUnit.sender_modLine]
    exact id)

theorem State.Advances.enterOff (h : s.Advances t) : s.Advances t.enterOff := by
  unfold State.enterOff
  dsimp only
  refine State.Advances.engine ?_ (State.EngineFrame.refl _).topologyChange
  exact .afterLines (.afterLines (.takeInputs (.takeInputs (.raiseBoth h.setBypass))))

theorem State.Advances.releaseEnded (h : s.Advances t) : s.Advances t.releaseEnded := by
  unfold State.releaseEnded
  split
  · exact h.engage
  · exact h.enterOff

end Sys2Proof.Machine
end

section
/-! PROOF. Every command but the resets of the node advances the node whose input it has moved; what this says of the senders
and of the counters. -/

namespace Sys2Proof.Machine

open Sys2Proof

variable {s t r : State} {e d : EndId} {x y : LineId} {l : LaneId}

/-! ## Requests (chapter 9) -/

theorem State.Advances.handleKind {is : Byte → Bool} {f : List Byte → Reply × State} (h : ∀ body, s.Advances (f body).2) :
    s.Advances (s.handleKind l is f) := by
  unfold State.handleKind
  split
  · split
    · exact (h _).modLane (.refl _)
    · exact .refl s
  · exact .refl s
  · exact .refl s

theorem State.Advances.handle {code : Byte} {f : List Byte → Reply × State} (h : ∀ body, s.Advances (f body).2) :
    s.Advances (s.handle l code f) := .handleKind h

theorem State.Advances.handleAttached {code : Byte} {f : List Byte → Reply × State} (h : ∀ body, s.Advances (f body).2) :
    s.Advances (s.handleAttached l code f) := by
  refine .handle (fun body => ?_)
  split
  · exact h body
  · exact .refl s

theorem State.Advances.noBody {p : Reply × State} (h : s.Advances p.2) (body : List Byte) :
    s.Advances (noBody s p body).2 := by
  unfold Machine.noBody
  split
  · exact h
  · exact .refl s

theorem State.Advances.withBody {β : Type} {decode : List Byte → Option β} {f : β → Reply × State}
    (h : ∀ b, s.Advances (f b).2) (body : List Byte) : s.Advances (withBody s decode f body).2 := by
  unfold Machine.withBody
  split
  · exact h _
  · exact .refl s

/-- A change of one lane that lets no counter of it fall, and the recombination of the votes. -/
theorem State.Advances.recombines (s : State) (l : LaneId) {g : LanePort → LanePort} (k : ∀ p : LanePort, p.NoneFell (g p)) :
    s.Advances (s.modLane l g).recombine := ((State.Advances.refl s).modLane (k _)).recombine

theorem State.Advances.retrainLine (s : State) (e : EndId) (x : LineId) : s.Advances (s.retrainLine e x) :=
  .ite fun _ => ((State.Advances.refl s).modLine ⟨rfl, BitVec.le_refl _⟩).afterLines

theorem State.Advances.writeSetting (s : State) (l : LaneId) (w : SettingWrite) : s.Advances (s.writeSetting l w).2 := by
  unfold State.writeSetting
  split
  · exact .refl s
  split
  · exact .refl s
  split
  · exact .refl s
  · exact (State.Advances.refl s).setStore

theorem State.Advances.lockCommissioning (s : State) (l : LaneId) : s.Advances (s.lockCommissioning l).2 := by
  unfold State.lockCommissioning
  split
  · exact .refl s
  split
  · exact .refl s
  split
  · exact .refl s
  · exact (State.Advances.refl s).setStore

theorem LanePort.transact_noneFell (p : LanePort) (pending : Bool) (bytes : List Byte) :
    p.NoneFell (p.transact pending bytes) := by
  unfold LanePort.transact
  dsimp only
  split
  · exact .refl p
  · split
    · exact .refl p
    · unfold LanePort.examineRequest
      split
      · exact .refl p
      · simp [LanePort.NoneFell, LanePort.raise, satInc_le]

theorem State.Advances.storeDone (h : s.Advances t) : s.Advances t.storeDone := by
  have idle := h.setStore (w := { t.store with activity := .idle, writingLane := none, operation := none })
  unfold State.storeDone
  dsimp only
  split
  · exact idle.engine (State.EngineFrame.refl _).raise
  · exact idle

theorem State.Advances.startUp (s : State) : s.Advances s.startUp := by
  have loaded := (State.Advances.refl s).setStore (w := s.store.afterLoad)
  have told := loaded.raiseBoth (n := .settingsDefaulted)
  unfold State.startUp
  refine State.Advances.testRelease (State.Advances.setBypass ?_)
  split <;> split
  · exact told
  · exact told.latch
  · exact loaded
  · exact loaded.latch

/-! ## The commands -/

/-- Every command but the resets of the node advances the node, its input moved. -/
theorem exec_advances (c : Instr) (s : State) : ∃ t, exec c s = .next t ∧
    (c = .powerOn ∨ c = .nodeReset ∨ (s.withInput c).Advances t) := by
  have advances : ∀ {c : Instr} {t : State}, exec c s = .next t → (s.withInput c).Advances t → ∃ t, exec c s = .next t ∧
      (c = .powerOn ∨ c = .nodeReset ∨ (s.withInput c).Advances t) := fun h k => ⟨_, h, .inr (.inr k)⟩
  have here := State.Advances.refl s
  cases c with
  | powerOn => exact ⟨_, rfl, .inl rfl⟩
  | nodeReset => exact ⟨_, rfl, .inr (.inl rfl)⟩
  | startUpComplete => exact advances rfl (State.Advances.ite (s := s) fun _ => .startUp s)
  | nodeResetRelease => exact advances rfl (.refl _)
  | laneReset l => exact advances rfl (State.Advances.refl _).recombine
  | laneResetRelease l => exact advances rfl (.refl _)
  | couplerSenseChange e coupled => exact advances rfl (.senseChange s e coupled)
  | carrierChange e x present => exact advances rfl (.carrierChange s e x present)
  | settleTimerExpiry e x =>
    exact advances rfl (State.Advances.ite (s := s) fun _ =>
      (here.keeps (EndUnit.Keeps.refl _).settleExpired (EndUnit.settleExpired_keepsTraffic _ x).senderKept).afterLines)
  | fullSweepStart e =>
    exact advances rfl (here.keeps (EndUnit.Keeps.refl _).trainerTakes (by rw [EndUnit.trainerTakes_sender]; exact id))
  | fullSweepEnd e sweep =>
    refine advances rfl ?_
    split
    · exact here.fullSweepEnded
    · exact here
    · exact here
  | trainingPauseEnd e x =>
    exact advances rfl (State.Advances.ite (s := s) fun _ => here.modLine ⟨rfl, BitVec.le_refl _⟩)
  | silenceTimerExpiry e x => exact advances rfl (State.Advances.ite (s := s) fun _ => here.lineSilent)
  | recentreTurn => exact advances rfl (State.Advances.ite (s := s) fun _ => here.recentreTurn)
  | recentreSweepEnd e sweep =>
    refine advances rfl ?_
    split
    · exact here.recentreEnded
    · exact here
    · exact here
  | patternHoldEnd e x => exact advances rfl (State.Advances.ite (s := s) fun _ => here.holdEnded)
  | beaconDue e x => exact advances rfl (State.Advances.ite (s := s) fun _ => here.queueBeacon)
  | transmissionEnd e x => exact advances rfl here.endTransmission
  | unknownFrameKind e x kind f => exact advances rfl (.arrive fun _ k => k.answer)
  | beacon e x f => exact advances rfl (.arrive fun _ k => k.takeUnanswered fun _ => k.takeBeacon)
  | patternRequest e x f => exact advances rfl (.arrive fun _ k => k.takeAwaiting fun _ => k.earn)
  | alert e x f => exact advances rfl (.controlArrives fun _ r => (State.EngineFrame.refl r).onAlert)
  | tally e x f => exact advances rfl (.controlArrives fun _ r => (State.EngineFrame.refl r).onTally)
  | closure e x f => exact advances rfl (.controlArrives fun _ r => (State.EngineFrame.refl r).onClosure)
  | commit e x f => exact advances rfl (.controlArrives fun _ r => (State.EngineFrame.refl r).onCommit)
  | dissent e x f => exact advances rfl (.controlArrives fun _ r => (State.EngineFrame.refl r).onDissent)
  | defer e x f => exact advances rfl (.controlArrives fun _ r => (State.EngineFrame.refl r).onDefer)
  | data e x f => exact advances rfl (.arrive fun _ k => k.takeAwaiting fun _ => k.examineArrival)
  | accept e x f => exact advances rfl (.arrive fun _ k => k.takeUnanswered fun _ => k.onReply fun _ i _ => i.endFrame)
  | hold e x f => exact advances rfl (.arrive fun _ k => k.takeUnanswered fun _ => k.onReply fun _ i sent => i.onHold sent)
  | refuse e x f => exact advances rfl (.arrive fun _ k => k.takeUnanswered fun _ => k.onReply fun _ i _ => i.endFrame)
  | commitPurge => exact advances rfl s.purgeAtCommit_advances
  | admissionAtCommit => exact advances rfl here.decideEnd.decideEnd
  | replyTimeout e =>
    refine advances rfl (State.Advances.ite (s := s) fun out => here.replyTimedOut ?_)
    simp only [State.replyMayTimeOut, Sender.timesReply, Bool.and_eq_true, beq_iff_eq] at out
    exact out.1.1
  | holdWaitEnd e =>
    refine advances rfl (State.Advances.ite (s := s) fun ends => here.sendHeld fun kept => ?_)
    simp only [Sender.timesHold, Bool.and_eq_true, beq_iff_eq] at ends
    exact (kept.unsent (.inr ends.1)).2
  | pendingSend e => exact advances rfl (State.Advances.ite (s := s) fun pending => here.firstSend pending)
  | arbiterOffer e => exact advances rfl here.offerFrame
  | resolverExamination => exact advances rfl s.resolverOpportunity_advances
  | deadlineExpiry =>
    exact advances rfl (State.Advances.ite (s := s) fun _ => here.engine (State.EngineFrame.refl s).deadlineExpired)
  | releaseEnd => exact advances rfl (State.Advances.ite (s := s) fun _ => here.releaseEnded)
  | engageEnd => exact advances rfl (State.Advances.ite (s := s) fun _ => here.setBypass.testRelease)
  | scrub =>
    refine advances rfl (State.Advances.ite (s := s) fun _ => ?_)
    unfold State.scrubbed
    split
    · exact here.latch
    · exact .ite fun _ => here.latch
  | writeComplete => exact advances rfl (State.Advances.ite (s := s) fun _ => here.setStore.storeDone)
  | lockComplete => exact advances rfl (State.Advances.ite (s := s) fun _ => here.setStore.storeDone)
  | laneTransaction l span bytes =>
    refine advances rfl ?_
    split
    · exact here
    · exact here.modLane (LanePort.transact_noneFell ..)
  | unknownRequest l => exact advances rfl (.handleKind fun _ => here)
  | null l => exact advances rfl (.handle (.noBody here))
  | attach l =>
    refine advances rfl (.handle (.noBody ?_))
    dsimp only
    unfold State.attachLane
    split
    · exact here
    · exact .recombines s l fun p => .refl p
  | detach l =>
    exact advances rfl (.handle (.noBody (State.Advances.ite (s := s) fun _ => .recombines s l fun p => .refl p)))
  | setVotes l => exact advances rfl (.handleAttached (.withBody fun _ => .recombines s l fun p => .refl p))
  | send l => exact advances rfl (.handleAttached (.withBody fun _ => s.judgeSend_advances l _))
  | fetch l =>
    refine advances rfl (.handleAttached (.noBody ?_))
    unfold State.fetchEntry
    split
    · exact here
    · dsimp only
      exact here.modLane (.refl _)
  | readDirectory l => exact advances rfl (.handle (.withBody fun _ => here))
  | readLines l => exact advances rfl (.handle (.withBody fun _ => here))
  | readSetting l => exact advances rfl (.handle (.withBody fun _ => here))
  | readNode l => exact advances rfl (.handle (.noBody here))
  | readCounters l => exact advances rfl (.handle (.noBody here))
  | readNotices l => exact advances rfl (.handle (.noBody here))
  | clearNotices l =>
    exact advances rfl (.handle (.withBody fun named => here.modLane (l := l) (g := LanePort.clear named) (.refl _)))
  | setMask l =>
    refine advances rfl (.handle (.withBody fun _ => ?_))
    dsimp only
    exact here.modLane (.refl _)
  | startInauguration l =>
    refine advances rfl (.handleAttached (.noBody ?_))
    unfold State.startInauguration
    split
    · exact here
    · exact here.engine (State.EngineFrame.refl s).topologyChange
  | retrainLine l => exact advances rfl (.handleAttached (.withBody fun p => .retrainLine s p.1 p.2))
  | writeSetting l => exact advances rfl (.handleAttached (.withBody fun w => .writeSetting s l w))
  | lockCommissioning l => exact advances rfl (.handleAttached (.noBody (.lockCommissioning s l)))

/-! ## The invariant of the senders (R94 to R99) -/

theorem exec_sendersKept {c : Instr} (h : s.SendersKept) (k : exec c s = .next t) : t.SendersKept := by
  rw [State.SendersKept, State.everyEnd_iff] at *
  obtain ⟨_, next, cases_⟩ := exec_advances c s
  obtain rfl := Host.Outcome.next.inj (next.symm.trans k)
  rcases cases_ with rfl | rfl | advances
  · obtain rfl := Host.Outcome.next.inj next
    exact fun e => by cases e <;> exact Sender.reset_kept
  · obtain rfl := Host.Outcome.next.inj next
    exact fun e => by cases e <;> exact Sender.reset_kept
  · refine fun e => advances.senders e ?_
    rw [(s.withInput_moved c e).sender]
    exact h e

/-! ## The counters (R105, R141, R142, R164) -/

/-- An input leaves every counter; a lane reset clears those of its lane. -/
theorem State.withInput_counters (s : State) (c : Instr) :
    (∀ e, ((s.withInput c).endUnit e).counters = (s.endUnit e).counters) ∧ (s.withInput c).noListener = s.noListener ∧
      ∀ l, c ≠ .laneReset l → (s.lane l).NoneFell ((s.withInput c).lane l) := by
  have same : (∀ e, (s.endUnit e).counters = (s.endUnit e).counters) ∧ s.noListener = s.noListener ∧
      ∀ l, c ≠ .laneReset l → (s.lane l).NoneFell (s.lane l) := ⟨fun _ => rfl, rfl, fun l _ => .refl _⟩
  cases c
  case couplerSenseChange d coupled =>
    cases d <;> exact ⟨fun e => by cases e <;> rfl, rfl, fun l _ => by cases l <;> exact .refl _⟩
  case carrierChange d y present =>
    cases d <;> cases y <;> exact ⟨fun e => by cases e <;> rfl, rfl, fun l _ => by cases l <;> exact .refl _⟩
  case laneReset m =>
    refine ⟨fun e => by cases m <;> cases e <;> rfl, by cases m <;> rfl, fun l other => ?_⟩
    cases m <;> cases l
    · exact absurd rfl other
    · exact .refl _
    · exact .refl _
    · exact absurd rfl other
  case laneResetRelease m =>
    exact ⟨fun e => by cases m <;> cases e <;> rfl, by cases m <;> rfl, fun l _ => by cases m <;> cases l <;> exact .refl _⟩
  case nodeResetRelease => exact ⟨fun e => by cases e <;> rfl, rfl, fun l _ => by cases l <;> exact .refl _⟩
  all_goals exact same

end Sys2Proof.Machine

open Sys2Proof Sys2Proof.Machine in
/-- Settles O8: every operation of an end that reaches its sender keeps the sender's fields together, so each command does. -/
theorem sendersKeptByStep : Obligations.SendersKeptByStep := by
  unfold Obligations.SendersKeptByStep
  intro s t kept stepped
  rcases step_cases stepped with rfl | ⟨c, rest, run⟩
  · exact kept
  · exact exec_sendersKept (s := { s with pending := rest }) kept run

open Sys2Proof Sys2Proof.Machine in
/-- Settles O6: every command but the resets of the node advances the node, and an input clears no counter but a lane reset
those of its lane. -/
theorem countersFallOnlyAtResets : Obligations.CountersFallOnlyAtResets := by
  unfold Obligations.CountersFallOnlyAtResets
  intro c s t run notPowerOn notReset
  obtain ⟨_, next, cases_⟩ := exec_advances c s
  obtain rfl := Host.Outcome.next.inj (next.symm.trans run)
  obtain ⟨counters, noListener, lanes⟩ := s.withInput_counters c
  rcases cases_ with on | reset | advances
  · exact absurd on notPowerOn
  · exact absurd reset notReset
  · refine ⟨fun e => ?_, fun e x => ?_, ?_, fun l other => (lanes l other).trans (advances.lanes l)⟩
    · rw [← counters e]
      exact advances.counters e
    · obtain ⟨_, line⟩ := (s.withInput_moved c e).line x
      have moved : ((s.withInput c).line e x).checkErrors = (s.line e x).checkErrors := by
        unfold State.line
        rw [line]
      rw [← moved]
      exact advances.checkErrors e x
    · rw [← noListener]
      exact advances.noListener

end

section
/-! PROOF. What the node sends is read back: the bytes of fields, of attempts and listed entries, of the bodies of control
frames, of BEACONs and of replies (R90, R91, R181 to R183). -/

namespace Sys2Proof.Machine

open Sys2Proof

variable {a : AttemptId} {ns : List ListedEntry} {bytes body : List Byte} {kind : Byte} {bit : Bool} {f : LineFrame}

/-! ## Fields (11.1) -/

@[simp] theorem wordOf_wordBytes (w : Word) : wordOf (w.extractLsb' 8 8) (w.extractLsb' 0 8) = w := by
  unfold wordOf
  rw [BitVec.extractLsb'_append_extractLsb'_eq_extractLsb' (by rfl)]
  exact BitVec.extractLsb'_eq_self

@[simp] theorem tagOf_tagBytes (t : Tag) :
    tagOf (t.extractLsb' 24 8) (t.extractLsb' 16 8) (t.extractLsb' 8 8) (t.extractLsb' 0 8) = t := by
  unfold tagOf
  rw [BitVec.extractLsb'_append_extractLsb'_eq_extractLsb' (by rfl),
    BitVec.extractLsb'_append_extractLsb'_eq_extractLsb' (by rfl),
    BitVec.extractLsb'_append_extractLsb'_eq_extractLsb' (by rfl)]
  exact BitVec.extractLsb'_eq_self

theorem natByte_toNat {n : Nat} (h : n < 256) : (natByte n).toNat = n := by
  rw [natByte, BitVec.toNat_ofNat]
  exact Nat.mod_eq_of_lt h

@[simp] theorem byteBool_boolByte (b : Bool) : byteBool (boolByte b) = some b := by cases b <;> rfl

@[simp] theorem decodeOrientation_code (o : Orientation) : decodeOrientation o.code = some o := by cases o <;> rfl

@[simp] theorem decodeEnd_code (e : EndId) : decodeEnd (endCode e) = some e := by cases e <;> rfl

@[simp] theorem decodeLineLetter_code (x : LineId) : decodeLineLetter (lineLetterCode x) = some x := by cases x <;> rfl

@[simp] theorem decodeEngineState_code (st : EngineState) : decodeEngineState st.code = some st := by cases st <;> rfl

@[simp] theorem decodeDissentReason_code (r : DissentReason) : decodeDissentReason r.code = some r := by cases r <;> rfl

@[simp] theorem decodeRefuseReason_code (r : RefuseReason) : decodeRefuseReason r.code = some r := by cases r <;> rfl

theorem decodeUnit_natByte {n : Nat} (h : n ≤ 99) : decodeUnit (natByte n) = some n := by
  rw [decodeUnit, natByte_toNat (Nat.lt_of_le_of_lt h (by decide)), if_pos h]

/-- A CAB's claim is read back, an INTERMEDIATE car's absent one as no. -/
theorem decodeKind_kindByte {k : CarKind} {claim : Bool} (h : k = .intermediate → claim = false) :
    decodeKind (kindByte k claim) = some (k, claim) := by
  cases k with
  | intermediate => rw [h rfl]; rfl
  | cab => cases claim <;> rfl

/-! ## Attempts and lists (11.2) -/

theorem decodeAttempt_bytes (h : a.tag ≠ 0) : decodeAttempt (a.bytes ++ bytes) = some (a, bytes) := by
  simpa [AttemptId.bytes, tagBytes, decodeAttempt] using h

/-- An entry that a list may carry (R182). -/
def ListedEntry.Sendable (n : ListedEntry) : Prop :=
  n.entry.tag ≠ 0 ∧ n.entry.unit ≤ 99 ∧ (n.entry.kind = .intermediate → n.entry.claim = false)

@[simp] theorem length_wordBytes (w : Word) : (wordBytes w).length = 2 := rfl

@[simp] theorem length_tagBytes (t : Tag) : (tagBytes t).length = 4 := rfl

@[simp] theorem AttemptId.length_bytes (a : AttemptId) : a.bytes.length = 6 := rfl

@[simp] theorem ListedEntry.length_bytes (n : ListedEntry) : n.bytes.length = 10 := rfl

/-- One entry is read back before the list goes on. -/
theorem decodeListed_cons {n : ListedEntry} {k : Nat} (h : n.Sendable) (small : n.entry.position < 256) :
    decodeListed (k + 1) n.entry.position (n.bytes ++ bytes) =
      (decodeListed k (n.entry.position + 1) bytes).map (fun p => (n :: p.1, p.2)) := by
  obtain ⟨tag, unit, kind⟩ := h
  have tag : n.entry.tag ≠ 0#32 := tag
  simp [ListedEntry.bytes, Entry.bytes, tagBytes, wordBytes, decodeListed, natByte_toNat small, tag, decodeUnit_natByte unit,
    decodeKind_kindByte kind]
  cases decodeListed k (n.entry.position + 1) bytes <;> rfl

/-- A list whose positions run on is read back, and what follows it is left. -/
theorem decodeListed_bytes {at_ : Nat} (sendable : ∀ n ∈ ns, n.Sendable)
    (positions : ns.map (fun n => n.entry.position) = (List.range ns.length).map (· + at_)) (small : at_ + ns.length ≤ 256) :
    decodeListed ns.length at_ (ns.flatMap ListedEntry.bytes ++ bytes) = some (ns, bytes) := by
  induction ns generalizing at_ with
  | nil => rfl
  | cons n ns ih =>
    rw [List.length_cons, List.range_succ_eq_map, List.map_cons, List.map_cons, List.map_map, List.cons.injEq] at positions
    obtain ⟨first, others⟩ := positions
    rw [Nat.zero_add] at first
    rw [List.length_cons] at small
    have more := ih (at_ := at_ + 1) (fun m mem => sendable m (List.mem_cons_of_mem n mem))
      (by rw [others]; exact List.map_congr_left fun k _ => by simp only [Function.comp_apply]; omega) (by omega)
    rw [List.flatMap_cons, List.append_assoc, List.length_cons]
    subst first
    rw [decodeListed_cons (sendable n List.mem_cons_self) (by omega), more]
    rfl

/-- The count and the entries of a list of a TALLY or CLOSURE (R183). -/
theorem ControlFrame.Sendable.ListSendable.read (h : ControlFrame.Sendable.ListSendable ns) :
    ¬ ((natByte ns.length).toNat < 1 ∨ Config.maxConsist < (natByte ns.length).toNat) ∧
      decodeListed (natByte ns.length).toNat 1 (ns.flatMap ListedEntry.bytes ++ bytes) = some (ns, bytes) := by
  obtain ⟨least, most, positions, sendable⟩ := h
  rw [natByte_toNat (by omega)]
  exact ⟨by unfold Config.maxConsist; omega, decodeListed_bytes sendable positions (by omega)⟩

/-! ## Bodies (11.3) -/

theorem decodeTally_body (tag : a.tag ≠ 0) (list : ControlFrame.Sendable.ListSendable ns) :
    decodeTally (a.bytes ++ natByte ns.length :: ns.flatMap ListedEntry.bytes) = some (a, ns) := by
  obtain ⟨count, listed⟩ := list.read (bytes := [])
  rw [List.append_nil] at listed
  unfold decodeTally
  rw [decodeAttempt_bytes tag]
  simp only [Option.bind_eq_bind, Option.bind_some]
  rw [if_neg count, listed]
  rfl

theorem decodeClosure_body {c : Word} (tag : a.tag ≠ 0) (list : ControlFrame.Sendable.ListSendable ns) :
    decodeClosure (a.bytes ++ natByte ns.length :: ns.flatMap ListedEntry.bytes ++ wordBytes c) = some (a, ns, c) := by
  obtain ⟨count, listed⟩ := list.read (bytes := wordBytes c)
  unfold decodeClosure
  rw [List.append_assoc, decodeAttempt_bytes tag]
  simp only [List.cons_append, Option.bind_eq_bind, Option.bind_some]
  rw [if_neg count, listed]
  simp [wordBytes]

theorem decodeAlert_body {o : Tag} {h : Nat} {re : Bool} {st : EngineState} (tag : o ≠ 0) (least : 1 ≤ h) (most : h ≤ 24) :
    decodeAlert (tagBytes o ++ [natByte h, boolByte re, st.code]) =
      some { originator := o, hops := h, restart := re, sender := st } := by
  have hops : (natByte h).toNat = h := natByte_toNat (Nat.lt_of_le_of_lt most (by decide))
  simpa [tagBytes, decodeAlert, hops] using ⟨tag, Nat.ne_of_gt least, most⟩

theorem decodeCommit_body {g c : Word} (tag : a.tag ≠ 0) (generation : g ≠ 0) :
    decodeCommit (a.bytes ++ wordBytes g ++ wordBytes c) = some (a, g, c) := by
  unfold decodeCommit
  rw [List.append_assoc, decodeAttempt_bytes tag]
  simpa [wordBytes] using generation

theorem decodeDissent_body {r : DissentReason} (tag : a.tag ≠ 0) : decodeDissent (a.bytes ++ [r.code]) = some (a, r) := by
  unfold decodeDissent
  rw [decodeAttempt_bytes tag]
  simp

theorem decodeDefer_body {t : Tag} (tag : a.tag ≠ 0) (other : t ≠ 0) : decodeDefer (a.bytes ++ tagBytes t) = some (a, t) := by
  unfold decodeDefer
  rw [decodeAttempt_bytes tag]
  simpa [tagBytes] using other

theorem decodeBeacon_body {t : Tag} {e : EndId} {g : Word} {quiet : Bool} (tag : t ≠ 0) :
    decodeBeacon (tagBytes t ++ endCode e :: wordBytes g ++ [boolByte quiet]) =
      some { tag := t, peerEnd := e, generation := g, quiet := quiet } := by
  simpa [tagBytes, wordBytes, decodeBeacon] using tag

/-- The longest body is that of a CLOSURE of 24 entries: 249 bytes. -/
theorem ControlFrame.Sendable.length_encode {f : ControlFrame} (h : f.Sendable) : f.encode.2.length < 256 := by
  cases f with
  | patternRequest x live => simp [ControlFrame.encode]
  | alert o hops re st => simp [ControlFrame.encode]
  | tally a ns =>
    obtain ⟨-, -, most, -⟩ := h
    simp [ControlFrame.encode]
    omega
  | closure a ns c =>
    obtain ⟨-, -, most, -⟩ := h
    simp [ControlFrame.encode]
    omega
  | commit a g c => simp [ControlFrame.encode]
  | dissent a re => simp [ControlFrame.encode]
  | defer a t => simp [ControlFrame.encode]

/-! ## Frames (R90, R181) -/

/-- What the node sends for a body of at most 255 bytes. -/
theorem LineFrame.carries_of_parts (parts : f.parts = (kind, bit, body)) (short : body.length < 256) :
    f.Carries kind bit (rawFrameOf kind bit body) := by
  refine ⟨⟨crc16 (kind :: boolByte bit :: natByte body.length :: body), rfl, ?_⟩, ?_, ?_⟩
  · unfold LineFrame.bytes
    rw [parts]
    rfl
  · simp [framePasses, rawFrameOf, natByte_toNat short]
  · cases bit <;> simp [frameBit, rawFrameOf, boolByte]

end Sys2Proof.Machine

open Sys2Proof Sys2Proof.Machine in
/-- Settles O17: each kind's body is read back from its bytes, and is short enough for its length byte. -/
theorem controlFramesReadBack : Obligations.ControlFramesReadBack := by
  unfold Obligations.ControlFramesReadBack
  refine ⟨fun bit f sendable => ⟨_, LineFrame.carries_of_parts rfl sendable.length_encode, ?_⟩,
    fun t e g quiet tag => ⟨_, LineFrame.carries_of_parts rfl (by simp), decodeBeacon_body tag⟩,
    fun bit => ⟨⟨_, LineFrame.carries_of_parts rfl (by decide), rfl⟩, ⟨_, LineFrame.carries_of_parts rfl (by decide), rfl⟩,
      fun reason => ⟨_, LineFrame.carries_of_parts rfl (by simp), decodeRefuseReason_code reason⟩⟩⟩
  cases f with
  | patternRequest x live => exact decodeLineLetter_code x
  | alert o hops re st =>
    obtain ⟨tag, least, most⟩ := sendable
    exact decodeAlert_body tag least most
  | tally a ns => exact decodeTally_body sendable.1 sendable.2
  | closure a ns c => exact decodeClosure_body sendable.1 sendable.2
  | commit a g c => exact decodeCommit_body sendable.1 sendable.2
  | dissent a re => exact decodeDissent_body sendable
  | defer a t => exact decodeDefer_body sendable.1 sendable.2

end

section
/-! PROOF. A DATA frame of a new bit on a free line: what the switch makes of it does not depend on the answer it earns, so it
is examined on the node that has answered ACCEPT (R103, R114 to R117, R130). -/

namespace Sys2Proof.Machine

open Sys2Proof

variable {s t r : State} {u : EndUnit} {e d : EndId} {x : LineId} {f : RawFrame} {g : DataFrame} {a : EndUnit → EndUnit}
  {k : Nat} {bit : Bool}

/-! ## Changes of an end apart from its queues and counters -/

/-- A change of an end that neither reads nor writes its queues and counters, and leaves its state. -/
structure EndUnit.Apart (a : EndUnit → EndUnit) : Prop where
  counters : ∀ (u : EndUnit) c, a { u with counters := c } = { a u with counters := c }
  queues : ∀ (u : EndUnit) q, a { u with queues := q } = { a u with queues := q }
  same : ∀ u : EndUnit, (a u).state = u.state ∧ (a u).counters = u.counters ∧ (a u).queues = u.queues

theorem EndUnit.Apart.count (h : EndUnit.Apart a) {c : EndCounters → EndCounters} :
    (s.modEnd e a).count d c = (s.count d c).modEnd e a := by
  have commutes : ∀ u : EndUnit, { a u with counters := c (a u).counters } = a { u with counters := c u.counters } :=
    fun u => by
    rw [(h.same u).2.1]
    exact (h.counters ..).symm
  rcases EndId.eq_or_other e d with rfl | rfl
  · unfold State.count
    rw [State.modEnd_modEnd, State.modEnd_modEnd]
    exact State.modEnd_congr (commutes _)
  · cases e <;> rfl

theorem EndUnit.Apart.enqueue (h : EndUnit.Apart a) {n : DataRecord} :
    (s.modEnd e a).enqueue d n = (s.enqueue d n).modEnd e a := by
  have commutes : ∀ u : EndUnit, { a u with queues := (a u).queues.push n } = a { u with queues := u.queues.push n } :=
    fun u => by
    rw [(h.same u).2.2]
    exact (h.queues ..).symm
  rcases EndId.eq_or_other e d with rfl | rfl
  · unfold State.enqueue
    rw [State.modEnd_modEnd, State.modEnd_modEnd]
    exact State.modEnd_congr (commutes _)
  · cases e <;> rfl

/-- A delivery touches the lanes, no end. -/
theorem State.deliver_modEnd {n : ReceiveEntry} : (s.modEnd e a).deliver n = (s.deliver n).modEnd e a := by
  unfold State.deliver State.anyAttached
  rw [State.laneA_modEnd, State.laneB_modEnd]
  split <;> cases e <;> rfl

theorem EndUnit.Apart.endUnit (h : EndUnit.Apart a) (s : State) (e d : EndId) :
    ((s.modEnd e a).endUnit d).state = (s.endUnit d).state ∧ ((s.modEnd e a).endUnit d).queues = (s.endUnit d).queues := by
  rcases EndId.eq_or_other e d with rfl | rfl
  · rw [State.endUnit_modEnd_self]
    exact ⟨(h.same _).1, (h.same _).2.2⟩
  · rw [State.endUnit_modEnd_other]
    exact ⟨rfl, rfl⟩

theorem EndUnit.Apart.admitted (h : EndUnit.Apart a) : (s.modEnd e a).admitted d = s.admitted d := by
  unfold State.admitted
  rw [(h.endUnit s e d).1]

theorem State.deliveryBlocked_modEnd : (s.modEnd e a).deliveryBlocked g = s.deliveryBlocked g := by cases e <;> rfl

/-- What the switch examines and what it makes of a DATA frame stand beside such a change. -/
theorem EndUnit.Apart.examineData (h : EndUnit.Apart a) :
    (s.modEnd e a).examineData d g = (s.examineData d g).map (fun t => t.modEnd e a) := by
  have directory := State.directory_modEnd s e a
  have entry : ∀ broadcast, (s.modEnd e a).arrivedEntry g broadcast = s.arrivedEntry g broadcast := fun _ => by
    unfold State.arrivedEntry
    rw [directory]
  have queues : ∀ d, ((s.modEnd e a).endUnit d).queues = (s.endUnit d).queues := fun d => (h.endUnit s e d).2
  unfold State.examineData State.examineBroadcastFrame State.examineThrough State.forward
  simp only [directory, entry, queues, h.admitted, h.count, h.enqueue, State.deliveryBlocked_modEnd, State.deliver_modEnd]
  repeat' split
  all_goals rfl

/-! ## The answer on a free line (R72, R103, R104) -/

/-- The end after the silence timer of a line has restarted. -/
def EndUnit.silence (k : Nat) (x : LineId) (u : EndUnit) : EndUnit := u.modLine x (fun n => { n with silenceTimer := some k })

/-- The end after a new frame has earned its answer on a free line. -/
def EndUnit.answered (k : Nat) (x : LineId) (bit : Bool) (b : Answer) (u : EndUnit) : EndUnit :=
  { u.modLine x (LineUnit.replying k bit b) with
    receiver := match b.final with
      | some final => some { bit := bit, answer := final }
      | none => u.receiver }

theorem EndUnit.silence_apart (k : Nat) (x : LineId) : EndUnit.Apart (EndUnit.silence k x) := by
  cases x <;> exact ⟨fun _ _ => rfl, fun _ _ => rfl, fun _ => ⟨rfl, rfl, rfl⟩⟩

theorem EndUnit.answered_apart (k : Nat) (x : LineId) (bit : Bool) (b : Answer) :
    EndUnit.Apart (EndUnit.answered k x bit b) := by
  cases x <;> exact ⟨fun _ _ => rfl, fun _ _ => rfl, fun _ => ⟨rfl, rfl, rfl⟩⟩

theorem State.restartSilence_eq (s : State) (e : EndId) (x : LineId) :
    s.restartSilence e x = s.modEnd e (EndUnit.silence (4000 * s.store.working.beacon) x) := by
  unfold State.restartSilence
  rw [State.silenceTime_eq]
  rfl

theorem State.accepted_eq (s : State) (e : EndId) (x : LineId) (bit : Bool) :
    s.accepted e x bit = s.modEnd e (EndUnit.answered (4000 * s.store.working.beacon) x bit .accept) := rfl

/-- What a new frame earns on a free line leaves at once, recorded when it is final. -/
theorem EndUnit.earn_silence {b : LineFrame} {n : Answer} (active : (u.line x).state = .active) (free : (u.line x).FreeToSend) :
    (u.silence k x).earn b x (.plain bit n) = u.answered k x bit n := by
  have active' : ((u.silence k x).line x).state = .active := by
    unfold EndUnit.silence
    rwa [EndUnit.line_modLine_self]
  have free' : ((u.silence k x).line x).FreeToSend := by
    unfold EndUnit.silence
    rwa [EndUnit.line_modLine_self]
  have recorded : ∀ v : EndUnit, v.line x = (u.silence k x).line x → v.answer b x (.plain bit n) = v.setLine x
      { (u.silence k x).line x with tx := { Transmitter.idle with sending := some (.reply bit n) } } := fun v line => by
    rw [EndUnit.answer_here (by rw [line]; exact ⟨active', free'.1⟩)]
    unfold EndUnit.modLine
    rw [line, LineUnit.queueReply_free active' free']
    rfl
  unfold EndUnit.earn
  rw [recorded _ (by cases n <;> cases x <;> rfl)]
  cases n <;> cases x <;> rfl

theorem State.earn_silence {n : Answer} (active : (s.line e x).state = .active) (free : (s.line e x).FreeToSend) :
    (s.modEnd e (EndUnit.silence k x)).earn e x (.plain bit n) = s.modEnd e (EndUnit.answered k x bit n) := by
  rw [State.earn_eq, State.modEnd_modEnd]
  exact State.modEnd_congr (EndUnit.earn_silence active free)

/-! ## The arrival (R103) -/

/-- A DATA frame that is whole, new and in form, on a free line. -/
structure State.TakesData (s : State) (e : EndId) (x : LineId) (f : RawFrame) (g : DataFrame) : Prop where
  hears : s.Hears e x kindData f
  free : (s.line e x).FreeToSend
  new : (s.endUnit e).FindsNew f
  form : decodeData f.body = some g

theorem State.TakesData.exec_data (h : s.TakesData e x f g) : exec (.data e x f) s =
    .next ((s.modEnd e (EndUnit.silence (4000 * s.store.working.beacon) x)).examineArrival e x (frameBit f) g) := by
  have new : ((s.modEnd e (EndUnit.silence (4000 * s.store.working.beacon) x)).endUnit e).FindsNew f := by
    rw [State.endUnit_modEnd_self]
    unfold EndUnit.FindsNew EndUnit.silence
    rw [EndUnit.receiver_modLine]
    exact h.new
  have heard := State.arrive_heard (fun r => r.takeAwaiting e x f decodeData
    (fun b r => r.examineArrival e x (frameBit f) b)) h.hears
  rw [State.restartSilence_eq, State.takeAwaiting_new new h.form] at heard
  exact congrArg Host.Outcome.next heard

theorem State.TakesData.notAdmitted (h : s.TakesData e x f g) (admitted : (s.endUnit e).state ≠ .admitted) :
    exec (.data e x f) s = .next (s.modEnd e
      (EndUnit.answered (4000 * s.store.working.beacon) x (frameBit f) (.refuse .notAdmitted))) := by
  have away : (!(s.modEnd e (EndUnit.silence (4000 * s.store.working.beacon) x)).admitted e) = true := by
    rw [(EndUnit.silence_apart _ x).admitted]
    simpa [State.admitted] using admitted
  rw [h.exec_data]
  unfold State.examineArrival
  rw [if_pos away, State.earn_silence h.hears.1 h.free]

/-- On an ADMITTED end the generation is looked at next. -/
theorem State.TakesData.onAdmitted (h : s.TakesData e x f g) (admitted : (s.endUnit e).state = .admitted) :
    exec (.data e x f) s = .next (
      if g.generation ≠ s.directory.generation then
        (s.count e EndCounters.addStale).modEnd e
          (EndUnit.answered (4000 * s.store.working.beacon) x (frameBit f) (.refuse .stale))
      else ((s.examineData e g).map (fun t =>
          t.modEnd e (EndUnit.answered (4000 * s.store.working.beacon) x (frameBit f) .accept))).getD
        (s.modEnd e (EndUnit.answered (4000 * s.store.working.beacon) x (frameBit f) .hold))) := by
  have apart := EndUnit.silence_apart (4000 * s.store.working.beacon) x
  have here : ¬ (!(s.modEnd e (EndUnit.silence (4000 * s.store.working.beacon) x)).admitted e) = true := by
    rw [apart.admitted]
    simp [State.admitted, admitted]
  have same : ∀ {t}, s.Beside t → (t.line e x).state = .active ∧ (t.line e x).FreeToSend := fun beside => by
    obtain ⟨-, line, -⟩ := beside.unit e
    rw [line]
    exact ⟨h.hears.1, h.free⟩
  rw [h.exec_data]
  unfold State.examineArrival
  rw [if_neg here, State.directory_modEnd]
  refine congrArg Host.Outcome.next ?_
  split
  · obtain ⟨active, free⟩ := same (t := s.count e EndCounters.addStale) (State.Beside.refl s).count
    rw [apart.count, State.earn_silence active free]
  · rw [apart.examineData]
    cases examined : s.examineData e g with
    | some t =>
      obtain ⟨active, free⟩ := same (State.examineData_beside examined)
      exact State.earn_silence active free
    | none => exact State.earn_silence h.hears.1 h.free

/-- A frame of the active generation is examined on the node that has answered ACCEPT, and held back where that takes it in no
way. -/
theorem State.TakesData.examined (h : s.TakesData e x f g) (admitted : (s.endUnit e).state = .admitted)
    (generation : g.generation = s.directory.generation) :
    exec (.data e x f) s = .next (((s.accepted e x (frameBit f)).examineData e g).getD
      (s.modEnd e (EndUnit.answered (4000 * s.store.working.beacon) x (frameBit f) .hold))) := by
  rw [h.onAdmitted admitted, if_neg (not_not.2 generation), State.accepted_eq, (EndUnit.answered_apart ..).examineData]

theorem State.TakesData.taken (h : s.TakesData e x f g) (admitted : (s.endUnit e).state = .admitted)
    (generation : g.generation = s.directory.generation) (taken : (s.accepted e x (frameBit f)).examineData e g = some t) :
    exec (.data e x f) s = .next t := by
  rw [h.examined admitted generation, taken]
  rfl

theorem State.TakesData.held (h : s.TakesData e x f g) (admitted : (s.endUnit e).state = .admitted)
    (generation : g.generation = s.directory.generation) (held : (s.accepted e x (frameBit f)).examineData e g = none) :
    exec (.data e x f) s =
      .next (s.modLine e x (LineUnit.replying (4000 * s.store.working.beacon) (frameBit f) .hold)) := by
  rw [h.examined admitted generation, held]
  cases x <;> rfl

/-! ## The switch's examination (R114 to R117, R130) -/

theorem LanePort.fullOfCommand_iff {p : LanePort} : p.fullOfCommand = true ↔
    p.attached = true ∧ 16 ≤ p.receiveQueue.length ∧ ∀ n ∈ p.receiveQueue, n.cls = .command := by
  simp only [LanePort.fullOfCommand, Bool.and_eq_true, decide_eq_true_eq, List.all_eq_true, ReceiveEntry.isCommand, beq_iff_eq,
    and_assoc]
  rfl

theorem State.deliveryBlocked_iff : s.deliveryBlocked g = true ↔ g.cls = .command ∧ s.CommandBlocked := by
  have either : s.CommandBlocked ↔ s.laneA.fullOfCommand = true ∨ s.laneB.fullOfCommand = true := by
    rw [LanePort.fullOfCommand_iff, LanePort.fullOfCommand_iff]
    exact ⟨fun ⟨l, full⟩ => by cases l; exacts [.inl full, .inr full],
      fun full => full.elim (fun a => ⟨.laneA, a⟩) (fun b => ⟨.laneB, b⟩)⟩
  rw [either]
  simp [State.deliveryBlocked]

/-- A target beyond the consist (R114). -/
theorem State.examineData_beyond (beyond : s.directory.entries.length < g.target) :
    s.examineData e g = some (s.count e EndCounters.addMisroute) := by
  have unicast : g.target ≠ 0 := Nat.ne_of_gt (Nat.zero_lt_of_lt beyond)
  unfold State.examineData
  rw [if_neg unicast, if_pos (show s.directory.size < g.target from beyond)]

theorem State.examineData_broadcast (broadcast : g.target = 0) : s.examineData e g = s.examineBroadcastFrame e g := by
  unfold State.examineData
  rw [if_pos broadcast]

section
variable {p : Nat} {o : Orientation}

/-- A frame for a car of the consist: its own target or another one. -/
theorem State.examineData_within (position : s.directory.ownPosition = some p)
    (orientation : s.directory.ownOrientation = some o) (least : 1 ≤ g.target)
    (most : g.target ≤ s.directory.entries.length) : s.examineData e g =
      if g.target = p then
        if g.hops ≠ 1 then some (s.count e EndCounters.addMisroute)
        else if s.deliveryBlocked g then none
        else some (s.deliver (s.arrivedEntry g false))
      else s.examineThrough e p o g := by
  unfold State.examineData
  rw [if_neg (Nat.ne_of_gt least), if_neg (show ¬ s.directory.size < g.target from Nat.not_lt.2 most), position, orientation]

theorem State.examineThrough_misroutes (back : g.hops = 1 ∨ facing o p g.target = e) :
    s.examineThrough e p o g = some (s.count e EndCounters.addMisroute) := if_pos back

/-- A frame that runs on leaves by the other end, or is dropped or held back there. -/
theorem State.examineThrough_onward (hops : g.hops ≠ 1) (onward : facing o p g.target = e.other) :
    s.examineThrough e p o g =
      if (s.endUnit e.other).state ≠ .admitted then some (s.count e.other EndCounters.addNoAnswer)
      else if (s.endUnit e.other).queues.hasRoom g.cls then some (s.forward e.other g) else none := by
  have forth : ¬ (g.hops = 1 ∨ facing o p g.target = e) := by
    rw [onward]
    exact not_or.2 ⟨hops, EndId.other_ne e⟩
  unfold State.examineThrough
  dsimp only
  rw [if_neg forth, onward]
  simp [State.admitted]

end

theorem State.examineBroadcastFrame_blocked (blocked : s.deliveryBlocked g = true) : s.examineBroadcastFrame e g = none :=
  if_pos blocked

/-- A broadcast for the last car. -/
theorem State.examineBroadcastFrame_last (free : s.deliveryBlocked g = false) (last : g.hops = 1) :
    s.examineBroadcastFrame e g = some (s.deliver (s.arrivedEntry g true)) := by
  unfold State.examineBroadcastFrame
  dsimp only
  rw [if_neg (by rw [free]; decide), if_pos (Nat.le_of_eq last)]

/-- A broadcast with hops left is taken whole or held back whole. -/
theorem State.examineBroadcastFrame_onward (free : s.deliveryBlocked g = false) (more : 2 ≤ g.hops) :
    s.examineBroadcastFrame e g =
      if (s.endUnit e.other).state ≠ .admitted then
        some ((s.deliver (s.arrivedEntry g true)).count e.other EndCounters.addNoAnswer)
      else if (s.endUnit e.other).queues.hasRoom g.cls then
        some ((s.deliver (s.arrivedEntry g true)).forward e.other g)
      else none := by
  unfold State.examineBroadcastFrame
  dsimp only
  rw [if_neg (by rw [free]; decide), if_neg (Nat.not_le.2 more)]
  simp [State.admitted]

/-- A broadcast with hops left whose copy finds no room is held back, whatever the lanes can take. -/
theorem State.examineBroadcastFrame_noRoom (more : 2 ≤ g.hops) (admitted : (s.endUnit e.other).state = .admitted)
    (full : (s.endUnit e.other).queues.hasRoom g.cls = false) : s.examineBroadcastFrame e g = none := by
  cases blocked : s.deliveryBlocked g with
  | true => exact State.examineBroadcastFrame_blocked blocked
  | false =>
    rw [State.examineBroadcastFrame_onward blocked more, if_neg (not_not.2 admitted), if_neg (by rw [full]; decide)]

end Sys2Proof.Machine

open Sys2Proof Sys2Proof.Machine in
/-- Settles O43: on an ADMITTED end under the active generation the frame is examined on the node that has answered ACCEPT, and
each target takes one branch of the examination. -/
theorem dataFramesAreDeliveredForwardedOrHeld : Obligations.DataFramesAreDeliveredForwardedOrHeld := by
  unfold Obligations.DataFramesAreDeliveredForwardedOrHeld
  intro s e x f d hears free new form bit s' size out refused heldBack misrouted unsent onward entry blocked
  have takes : s.TakesData e x f d := ⟨hears, free, new, form⟩
  have directory : s'.directory = s.directory := State.accepted_directory _
  have out_eq : s'.endUnit e.other = out := State.accepted_other _
  have isBlocked : s'.deliveryBlocked d = true ↔ blocked := by
    have lanes : s'.CommandBlocked ↔ s.CommandBlocked := by simp only [State.CommandBlocked, s', State.accepted_lane]
    rw [State.deliveryBlocked_iff, lanes]
  have delivered : ∀ {b t}, s'.Delivers (entry b) t → s'.deliver (s'.arrivedEntry d b) = t := fun h => by
    unfold State.arrivedEntry
    rw [directory]
    exact State.delivers_deliver h
  refine ⟨takes.notAdmitted, fun admitted other => (takes.onAdmitted admitted).trans (by rw [if_pos other]; rfl),
    fun p o admitted generation position orientation least most => ?_⟩
  have taken : ∀ {t}, s'.examineData e d = some t → exec (.data e x f) s = .next t := takes.taken admitted generation
  have held : s'.examineData e d = none → exec (.data e x f) s = .next heldBack := takes.held admitted generation
  rw [← directory] at position orientation
  refine ⟨fun beyond => taken (State.examineData_beyond (by rwa [directory])), fun own => ?_, fun first last notOwn => ?_,
    fun broadcast => ?_⟩
  · have here := State.examineData_within (e := e) (g := d) position orientation (by omega) (by rw [directory]; omega)
    rw [if_pos own] at here
    refine ⟨fun hops => taken (here.trans (if_pos hops)), fun hops full => held ?_, fun t hops free delivers => taken ?_⟩
    · rw [here, if_neg (not_not.2 hops), if_pos (isBlocked.2 full)]
    · rw [here, if_neg (not_not.2 hops), if_neg (mt isBlocked.1 free), delivered delivers]
  · have through := (State.examineData_within (e := e) (g := d) position orientation first (by rwa [directory])).trans
      (if_neg notOwn)
    refine ⟨fun back => taken (through.trans (State.examineThrough_misroutes back)), fun hops forth => ?_⟩
    rw [State.examineThrough_onward hops forth, out_eq] at through
    refine ⟨fun away => taken (through.trans (if_pos away)), fun here room => taken ?_, fun here full => held ?_⟩
    · rw [through, if_neg (not_not.2 here), if_pos room]
      rfl
    · rw [through, if_neg (not_not.2 here), if_neg (by rw [full]; decide)]
  · have all := State.examineData_broadcast (s := s') (e := e) broadcast
    refine ⟨fun full => held (all.trans (State.examineBroadcastFrame_blocked (isBlocked.2 full))),
      fun more here full => held (all.trans (State.examineBroadcastFrame_noRoom more (by rwa [out_eq]) (by rwa [out_eq]))),
      fun t free delivers => ?_⟩
    have free : s'.deliveryBlocked d = false := eq_false_of_ne_true (mt isBlocked.1 free)
    have whole : 2 ≤ d.hops → s'.examineData e d =
        if out.state ≠ .admitted then some (t.count e.other EndCounters.addNoAnswer)
        else if out.queues.hasRoom d.cls then some (t.forward e.other d) else none := fun more => by
      rw [all, State.examineBroadcastFrame_onward free more, out_eq, delivered delivers]
    refine ⟨fun last => taken ?_, fun more away => taken ((whole more).trans (if_pos away)), fun more here room => taken ?_⟩
    · rw [all, State.examineBroadcastFrame_last free last, delivered delivers]
    · rw [whole more, if_neg (not_not.2 here), if_pos room]
      rfl

end

section
/-! PROOF. DATA frames, lane requests and settings areas are read back from their bytes (R111, R155, R157, R174). -/

namespace Sys2Proof.Machine

open Sys2Proof

variable {d : DataFrame} {w : Settings}

/-! ## Fields (11.1, 11.6) -/

@[simp] theorem decodeClass_code (c : TrafficClass) : decodeClass c.code = some c := by cases c <;> rfl

theorem natWord_toNat {n : Nat} (h : n < 65536) : (natWord n).toNat = n := by
  rw [natWord, BitVec.toNat_ofNat]
  exact Nat.mod_eq_of_lt h

/-- An offset whose magnitude fits its four bits is read back. -/
theorem decodeOffset_byte {o : Offset} (h : o.magnitude ≤ 15) : decodeOffset o.byte = o := by
  have each : ∀ (subtract : Bool) (magnitude : Fin 16),
      decodeOffset (Offset.byte ⟨subtract, magnitude⟩) = ⟨subtract, magnitude⟩ := by decide
  exact each o.subtract ⟨o.magnitude, by omega⟩

/-! ## DATA frames (11.3) -/

/-- The ranges of the fields of a DATA frame (R183). -/
structure DataFrame.InRange (d : DataFrame) : Prop where
  target : d.target ≤ 24
  hops : 1 ≤ d.hops ∧ d.hops ≤ 23
  origin : 1 ≤ d.origin ∧ d.origin ≤ 24
  generation : d.generation ≠ 0
  payload : 1 ≤ d.payload.length ∧ d.payload.length ≤ 64

theorem DataFrame.InRange.length_body (h : d.InRange) : d.body.length < 256 := by
  have most := h.payload.2
  simp [DataFrame.body]
  omega

theorem DataFrame.InRange.decodeData_body (h : d.InRange) : decodeData d.body = some d := by
  obtain ⟨target, ⟨leastHops, mostHops⟩, ⟨leastOrigin, mostOrigin⟩, generation, ⟨leastPayload, mostPayload⟩⟩ := h
  have sent : d.body = natByte d.target :: natByte d.hops :: natByte d.origin :: d.generation.extractLsb' 8 8 ::
      d.generation.extractLsb' 0 8 :: d.cls.code :: natByte d.payload.length :: d.payload := rfl
  rw [sent, decodeData, decodeClass_code, wordOf_wordBytes, natByte_toNat (by omega), natByte_toNat (by omega),
    natByte_toNat (by omega), natByte_toNat (by omega)]
  refine if_neg ?_
  simp only [generation, Config.maxConsist, false_or, ne_eq, not_true_eq_false, or_false]
  omega

/-! ## Lane requests (11.4) -/

/-- A request frame is taken whatever bytes follow it. -/
theorem parseRequest_requestFrame {kind : Byte} {body fill : List Byte} (short : body.length ≤ 72) :
    parseRequest (requestFrame kind body ++ fill) = some (kind, body) := by
  have length : (natByte body.length).toNat = body.length := natByte_toNat (by omega)
  unfold requestFrame
  simp only [List.cons_append, List.append_assoc, parseRequest, length]
  rw [if_neg (by simp; omega), List.take_left, List.drop_left]
  simp [wordBytes]

/-! ## Settings areas (11.6) -/

/-- The fourteen bytes of an area, one of them a code of the car kind. -/
theorem Settings.areaBytes_eq (w : Settings) : ∃ kind : Byte, w.areaBytes =
    [natByte w.unit, kind, w.offset1A.byte, w.offset1B.byte, w.offset2A.byte, w.offset2B.byte, natByte w.wmin,
      (natWord w.settle).extractLsb' 8 8, (natWord w.settle).extractLsb' 0 8, natByte w.beacon,
      (natWord w.reliefProcess).extractLsb' 8 8, (natWord w.reliefProcess).extractLsb' 0 8,
      (natWord w.reliefBulk).extractLsb' 8 8, (natWord w.reliefBulk).extractLsb' 0 8] ∧
    decodeCarKind kind = some w.kind :=
  ⟨_, rfl, by cases w.kind <;> rfl⟩

theorem Settings.InRange.decodeArea_areaBytes (h : w.InRange) : decodeArea w.tag w.areaBytes = some w := by
  obtain ⟨unit, offsets, leastWmin, mostWmin, leastSettle, mostSettle, tens, leastBeacon, mostBeacon, leastProcess, mostProcess,
    leastBulk, mostBulk⟩ := h
  obtain ⟨kind, sent, read⟩ := w.areaBytes_eq
  have offset1A : decodeOffset w.offset1A.byte = w.offset1A := decodeOffset_byte (offsets .end1 .lineA)
  have offset1B : decodeOffset w.offset1B.byte = w.offset1B := decodeOffset_byte (offsets .end1 .lineB)
  have offset2A : decodeOffset w.offset2A.byte = w.offset2A := decodeOffset_byte (offsets .end2 .lineA)
  have offset2B : decodeOffset w.offset2B.byte = w.offset2B := decodeOffset_byte (offsets .end2 .lineB)
  have wmin : (natByte w.wmin).toNat = w.wmin := natByte_toNat (by omega)
  have beacon : (natByte w.beacon).toNat = w.beacon := natByte_toNat (by omega)
  have settle : (natWord w.settle).toNat = w.settle := natWord_toNat (by omega)
  have process : (natWord w.reliefProcess).toNat = w.reliefProcess := natWord_toNat (by omega)
  have bulk : (natWord w.reliefBulk).toNat = w.reliefBulk := natWord_toNat (by omega)
  rw [sent]
  simp only [decodeArea, decodeUnit_natByte unit, read, offset1A, offset1B, offset2A, offset2B, wmin, beacon, wordOf_wordBytes,
    settle, process, bulk, Option.bind_eq_bind, Option.bind_some]
  exact if_neg (by omega)

/-- An area written from settings in range passes its check and loads them. -/
theorem Settings.InRange.load (h : w.InRange) :
    SettingsArea.load (.written w.areaBytes (crc16 w.areaBytes)) w.tag = some w :=
  (if_pos rfl).trans h.decodeArea_areaBytes

end Sys2Proof.Machine

open Sys2Proof Sys2Proof.Machine in
/-- Settles O18: the fields are read back from their bytes, and each length fits its byte. -/
theorem dataRequestsAndSettingsReadBack : Obligations.DataRequestsAndSettingsReadBack := by
  unfold Obligations.DataRequestsAndSettingsReadBack
  refine ⟨fun bit d o target leastHops mostHops leastOrigin mostOrigin generation leastPayload mostPayload => ?_,
    fun kind body fill => parseRequest_requestFrame, fun w inRange => inRange.load⟩
  have inRange : d.InRange :=
    ⟨target, ⟨leastHops, mostHops⟩, ⟨leastOrigin, mostOrigin⟩, generation, ⟨leastPayload, mostPayload⟩⟩
  exact ⟨_, LineFrame.carries_of_parts rfl inRange.length_body, inRange.decodeData_body⟩

end

section
/-! PROOF. What resolution makes of the position an address names, by where that position lies in the consist and from this
node (R108 to R110). -/

namespace Sys2Proof.Machine

open Sys2Proof

variable {d : Directory} {a : Address} {n p m h : Nat} {o : Orientation} {e : EndId} {t : Int}

/-! ## Stages 2 to 4 of a target position (R109, R110) -/

theorem resolveTarget_outside (outside : t < 1 ∨ (n : Int) < t) : resolveTarget n p o t = .outOfConsist := if_pos outside

/-- A target within 1..N is compared with the own position. -/
theorem resolveTarget_within (least : 1 ≤ t) (most : t ≤ n) : resolveTarget n p o t =
    if t.toNat = p then .loopback
    else .resolved t.toNat (facing o p t.toNat) (if p < t.toNat then t.toNat - p else p - t.toNat) := if_neg (by omega)

theorem resolveTarget_own (least : 1 ≤ t) (most : t ≤ n) (own : t = p) : resolveTarget n p o t = .loopback := by
  rw [resolveTarget_within least most, if_pos (by omega)]

/-- A target above this node lies out of its up end. -/
theorem resolveTarget_above (least : 1 ≤ t) (most : t ≤ n) (above : p < t) :
    resolveTarget n p o t = .resolved t.toNat o.upEnd (t - p).toNat := by
  have up : p < t.toNat := by omega
  rw [resolveTarget_within least most, if_neg (by omega), facing, if_pos up, if_pos up]
  exact congrArg (Resolution.resolved _ _) (by omega)

/-- A target below this node lies out of its down end. -/
theorem resolveTarget_below (least : 1 ≤ t) (most : t ≤ n) (below : t < p) :
    resolveTarget n p o t = .resolved t.toNat o.downEnd (p - t).toNat := by
  have down : ¬ p < t.toNat := by omega
  rw [resolveTarget_within least most, if_neg (by omega), facing, if_neg down, if_neg down]
  exact congrArg (Resolution.resolved _ _) (by omega)

/-- All that a target which is resolved can be: another position of the consist, above this node or below it. -/
theorem resolveTarget_resolved (resolved : resolveTarget n p o t = .resolved m e h) : 1 ≤ t ∧ t ≤ n ∧
    ((p < t ∧ e = o.upEnd ∧ h = (t - p).toNat) ∨ (t < p ∧ e = o.downEnd ∧ h = (p - t).toNat)) := by
  by_cases outside : t < 1 ∨ (n : Int) < t
  · rw [resolveTarget_outside outside] at resolved
    cases resolved
  have least : 1 ≤ t := by omega
  have most : t ≤ n := by omega
  refine ⟨least, most, ?_⟩
  rcases lt_trichotomy (p : Int) t with above | own | below
  · rw [resolveTarget_above least most above] at resolved
    cases resolved
    exact .inl ⟨above, rfl, rfl⟩
  · rw [resolveTarget_own least most own.symm] at resolved
    cases resolved
  · rw [resolveTarget_below least most below] at resolved
    cases resolved
    exact .inr ⟨below, rfl, rfl⟩

/-- The hops of a resolved target are links of a consist of at most 24 cars. -/
theorem resolveTarget_hops (resolved : resolveTarget n p o t = .resolved m e h) (least : 1 ≤ p) (most : p ≤ n)
    (size : n ≤ 24) : 1 ≤ h ∧ h ≤ 23 := by
  obtain ⟨first, last, ⟨above, -, hops⟩ | ⟨below, -, hops⟩⟩ := resolveTarget_resolved resolved <;> omega

/-! ## Stage 1 (R108) -/

/-- Under a directory an address is resolved by the position it names. -/
theorem Directory.resolve_of_names (generation : d.generation ≠ 0) (position : d.ownPosition = some p)
    (orientation : d.ownOrientation = some o) (names : a.Names d p o t) :
    d.resolve a = resolveTarget d.entries.length p o t := by
  have present : d.present = true := bne_iff_ne.2 generation
  unfold Directory.resolve
  rw [present, position, orientation]
  cases a with
  | position k => rw [show t = k from names]; rfl
  | offset k => cases o <;> rw [names] <;> rfl
  | tag w =>
    obtain ⟨k, found, rfl⟩ := names
    simp only [found]
    rfl
  | broadcast => cases names

/-- The position an OFFSET names lies out of End 2 for a positive operand and out of End 1 for a negative one, as many links
away as its magnitude, whichever way the car stands. -/
theorem resolveTarget_offset {k : Int} (names : (Address.offset k).Names d p o t)
    (resolved : resolveTarget n p o t = .resolved m e h) : e = (if 0 < k then .end2 else .end1) ∧ h = k.natAbs := by
  obtain ⟨-, -, sides⟩ := resolveTarget_resolved resolved
  cases o with
  | direct =>
    have target : t = p + k := names
    rcases sides with ⟨above, rfl, rfl⟩ | ⟨below, rfl, rfl⟩
    · exact ⟨(if_pos (by omega)).symm, by omega⟩
    · exact ⟨(if_neg (by omega)).symm, by omega⟩
  | reversed =>
    have target : t = p - k := names
    rcases sides with ⟨above, rfl, rfl⟩ | ⟨below, rfl, rfl⟩
    · exact ⟨(if_neg (by omega)).symm, by omega⟩
    · exact ⟨(if_pos (by omega)).symm, by omega⟩

end Sys2Proof.Machine

open Sys2Proof Sys2Proof.Machine in
/-- Settles O21: the address is resolved by the position it names, and that lies outside, here, above or below. -/
theorem resolutionFollowsTheStages : Obligations.ResolutionFollowsTheStages := by
  unfold Obligations.ResolutionFollowsTheStages
  intro d p o a t generation position orientation names
  rw [Directory.resolve_of_names generation position orientation names]
  refine ⟨resolveTarget_outside, fun ⟨least, most⟩ own => resolveTarget_own least most own,
    fun ⟨least, most⟩ above => (resolveTarget_above least most above).trans (by cases o <;> rfl),
    fun ⟨least, most⟩ below => (resolveTarget_below least most below).trans (by cases o <;> rfl),
    fun m e h least most size resolved => resolveTarget_hops resolved least most size, fun k m e h offset resolved => ?_⟩
  subst offset
  exact resolveTarget_offset names resolved

end

section
/-! PROOF. The checks of a SEND in their order, and what a message that passes them becomes (R112, R113, R122 to R124). -/

namespace Sys2Proof.Machine

open Sys2Proof

variable {s t : State} {l : LaneId} {m : Message} {body : List Byte} {result : ResultCode} {d : Directory} {p : Nat}
  {o : Orientation}

/-! ## Resolution and the copies of a broadcast (R107, R113) -/

theorem Directory.resolve_absent (generation : d.generation = 0) (a : Address) : d.resolve a = .noDirectory := by
  have absent : d.present = false := bne_eq_false_iff_eq.2 generation
  unfold Directory.resolve
  rw [absent]

/-- The up copy goes to the cars above, as far as the last. -/
theorem Directory.upCopy_eq (position : d.ownPosition = some p) (orientation : d.ownOrientation = some o) :
    d.upCopy = if p < d.entries.length then some (o.upEnd, d.entries.length - p) else none := by
  unfold Directory.upCopy
  rw [position, orientation]
  rfl

/-- The down copy goes to the cars below, as far as the first. -/
theorem Directory.downCopy_eq (position : d.ownPosition = some p) (orientation : d.ownOrientation = some o) :
    d.downCopy = if 1 < p then some (o.downEnd, p - 1) else none := by
  unfold Directory.downCopy
  rw [position, orientation]

/-- A broadcast makes no copy exactly in a consist of one car. -/
theorem Directory.no_copy_iff (position : d.ownPosition = some p) (orientation : d.ownOrientation = some o) (least : 1 ≤ p)
    (most : p ≤ d.entries.length) : d.upCopy = none ∧ d.downCopy = none ↔ d.entries.length = 1 := by
  simp only [Directory.upCopy_eq position orientation, Directory.downCopy_eq position orientation, ite_eq_right_iff,
    reduceCtorEq, imp_false]
  omega

/-! ## The judgement (R124) -/

theorem State.sendFull_iff : s.sendFull l = true ↔ 8 ≤ (s.lane l).sendQueue.length := decide_eq_true_iff

/-- A message for one car goes by what its address resolves to. -/
theorem State.judgeSend_unicast (unicast : m.address ≠ .broadcast) :
    (s.directory.resolve m.address = .noDirectory → s.judgeSend l m = (.noDirectory, s)) ∧
    (s.directory.resolve m.address = .unknownTag → s.judgeSend l m = (.unknownTag, s)) ∧
    (s.directory.resolve m.address = .outOfConsist → s.judgeSend l m = (.outOfConsist, s)) ∧
    (s.directory.resolve m.address = .loopback →
      s.judgeSend l m = (.done, s.deliver (s.localEntry m.cls m.payload false))) ∧
    ∀ k e h, s.directory.resolve m.address = .resolved k e h → s.judgeSend l m =
      if 8 ≤ (s.lane l).sendQueue.length then (.full, s) else (.done, s.queueSend l (sendRecord s.directory m)) := by
  unfold State.judgeSend
  dsimp only
  split
  next broadcast => exact absurd broadcast unicast
  next =>
    refine ⟨fun h => by rw [h], fun h => by rw [h], fun h => by rw [h], fun h => by rw [h], fun k e h resolved => ?_⟩
    rw [resolved]
    simp only [State.sendFull_iff]

/-- A broadcast needs a directory, and room only where it makes a copy. -/
theorem State.judgeSend_broadcast (broadcast : m.address = .broadcast) : s.judgeSend l m =
    if s.directory.generation = 0 then (.noDirectory, s)
    else if s.directory.upCopy = none ∧ s.directory.downCopy = none then
      (.done, s.deliver (s.localEntry m.cls m.payload true))
    else if 8 ≤ (s.lane l).sendQueue.length then (.full, s)
    else (.done, (s.deliver (s.localEntry m.cls m.payload true)).queueSend l (sendRecord s.directory m)) := by
  unfold State.judgeSend
  rw [broadcast]
  simp [State.sendFull_iff, Directory.present]

theorem State.judgeSend_noDirectory (generation : s.directory.generation = 0) :
    s.judgeSend l m = (.noDirectory, s) := by
  by_cases broadcast : m.address = .broadcast
  · rw [State.judgeSend_broadcast broadcast, if_pos generation]
  · exact (State.judgeSend_unicast broadcast).1 (Directory.resolve_absent generation _)

/-- Under a directory a broadcast is a local delivery, and in a consist of more than one car joins the send queue too. -/
theorem State.judgeSend_copies (broadcast : m.address = .broadcast) (generation : s.directory.generation ≠ 0)
    (position : s.directory.ownPosition = some p) (orientation : s.directory.ownOrientation = some o) (least : 1 ≤ p)
    (most : p ≤ s.directory.entries.length) : s.judgeSend l m =
      if s.directory.entries.length = 1 then (.done, s.deliver (s.localEntry m.cls m.payload true))
      else if 8 ≤ (s.lane l).sendQueue.length then (.full, s)
      else (.done, (s.deliver (s.localEntry m.cls m.payload true)).queueSend l (sendRecord s.directory m)) := by
  rw [State.judgeSend_broadcast broadcast, if_neg generation]
  simp only [Directory.no_copy_iff position orientation least most]

/-! ## The request (R159) -/

/-- A SEND of an attached lane whose form holds is answered as it is judged. -/
theorem State.exec_send_judged (slot : (s.lane l).slot = .pending codeSend body) (attached : (s.lane l).attached = true)
    (form : decodeSend body = some m) (judged : s.judgeSend l m = (result, t)) :
    exec (.send l) s = .next (t.reply l (Reply.bare result)) := by
  refine congrArg Host.Outcome.next ((State.handleAttached_attached slot attached).trans ?_)
  rw [withBody_some form, judged]

end Sys2Proof.Machine

open Sys2Proof Sys2Proof.Machine in
/-- Settles O55: past the form, what the judgement answers is the answer, and its branches are those of the address. -/
theorem sendsAreJudgedInOrder : Obligations.SendsAreJudgedInOrder := by
  unfold Obligations.SendsAreJudgedInOrder
  intro s l body slot d answer join entry full
  refine ⟨fun detached => congrArg Host.Outcome.next (State.handleAttached_detached slot detached),
    fun attached bad => ?_, fun m attached form => ?_⟩
  · refine congrArg Host.Outcome.next ((State.handleAttached_attached slot attached).trans ?_)
    rw [withBody_none bad]
    rfl
  have judged : ∀ {result t}, s.judgeSend l m = (result, t) → exec (.send l) s = .next (answer result t) :=
    State.exec_send_judged slot attached form
  have delivered : ∀ {broadcast t}, s.Delivers (entry m broadcast) t →
      s.deliver (s.localEntry m.cls m.payload broadcast) = t := State.delivers_deliver
  refine ⟨fun generation => judged (State.judgeSend_noDirectory generation), fun unicast => ?_,
    fun p o broadcast generation position orientation least most => ?_⟩
  · obtain ⟨-, unknown, outside, loopback, resolved⟩ := State.judgeSend_unicast (s := s) (l := l) unicast
    refine ⟨fun h => judged (unknown h), fun h => judged (outside h), fun t own delivers => judged ?_,
      fun k e h onward => ⟨fun isFull => judged ?_, fun room => judged ?_⟩⟩
    · rw [loopback own, delivered delivers]
    · rw [resolved k e h onward, if_pos isFull]
    · rw [resolved k e h onward, if_neg room]
      rfl
  · have copies := State.judgeSend_copies (l := l) broadcast generation position orientation least most
    refine ⟨fun t alone delivers => judged ?_, fun several => ⟨fun isFull => judged ?_, fun t room delivers => judged ?_⟩⟩
    · rw [copies, if_pos alone, delivered delivers]
    · rw [copies, if_neg (Nat.ne_of_gt several), if_pos isFull]
    · rw [copies, if_neg (Nat.ne_of_gt several), if_neg room, delivered delivers]
      rfl

end

section
/-! PROOF. What one opportunity of the resolver makes of the head of a lane's send queue (R111, R118, R125 to R127, R140). -/

namespace Sys2Proof.Machine

open Sys2Proof

variable {s t : State} {l x : LaneId} {r : SendRecord} {rest : List SendRecord} {e : EndId} {k h : Nat}

/-! ## The pointer beside a change of a lane or an end -/

/-- The node whose pointer names a lane. -/
def State.pointing (s : State) (l : LaneId) : State := { s with resolver := l }

theorem State.pointing_setSendQueue : (s.setSendQueue l rest).pointing x = (s.pointing x).setSendQueue l rest := by
  cases l <;> rfl

theorem State.pointing_lose {c : LossReason} : (s.lose c l).pointing x = (s.pointing x).lose c l := by cases l <;> rfl

theorem State.pointing_enqueue {g : DataRecord} : (s.enqueue e g).pointing x = (s.pointing x).enqueue e g := by cases e <;> rfl

theorem State.setSendQueue_enqueue {g : DataRecord} :
    (s.enqueue e g).setSendQueue l rest = (s.setSendQueue l rest).enqueue e g := by cases l <;> cases e <;> rfl

/-! ## One opportunity (R125) -/

/-- A head that leaves moves the pointer on. -/
theorem State.resolver_leaves (pointer : s.resolver = l) (left : s.examineHead l = (true, t)) :
    exec .resolverExamination s = .next (t.pointing l.other) := by
  subst pointer
  refine congrArg Host.Outcome.next ?_
  unfold State.resolverOpportunity
  simp only [left]
  rfl

/-- A head that waits beside an empty queue leaves the node as it is. -/
theorem State.resolver_waits (pointer : s.resolver = l) (waits : s.examineHead l = (false, s))
    (empty : (s.lane l.other).sendQueue = []) : exec .resolverExamination s = .next s := by
  subst pointer
  refine congrArg Host.Outcome.next ?_
  have other : s.examineHead s.resolver.other = (false, s) := by
    unfold State.examineHead
    rw [empty]
  unfold State.resolverOpportunity
  simp only [waits, other]

theorem State.examineHead_broadcast (queue : (s.lane l).sendQueue = r :: rest) (broadcast : r.address = .broadcast) :
    s.examineHead l = s.examineBroadcast l r rest := by
  unfold State.examineHead
  rw [queue]
  exact if_pos broadcast

theorem State.examineHead_unicast (queue : (s.lane l).sendQueue = r :: rest) (unicast : r.address ≠ .broadcast) :
    s.examineHead l = s.examineUnicast l r rest := by
  unfold State.examineHead
  rw [queue]
  exact if_neg unicast

/-! ## A head for one car (R118, R126) -/

theorem Address.isTag_iff {a : Address} : a.isTag = true ↔ ∃ w, a = .tag w := by cases a <;> simp [Address.isTag]

/-- A head that may be resolved joins its class queue, is lost where its end is not ADMITTED, or waits for room. -/
theorem State.examineUnicast_resolved (may : r.accepted = s.directory.generation ∨ ∃ w, r.address = .tag w)
    (resolved : s.directory.resolve r.address = .resolved k e h) : s.examineUnicast l r rest =
      if (s.endUnit e).state ≠ .admitted then (true, (s.setSendQueue l rest).lose .linkDown l)
      else if (s.endUnit e).queues.hasRoom r.cls then
        (true, (s.setSendQueue l rest).enqueue e (placedRecord (s.directory.frame k h r.cls r.payload) l r))
      else (false, s) := by
  have current : ¬ (r.accepted ≠ s.directory.generation ∧ (!r.address.isTag) = true) := by
    rw [Bool.not_eq_true', ← Bool.not_eq_true, Address.isTag_iff]
    exact fun ⟨older, other⟩ => may.elim older other
  unfold State.examineUnicast
  dsimp only
  rw [if_neg current, resolved]
  simp [State.admitted]

/-- A head of another generation that no TAG addresses is lost, whether for one car or for all. -/
theorem State.examineHead_outdated (queue : (s.lane l).sendQueue = r :: rest) (older : r.accepted ≠ s.directory.generation)
    (other : ∀ w, r.address ≠ .tag w) :
    s.examineHead l = (true, (s.setSendQueue l rest).lose .consistChanged l) := by
  by_cases broadcast : r.address = .broadcast
  · exact (State.examineHead_broadcast queue broadcast).trans (if_pos older)
  · have notTag : (!r.address.isTag) = true := by
      rw [Bool.not_eq_true', ← Bool.not_eq_true, Address.isTag_iff]
      exact fun ⟨w, tag⟩ => other w tag
    exact (State.examineHead_unicast queue broadcast).trans (if_pos ⟨older, notTag⟩)

/-! ## A broadcast (R127) -/

/-- A copy for an ADMITTED end with room is placed there. -/
theorem State.placeCopy_room (admitted : (s.endUnit e).state = .admitted) (room : (s.endUnit e).queues.hasRoom r.cls = true) :
    s.placeCopy l r (some (e, h)) false =
      (true, s.enqueue e (placedRecord (s.directory.frame 0 h r.cls r.payload) l r)) := by
  simp [State.placeCopy, State.admitted, admitted, room]

/-- A broadcast whose two copies both find room has both placed and leaves. -/
theorem State.examineBroadcast_places {h₁ h₂ : Nat} (current : r.accepted = s.directory.generation) (up : r.upPlaced = false)
    (down : r.downPlaced = false) (above : s.directory.upCopy = some (e, h₁)) (below : s.directory.downCopy = some (e.other, h₂))
    (ready : ∀ e, (s.endUnit e).state = .admitted ∧ (s.endUnit e).queues.hasRoom r.cls = true) :
    s.examineBroadcast l r rest = (true,
      ((s.setSendQueue l rest).enqueue e (placedRecord (s.directory.frame 0 h₁ r.cls r.payload) l r)).enqueue e.other
        (placedRecord (s.directory.frame 0 h₂ r.cls r.payload) l r)) := by
  obtain ⟨admitted, room⟩ := ready e
  obtain ⟨admittedOther, roomOther⟩ := ready e.other
  have unit : ∀ g, (s.enqueue e g).endUnit e.other = s.endUnit e.other := fun g => State.endUnit_modEnd_other ..
  have directory : ∀ g, (s.enqueue e g).directory = s.directory := fun g => State.directory_modEnd ..
  unfold State.examineBroadcast
  rw [if_neg (not_not.2 current), up, down, above, State.placeCopy_room admitted room]
  dsimp only
  rw [below, State.placeCopy_room (by rwa [unit]) (by rwa [unit]), directory]
  exact congrArg (Prod.mk true) (by rw [State.setSendQueue_enqueue, State.setSendQueue_enqueue])

end Sys2Proof.Machine

open Sys2Proof Sys2Proof.Machine in
/-- Settles O47: the head leaves or waits as its examination says, and the pointer moves with it. -/
theorem resolverPlacesLosesOrWaits : Obligations.ResolverPlacesLosesOrWaits := by
  unfold Obligations.ResolverPlacesLosesOrWaits
  intro s r rest l d frame placed popped lost queue
  have loses : ∀ c, s.examineHead l = (true, (s.setSendQueue l rest).lose c l) →
      exec .resolverExamination s = .next (lost (LossCounters.count c)) := fun c left => by
    rw [State.resolver_leaves rfl left, State.pointing_lose, State.pointing_setSendQueue]
    rfl
  refine ⟨fun target e hops unicast resolved may => ?_, fun older other => ?_,
    fun p o broadcast current up down position orientation above below ready => ?_⟩
  · have examined := (State.examineHead_unicast queue unicast).trans (State.examineUnicast_resolved may resolved)
    refine ⟨fun admitted room => ?_, fun away => ?_, fun admitted full empty => ?_⟩
    · rw [if_neg (not_not.2 admitted), if_pos room] at examined
      rw [State.resolver_leaves rfl examined, State.pointing_enqueue, State.pointing_setSendQueue]
      rfl
    · exact loses .linkDown (examined.trans (if_pos away))
    · rw [if_neg (not_not.2 admitted), if_neg (by rw [full]; decide)] at examined
      exact State.resolver_waits rfl examined empty
  · exact loses .consistChanged (State.examineHead_outdated queue older other)
  · have opposite : o.downEnd = o.upEnd.other := by cases o <;> rfl
    have upward : d.upCopy = some (o.upEnd, d.entries.length - p) :=
      (Directory.upCopy_eq position orientation).trans (if_pos below)
    have downward : d.downCopy = some (o.upEnd.other, p - 1) := by
      rw [Directory.downCopy_eq position orientation, if_pos above, opposite]
    have examined := (State.examineHead_broadcast queue broadcast).trans
      (State.examineBroadcast_places (l := l) (rest := rest) current up down upward downward ready)
    rw [State.resolver_leaves rfl examined, State.pointing_enqueue, State.pointing_enqueue, State.pointing_setSendQueue, opposite]
    rfl

end

section
/-! PROOF. The queues of one end and of one lane: what keeps them within their capacities and classes (R122, R129, R133, R134). -/

namespace Sys2Proof.Machine

open Sys2Proof

variable {u v w : EndUnit} {p q : LanePort} {x : LineId} {b : LineFrame} {o : FrameOutcome} {c : TrafficClass}

/-! ## The queues of an end -/

/-- The class queues of an end within their capacities, each with frames of its class alone. -/
theorem EndUnit.queuesKept_iff : u.QueuesKept ↔ u.queues.control.length ≤ 4 ∧
    (∀ c, (u.queues.classQueue c).length ≤ c.capacity ∧ ∀ r ∈ u.queues.classQueue c, r.frame.cls = c) ∧
    (u.state ≠ .admitted → (∀ c, u.queues.classQueue c = []) ∧ u.queues.reliefProcess = 0 ∧ u.queues.reliefBulk = 0) := by
  constructor
  · rintro ⟨control, command, process, bulk, commands, processes, bulks, closed⟩
    refine ⟨control, fun c => ?_, fun away => ?_⟩
    · cases c
      exacts [⟨command, commands⟩, ⟨process, processes⟩, ⟨bulk, bulks⟩]
    · obtain ⟨noCommand, noProcess, noBulk, relief⟩ := closed away
      exact ⟨fun c => by cases c; exacts [noCommand, noProcess, noBulk], relief⟩
  · rintro ⟨control, classes, closed⟩
    refine ⟨control, (classes .command).1, (classes .process).1, (classes .bulk).1, (classes .command).2,
      (classes .process).2, (classes .bulk).2, fun away => ?_⟩
    obtain ⟨empty, relief⟩ := closed away
    exact ⟨empty .command, empty .process, empty .bulk, relief⟩

theorem EndUnit.QueuesKept.room (h : u.QueuesKept) : u.queues.control.length ≤ 4 := by
  obtain ⟨room, -⟩ := h
  exact room

theorem EndUnit.queuesKept_of_empty (h : v.queues = EndQueues.empty) : v.QueuesKept := by
  rw [EndUnit.QueuesKept, h]
  exact ⟨Nat.zero_le _, Nat.zero_le _, Nat.zero_le _, Nat.zero_le _, nofun, nofun, nofun, fun _ => ⟨rfl, rfl, rfl, rfl, rfl⟩⟩

/-- A change of the control queue, its capacity given, and of nothing that the class queues depend on. -/
theorem EndUnit.QueuesKept.control (h : u.QueuesKept) (state : v.state = u.state)
    (classes : v.queues = { u.queues with control := v.queues.control }) (room : v.queues.control.length ≤ 4) :
    v.QueuesKept := by
  obtain ⟨-, kept⟩ := h
  refine ⟨room, ?_⟩
  rw [classes, state]
  exact kept

/-- One class queue replaced; of an end that is not ADMITTED by none. -/
theorem EndUnit.QueuesKept.requeue {rs : List DataRecord} (h : u.QueuesKept) (k : u.Requeues c rs v)
    (room : rs.length ≤ c.capacity) (of : ∀ r ∈ rs, r.frame.cls = c)
    (closed : u.state ≠ .admitted → rs = [] ∧ v.queues.reliefProcess = 0 ∧ v.queues.reliefBulk = 0) : v.QueuesKept := by
  obtain ⟨control, classes, empty⟩ := EndUnit.queuesKept_iff.1 h
  refine EndUnit.queuesKept_iff.2 ⟨by rwa [k.control], fun d => ?_, fun away => ?_⟩
  · by_cases same : d = c
    · subst same
      rw [k.here]
      exact ⟨room, of⟩
    · rw [k.others d same]
      exact classes d
  · rw [k.state] at away
    obtain ⟨gone, relief⟩ := closed away
    refine ⟨fun d => ?_, relief⟩
    by_cases same : d = c
    · subst same
      rw [k.here, gone]
    · rw [k.others d same, (empty away).1 d]

/-- A record joins a class queue of an ADMITTED end that has room (R122). -/
theorem EndUnit.QueuesKept.push {r : DataRecord} (h : u.QueuesKept) (admitted : u.state = .admitted)
    (room : u.queues.hasRoom r.frame.cls = true) : EndUnit.QueuesKept { u with queues := u.queues.push r } := by
  obtain ⟨-, classes, -⟩ := EndUnit.queuesKept_iff.1 h
  refine h.requeue (u.requeues_set r.frame.cls _) ?_ (fun f there => ?_) fun away => absurd admitted away
  · rw [List.length_append]
    exact of_decide_eq_true room
  · rcases List.mem_append.1 there with old | new
    · exact (classes _).2 f old
    · rw [List.mem_singleton.1 new]

theorem EndUnit.requeues_count (u : EndUnit) (c : TrafficClass) (rs : List DataRecord) {limitProcess limitBulk : Nat} :
    u.Requeues c rs { u with queues := (u.queues.setClassQueue c rs).countRelief limitProcess limitBulk c } := by
  have counted : ∀ (q : EndQueues) d, (q.countRelief limitProcess limitBulk c).classQueue d = q.classQueue d := fun q d => by
    cases c <;> cases d <;> rfl
  refine ⟨rfl, rfl, by cases c <;> rfl, by cases c <;> rfl, fun d other => (counted ..).trans ?_⟩
  exact EndQueues.classQueue_set_other _ other rs

theorem EndQueues.takeHead_some {q q' : EndQueues} {r : DataRecord} (h : q.takeHead c = some (r, q')) :
    ∃ rest, q.classQueue c = r :: rest ∧ q' = q.setClassQueue c rest := by
  unfold EndQueues.takeHead at h
  split at h
  · cases h
  · rename_i queue
    obtain ⟨rfl, rfl⟩ := Prod.mk.inj (Option.some.inj h)
    exact ⟨_, queue, rfl⟩

/-- What the arbiter takes leaves the queues kept (R131, R132). -/
theorem EndUnit.QueuesKept.offer {q : EndQueues} {limitProcess limitBulk : Nat} {f : HeldFrame} (h : u.QueuesKept)
    (taken : u.queues.offer (u.state == .admitted) limitProcess limitBulk = some (f, q)) :
    EndUnit.QueuesKept { u with queues := q } := by
  unfold EndQueues.offer at taken
  split at taken
  · rename_i first rest control
    obtain ⟨-, rfl⟩ := Prod.mk.inj (Option.some.inj taken)
    have room := h.room
    rw [control] at room
    exact h.control rfl rfl (Nat.le_of_succ_le room)
  split at taken
  · cases taken
  rename_i admitted
  have admitted : u.state = .admitted := by simpa using admitted
  split at taken
  · cases taken
  rename_i c _
  split at taken
  · cases taken
  rename_i head q' found
  obtain ⟨-, rfl⟩ := Prod.mk.inj (Option.some.inj taken)
  obtain ⟨rest, queue, rfl⟩ := EndQueues.takeHead_some found
  obtain ⟨-, classes, -⟩ := EndUnit.queuesKept_iff.1 h
  have kept := classes c
  rw [queue] at kept
  obtain ⟨room, of⟩ := kept
  exact h.requeue (u.requeues_count c rest) (Nat.le_of_succ_le room) (fun r there => of r (List.mem_cons_of_mem _ there))
    fun away => absurd admitted away

/-! ## What leaves the class queues of an end -/

/-- The end state, the class queues and the relief counts are as they were, and the control queue is no longer. -/
structure EndUnit.KeepsQueues (u v : EndUnit) : Prop where
  state : v.state = u.state
  classes : v.queues = { u.queues with control := v.queues.control }
  control : v.queues.control.length ≤ u.queues.control.length

theorem EndUnit.KeepsQueues.kept (h : u.KeepsQueues v) (kept : u.QueuesKept) : v.QueuesKept :=
  kept.control h.state h.classes (Nat.le_trans h.control kept.room)

theorem EndUnit.KeepsQueues.of_same (state : v.state = u.state) (queues : v.queues = u.queues) : u.KeepsQueues v :=
  ⟨state, by rw [queues], by rw [queues]⟩

theorem EndUnit.KeepsQueues.refl (u : EndUnit) : u.KeepsQueues u := .of_same rfl rfl

theorem EndUnit.KeepsQueues.trans (h : u.KeepsQueues v) (k : v.KeepsQueues w) : u.KeepsQueues w :=
  ⟨k.state.trans h.state, by rw [k.classes, h.classes], Nat.le_trans k.control h.control⟩

theorem EndUnit.KeepsQueues.modLine (h : u.KeepsQueues v) {g : LineUnit → LineUnit} : u.KeepsQueues (v.modLine x g) :=
  h.trans (.of_same (by simp) (by simp))

theorem EndUnit.KeepsQueues.abandonRecentre (h : u.KeepsQueues v) : u.KeepsQueues (v.abandonRecentre x) := by
  unfold EndUnit.abandonRecentre
  split
  · exact h
  · exact h.modLine.trans ⟨rfl, rfl, by simp⟩

theorem EndUnit.KeepsQueues.lineTo (h : u.KeepsQueues v) {st : LineState} : u.KeepsQueues (v.lineTo x st) := by
  refine EndUnit.KeepsQueues.modLine ((h.abandonRecentre (x := x)).trans ?_)
  unfold EndUnit.freeTrainer
  split
  · exact .of_same rfl rfl
  · exact .refl _

theorem EndUnit.KeepsQueues.inputChanged (h : u.KeepsQueues v) {settle : Nat} {present : Bool} :
    u.KeepsQueues (v.inputChanged settle present x) := by
  unfold EndUnit.inputChanged
  split
  case h_1 => exact h.modLine
  case h_2 => exact h.modLine
  all_goals
    split
    · exact h
    · exact h.lineTo

theorem EndUnit.KeepsQueues.settleExpired (u : EndUnit) (x : LineId) : u.KeepsQueues (u.settleExpired x) := by
  unfold EndUnit.settleExpired
  dsimp only
  split
  · exact (EndUnit.KeepsQueues.refl u).modLine
  · exact (EndUnit.KeepsQueues.refl u).lineTo

theorem EndUnit.KeepsQueues.trainerTakes (u : EndUnit) : u.KeepsQueues u.trainerTakes := by
  unfold EndUnit.trainerTakes
  split
  · exact .refl u
  · split
    · exact .of_same rfl rfl
    · split
      · exact .of_same rfl rfl
      · exact .refl u

theorem EndUnit.KeepsQueues.silenced (u : EndUnit) (x : LineId) : u.KeepsQueues (u.silenced x) := by
  unfold EndUnit.silenced
  split
  · exact (EndUnit.KeepsQueues.refl u).lineTo.modLine
  · exact (EndUnit.KeepsQueues.refl u).lineTo

/-- What follows a change of the lines at the end itself (R78, R82). -/
theorem EndUnit.KeepsQueues.afterLines (h : u.KeepsQueues v) : u.KeepsQueues v.afterLines := by
  have gives : ∀ {w : EndUnit} {y : LineId}, u.KeepsQueues w → u.KeepsQueues (w.abandonWithoutPartner y) := fun k => by
    unfold EndUnit.abandonWithoutPartner
    split
    · exact k.abandonRecentre
    · exact k
  have given := gives (y := .lineB) (gives (y := .lineA) h)
  unfold EndUnit.afterLines EndUnit.forgetPeer
  split
  · exact given
  · exact given.trans (.of_same rfl rfl)

/-! ## The sender and the receiver of an end -/

theorem EndUnit.KeepsQueues.sendHeld (h : u.KeepsQueues v) : u.KeepsQueues (v.sendHeld b) := by
  unfold EndUnit.sendHeld
  dsimp only
  split
  · exact h.trans (.of_same rfl rfl)
  · exact h.modLine.trans (.of_same rfl rfl)

theorem EndUnit.KeepsQueues.firstSend (h : u.KeepsQueues v) : u.KeepsQueues (v.firstSend b) := by
  unfold EndUnit.firstSend
  split
  · refine EndUnit.KeepsQueues.sendHeld (h.trans ?_)
    exact .of_same rfl rfl
  · exact h.trans (.of_same rfl rfl)

theorem EndUnit.KeepsQueues.takeFrame (u : EndUnit) (f : HeldFrame) : u.KeepsQueues (u.takeFrame b f) :=
  EndUnit.KeepsQueues.firstSend (.of_same rfl rfl)

theorem EndUnit.KeepsQueues.moveFrame (u : EndUnit) : u.KeepsQueues (u.moveFrame b) :=
  EndUnit.KeepsQueues.sendHeld (.of_same rfl rfl)

/-- The outcome of the frame the sender holds, with the recentre it reports to (R78, R95). -/
theorem EndUnit.KeepsQueues.endFrame (u : EndUnit) (o : FrameOutcome) : u.KeepsQueues (u.endFrame o) := by
  have idle : u.KeepsQueues (u.senderIdle o) := .of_same rfl rfl
  unfold EndUnit.endFrame
  split
  · exact .refl u
  · rename_i f _
    refine EndUnit.KeepsQueues.trans (v := (u.senderIdle o).reportRecentre o f) ?_ (.of_same rfl rfl)
    rcases (u.senderIdle o).reportRecentre_cases o f with same | ⟨x, starts | gives⟩
    · rwa [same]
    · rw [starts]
      unfold EndUnit.startRecentreSweep
      split
      · exact idle.modLine.trans (.of_same rfl rfl)
      · exact idle
    · rw [gives]
      exact idle.abandonRecentre

/-- What the sender makes of changed lines (R101). -/
theorem EndUnit.KeepsQueues.senderAfterLines (u : EndUnit) : u.KeepsQueues (u.senderAfterLines b) := by
  unfold EndUnit.senderAfterLines
  split
  · exact .endFrame u _
  split
  · split
    · exact .endFrame u _
    · exact .moveFrame u
  · exact .refl u

theorem EndUnit.KeepsQueues.holdFollows (h : u.KeepsQueues v) {hold : Option LineId} : u.KeepsQueues (v.holdFollows hold) := by
  cases hold
  · exact h
  · exact h.modLine

theorem EndUnit.KeepsQueues.endTransmission (u : EndUnit) (x : LineId) : u.KeepsQueues (u.endTransmission b x) := by
  unfold EndUnit.endTransmission
  split
  · exact .refl u
  · exact (EndUnit.KeepsQueues.refl u).modLine.holdFollows.modLine

theorem EndUnit.KeepsQueues.answer (h : u.KeepsQueues v) {r : WaitingReply} : u.KeepsQueues (v.answer b x r) := by
  unfold EndUnit.answer
  split
  · exact h.modLine
  split
  · exact h.modLine
  · exact h.holdFollows

theorem EndUnit.KeepsQueues.earn (u : EndUnit) (r : WaitingReply) : u.KeepsQueues (u.earn b x r) := by
  unfold EndUnit.earn
  split
  · refine EndUnit.KeepsQueues.answer ?_
    exact .of_same rfl rfl
  · exact (EndUnit.KeepsQueues.refl u).answer

theorem EndUnit.KeepsQueues.holdEnded (u : EndUnit) (x : LineId) : u.KeepsQueues (u.holdEnded b x) := by
  unfold EndUnit.holdEnded
  dsimp only
  split
  · exact (EndUnit.KeepsQueues.refl u).modLine.sendHeld
  · exact (EndUnit.KeepsQueues.refl u).modLine.modLine

/-! ## The queues of a lane -/

theorem LanePort.QueuesKept.of_same (h : p.QueuesKept) (send : q.sendQueue = p.sendQueue)
    (receive : q.receiveQueue = p.receiveQueue) : q.QueuesKept := by
  unfold LanePort.QueuesKept
  rwa [send, receive]

theorem LanePort.SameButReports.queuesKept (k : p.SameButReports q) (h : p.QueuesKept) : q.QueuesKept := by
  unfold LanePort.SameButReports at k
  rw [k]
  exact h

/-- Where some entry is of another class, one leaves. -/
theorem length_dropOldestOther {rs : List ReceiveEntry} (other : rs.all ReceiveEntry.isCommand = false) :
    (dropOldestOther rs).length + 1 = rs.length := by
  induction rs with
  | nil => cases other
  | cons r rs ih =>
    unfold dropOldestOther
    split
    · rename_i command
      rw [List.all_cons, command, Bool.true_and] at other
      rw [List.length_cons, List.length_cons, ih other]
    · rfl

/-- An entry that arrives finds a place free, displaces another, or is dropped (R134). -/
theorem LanePort.QueuesKept.deliver (h : p.QueuesKept) (r : ReceiveEntry) : (p.deliver r).QueuesKept := by
  obtain ⟨send, receive⟩ := h
  unfold LanePort.deliver LanePort.receive
  split
  · split
    · rename_i room
      exact ⟨send, by rw [List.length_append]; exact room⟩
    · split
      · rename_i displaces
        rw [Bool.and_eq_true, Bool.not_eq_true'] at displaces
        refine ⟨send, ?_⟩
        rw [List.length_append]
        exact (length_dropOldestOther displaces.2).trans_le receive
      · exact ⟨send, receive⟩
  · exact ⟨send, receive⟩

theorem LanePort.QueuesKept.transact (h : p.QueuesKept) (pending : Bool) (bytes : List Byte) :
    (p.transact pending bytes).QueuesKept := by
  refine h.of_same (LanePort.sendQueue_transact ..) ?_
  unfold LanePort.transact LanePort.examineRequest
  dsimp only
  split
  · rfl
  split
  · rfl
  · split <;> simp

end Sys2Proof.Machine
end


section
/-! PROOF. Events at one end and arrivals of frames keep every queue within its capacity and its class (R122, R129, R138). -/

namespace Sys2Proof.Machine

open Sys2Proof

variable {s t r : State} {e d : EndId} {x y : LineId} {l : LaneId} {o : FrameOutcome}

/-! ## Changes of one part of the node -/

theorem State.queuesKept_iff : s.QueuesKept ↔ (∀ e, (s.endUnit e).QueuesKept) ∧ ∀ l, (s.lane l).QueuesKept :=
  and_congr State.everyEnd_iff ⟨fun h l => by cases l; exacts [h.1, h.2], fun h => ⟨h .laneA, h .laneB⟩⟩

theorem State.QueuesKept.end_ (h : s.QueuesKept) (e : EndId) : (s.endUnit e).QueuesKept := (State.queuesKept_iff.1 h).1 e

theorem State.QueuesKept.lane (h : s.QueuesKept) (l : LaneId) : (s.lane l).QueuesKept := (State.queuesKept_iff.1 h).2 l

theorem State.QueuesKept.ite {p : Prop} [Decidable p] (h : s.QueuesKept) (k : p → t.QueuesKept) :
    State.QueuesKept (if p then t else s) := by
  split
  · exact k ‹_›
  · exact h

/-- The parts of the node that are no end and no lane. -/
theorem State.QueuesKept.rest (h : s.QueuesKept) (end1 : t.end1 = s.end1) (end2 : t.end2 = s.end2) (laneA : t.laneA = s.laneA)
    (laneB : t.laneB = s.laneB) : t.QueuesKept := by
  unfold State.QueuesKept State.EveryEnd State.EveryLane
  rw [end1, end2, laneA, laneB]
  exact h

theorem State.QueuesKept.setBypass (h : s.QueuesKept) {b : Bypass} : State.QueuesKept { s with bypass := b } :=
  h.rest rfl rfl rfl rfl

theorem State.QueuesKept.setStore (h : s.QueuesKept) {w : Store} : State.QueuesKept { s with store := w } :=
  h.rest rfl rfl rfl rfl

theorem State.QueuesKept.modEnd (h : s.QueuesKept) {g : EndUnit → EndUnit}
    (k : (s.endUnit e).QueuesKept → (g (s.endUnit e)).QueuesKept) : (s.modEnd e g).QueuesKept := by
  refine State.queuesKept_iff.2 ⟨fun d => ?_, fun l => by rw [State.lane_modEnd]; exact h.lane l⟩
  rcases EndId.eq_or_other e d with rfl | rfl
  · rw [State.endUnit_modEnd_self]
    exact k (h.end_ _)
  · rw [State.endUnit_modEnd_other]
    exact h.end_ _

theorem State.QueuesKept.keeps (h : s.QueuesKept) {g : EndUnit → EndUnit}
    (k : (s.endUnit e).KeepsQueues (g (s.endUnit e))) : (s.modEnd e g).QueuesKept := h.modEnd k.kept

theorem State.QueuesKept.modLine (h : s.QueuesKept) {g : LineUnit → LineUnit} : (s.modLine e x g).QueuesKept :=
  h.keeps (EndUnit.KeepsQueues.refl _).modLine

theorem State.QueuesKept.modSender (h : s.QueuesKept) {g : Sender → Sender} : (s.modSender e g).QueuesKept :=
  h.keeps (.of_same rfl rfl)

theorem State.QueuesKept.count (h : s.QueuesKept) {g : EndCounters → EndCounters} : (s.count e g).QueuesKept :=
  h.keeps (.of_same rfl rfl)

theorem State.QueuesKept.modLane (h : s.QueuesKept) {g : LanePort → LanePort}
    (k : (s.lane l).QueuesKept → (g (s.lane l)).QueuesKept) : (s.modLane l g).QueuesKept := by
  refine State.queuesKept_iff.2 ⟨fun e => by rw [State.endUnit_modLane]; exact h.end_ e, fun m => ?_⟩
  rcases LaneId.eq_or_other l m with rfl | rfl
  · rw [State.lane_modLane_self]
    exact k (h.lane _)
  · rw [State.lane_modLane_other]
    exact h.lane _

theorem State.QueuesKept.lose (h : s.QueuesKept) {c : LossReason} : (s.lose c l).QueuesKept :=
  h.modLane (LanePort.lose_reports c _).1.queuesKept

theorem State.QueuesKept.loseRecord (h : s.QueuesKept) {c : LossReason} {f : DataRecord} : (s.loseRecord c f).QueuesKept := by
  unfold State.loseRecord
  split
  · exact h
  · exact h.lose

/-- What the engine leaves of an end: its state, its class queues, and its control queue within its capacity (R128). -/
theorem EndUnit.QueuesKept.engine {u v : EndUnit} (h : u.QueuesKept) (k : u.SameButControl v)
    (room : u.queues.control.length ≤ 4 → v.queues.control.length ≤ 4) : v.QueuesKept := by
  refine h.control ?_ ?_ (room h.room) <;>
  · unfold EndUnit.SameButControl at k
    rw [k]

theorem State.QueuesKept.engine (h : s.QueuesKept) (k : s.EngineFrame t) : t.QueuesKept :=
  State.queuesKept_iff.2 ⟨fun e => (h.end_ e).engine (k.ends e) (k.room e), fun l => by
    rw [k.lanes l]
    exact h.lane l⟩

theorem State.QueuesKept.raiseBoth (h : s.QueuesKept) {n : Notice} : (s.raiseBoth n).QueuesKept :=
  h.engine (State.EngineFrame.refl s).raiseBoth

/-- An event at one end, what becomes of that end given. -/
theorem State.QueuesKept.event (h : s.QueuesKept) (k : State.EventFrame e s t) (unit : (t.endUnit e).QueuesKept) :
    t.QueuesKept := by
  obtain ⟨-, other, lanes⟩ := k.frame
  refine State.queuesKept_iff.2 ⟨fun d => ?_, fun l => (lanes l).queuesKept (h.lane l)⟩
  rcases EndId.eq_or_other e d with rfl | rfl
  · exact unit
  · exact (h.end_ _).engine other (k.room _)

/-! ## The operations of one end -/

theorem State.QueuesKept.sendHeld (h : s.QueuesKept) : (s.sendHeld e).QueuesKept := by
  rw [State.sendHeld_eq]
  exact h.keeps (EndUnit.KeepsQueues.refl _).sendHeld

theorem State.QueuesKept.firstSend (h : s.QueuesKept) : (s.firstSend e).QueuesKept := by
  rw [State.firstSend_eq]
  exact h.keeps (EndUnit.KeepsQueues.refl _).firstSend

theorem State.QueuesKept.moveFrame (h : s.QueuesKept) : (s.moveFrame e).QueuesKept := by
  rw [State.moveFrame_eq]
  exact h.keeps (.moveFrame _)

theorem State.QueuesKept.answer (h : s.QueuesKept) {a : WaitingReply} : (s.answer e x a).QueuesKept := by
  rw [State.answer_eq]
  exact h.keeps (EndUnit.KeepsQueues.refl _).answer

theorem State.QueuesKept.earn (h : s.QueuesKept) {a : WaitingReply} : (s.earn e x a).QueuesKept := by
  rw [State.earn_eq]
  exact h.keeps (.earn _ a)

theorem State.QueuesKept.endTransmission (h : s.QueuesKept) : (s.endTransmission e x).QueuesKept := by
  rw [State.endTransmission_eq]
  exact h.keeps (.endTransmission _ x)

theorem State.QueuesKept.queueBeacon (h : s.QueuesKept) : (s.queueBeacon e x).QueuesKept := by
  rw [State.queueBeacon_eq]
  exact h.modLine

theorem State.QueuesKept.holdEnded (h : s.QueuesKept) : (s.holdEnded e x).QueuesKept := by
  rw [State.holdEnded_eq]
  exact h.keeps (.holdEnded _ x)

theorem State.QueuesKept.endFrame (h : s.QueuesKept) : (s.endFrame o e).QueuesKept :=
  h.event (State.EndFrame.refl e s).endFrame.event (by
    rw [State.endUnit_endFrame_self]
    exact (EndUnit.KeepsQueues.endFrame _ o).kept (h.end_ e))

theorem State.QueuesKept.onHold (h : s.QueuesKept) : (s.onHold e).QueuesKept := by
  have held : (s.heldOff e).QueuesKept := (h.count.keeps (.of_same rfl rfl)).modSender
  rw [State.onHold_eq]
  split
  · exact held.endFrame
  · exact held.modSender

/-- The arbiter hands a frame to the sender (R131). -/
theorem State.QueuesKept.offerFrame (h : s.QueuesKept) : (s.offerFrame e).QueuesKept := by
  unfold State.offerFrame
  dsimp only
  split
  · split
    · exact h
    · rename_i taken
      rw [State.takeFrame_eq]
      exact (h.modEnd fun kept => kept.offer taken).keeps (.takeFrame _ _)
  · exact h

/-! ## The end state and what follows it -/

/-- An end that is not ADMITTED has no class records: it had none, or has lost them in departing (R129, R138). -/
theorem State.QueuesKept.decided (h : s.QueuesKept) : ((s.decided e).endUnit e).QueuesKept := by
  have kept := h.end_ e
  rw [State.decided_endUnit]
  obtain ⟨control, classes, closed⟩ := EndUnit.queuesKept_iff.1 kept
  split
  · refine EndUnit.queuesKept_iff.2 ⟨control, fun c => ?_, fun _ => ⟨fun c => by cases c <;> rfl, rfl, rfl⟩⟩
    cases c <;> exact ⟨Nat.zero_le _, nofun⟩
  · rename_i stays
    exact EndUnit.queuesKept_iff.2 ⟨control, classes, fun away => closed fun admitted => stays ⟨admitted, away⟩⟩

theorem State.QueuesKept.decideEnd (h : s.QueuesKept) {tag : Bool} : (s.decideEnd e tag).QueuesKept := by
  refine h.event (State.EventFrame.refl e s).decideEnd ?_
  have acted := (s.decided e).engineEndChange_engineFrame (s.endUnit e).state (s.endStateOf e) tag
  rw [State.decideEnd_eq]
  exact h.decided.engine (acted.ends e) (acted.room e)

/-- A change of the lines of an end, and what follows it (R78, R82, R86, R101). -/
theorem State.QueuesKept.afterLines (h : s.QueuesKept) : (s.afterLines e).QueuesKept := by
  have eased : (s.modEnd e EndUnit.afterLines).QueuesKept := h.keeps (EndUnit.KeepsQueues.refl _).afterLines
  rw [State.afterLines_eq]
  refine State.QueuesKept.decideEnd (eased.event (State.EndFrame.refl e _).senderAfterLines.event ?_)
  rw [State.endUnit_senderAfterLines]
  exact (EndUnit.KeepsQueues.senderAfterLines _).kept (eased.end_ e)

theorem State.QueuesKept.lineSilent (h : s.QueuesKept) : (s.lineSilent e x).QueuesKept :=
  State.QueuesKept.afterLines (h.keeps (.silenced _ x))

theorem State.QueuesKept.takeBeacon (h : s.QueuesKept) {p : PeerId} : (s.takeBeacon e p).QueuesKept :=
  State.QueuesKept.decideEnd (h.keeps (.of_same rfl rfl))

/-- The sends on a line are exhausted, or one more falls due (R97, R98). -/
theorem State.QueuesKept.replyTimedOut (h : s.QueuesKept) : (s.replyTimedOut e).QueuesKept := by
  have ended : (s.sendOver e).QueuesKept := by
    unfold State.sendOver
    exact h.ite fun _ => h.endTransmission
  have leaves : ∀ {p : Prop} [Decidable p] {t : State}, t.QueuesKept →
      State.QueuesKept (if p then t.moveFrame e else t.endFrame .noAnswer e) := fun k => by
    split
    · exact k.moveFrame
    · exact k.endFrame
  unfold State.replyTimedOut State.sendsExhausted
  dsimp only
  split
  · exact ended.modSender.sendHeld
  · split
    · exact (leaves ended.modSender.modLine).lineSilent
    · exact leaves ended.modSender.modLine

/-! ## Sweeps and recentres (R74 to R80) -/

theorem State.QueuesKept.fullSweepEnded (h : s.QueuesKept) {runs : List Nat} : (s.fullSweepEnded e x runs).QueuesKept := by
  have swept : ∀ a w, ((s.modEnd e (EndUnit.trainerDone (sweepMap runs 0 63))).modLine e x
      (fun n => { n with record := n.record.swept a w })).QueuesKept := fun a w => (h.keeps (.of_same rfl rfl)).modLine
  unfold State.fullSweepEnded
  refine State.QueuesKept.afterLines ?_
  split
  · rw [State.enterActive_eq]
    exact (swept _ _).modLine
  · unfold State.sweepFailed
    split
    · exact (swept _ _).modLine.raiseBoth
    · exact (swept _ _).modLine

theorem State.QueuesKept.recentreEnded (h : s.QueuesKept) {runs : List Nat} : (s.recentreEnded e x runs).QueuesKept := by
  have done : ∀ map, (s.modEnd e (EndUnit.trainerDone map)).QueuesKept := fun map => h.keeps (.of_same rfl rfl)
  unfold State.recentreEnded
  dsimp only
  split
  · exact (done _).modLine
  · exact ((done _).modLine.keeps (EndUnit.KeepsQueues.refl _).lineTo.modLine).afterLines

/-- A turn of the rotation, its PATTERN-REQUEST placed or dropped (R77, R78, R128). -/
theorem State.QueuesKept.recentreTurn (h : s.QueuesKept) : s.recentreTurn.QueuesKept := by
  have turned : State.QueuesKept { s with
      rotation := nextTurn s.rotation, recentreTimer := some Config.recentrePeriod } := h.rest rfl rfl rfl rfl
  unfold State.recentreTurn State.startRecentre
  dsimp only
  split
  · have asked := fun e x => (turned.modLine (e := e) (x := x) (g := fun n => { n with recentre := .requested })).engine
      ((State.EngineFrame.refl _).sendControl (e := e) (f := .patternRequest x true))
    split
    · exact asked _ _
    · exact (asked _ _).keeps (EndUnit.KeepsQueues.refl _).abandonRecentre
  · exact turned

/-! ## Inputs (R65) -/

theorem State.QueuesKept.senseChange (h : s.QueuesKept) {coupled : Bool} : (s.senseChange e coupled).QueuesKept := by
  have sensed : (s.modEnd e (fun u => { u with sense := coupled })).QueuesKept := h.keeps (.of_same rfl rfl)
  unfold State.senseChange
  split
  · exact h
  dsimp only
  split
  · exact sensed
  · exact (sensed.keeps (EndUnit.KeepsQueues.refl _).inputChanged.inputChanged).afterLines

theorem State.QueuesKept.carrierChange (h : s.QueuesKept) {present : Bool} : (s.carrierChange e x present).QueuesKept := by
  unfold State.carrierChange
  split
  · exact h
  dsimp only
  split
  · exact h.modLine
  · exact (h.modLine.keeps (EndUnit.KeepsQueues.refl _).inputChanged).afterLines

/-! ## Arrivals (R90 to R104) -/

theorem State.QueuesKept.arrive (h : s.QueuesKept) {kind : Byte} {f : RawFrame} {valid : State → State}
    (k : ∀ r : State, r.QueuesKept → (valid r).QueuesKept) : (s.arrive e x kind f valid).QueuesKept := by
  unfold State.arrive
  split
  · exact h
  split
  · exact h.modLine
  · exact k _ h.modLine

theorem State.QueuesKept.takeAwaiting {β : Type} (h : s.QueuesKept) {f : RawFrame} {decode : List Byte → Option β}
    {handle : β → State → State} (k : ∀ b, (handle b s).QueuesKept) : (s.takeAwaiting e x f decode handle).QueuesKept := by
  have fresh : State.QueuesKept (match decode f.body with
      | none => s.earn e x (.plain (frameBit f) (.refuse .malformed))
      | some b => handle b s) := by
    split
    · exact h.earn
    · exact k _
  unfold State.takeAwaiting
  dsimp only
  split
  · exact fresh
  split
  · exact h.answer
  · exact fresh

theorem State.QueuesKept.takeUnanswered {β : Type} (h : s.QueuesKept) {f : RawFrame} {decode : List Byte → Option β}
    {handle : β → State → State} (k : ∀ b, (handle b s).QueuesKept) : (s.takeUnanswered e x f decode handle).QueuesKept := by
  unfold State.takeUnanswered
  split
  · exact h.modLine
  · exact k _

theorem State.QueuesKept.controlArrives {β : Type} (h : s.QueuesKept) {kind : Byte} {f : RawFrame}
    {decode : List Byte → Option β} {engine : β → State → State} (k : ∀ b r, State.EngineFrame r (engine b r)) :
    (s.controlArrives e x kind f decode engine).QueuesKept :=
  h.arrive fun _ heard => heard.takeAwaiting fun b => heard.earn.engine (k b _)

/-- A reply that arrives at the sender (R96). -/
theorem State.QueuesKept.replyArrives {β : Type} (h : s.QueuesKept) {kind : Byte} {f : RawFrame} {decode : List Byte → Option β}
    {handle : State → State} (k : ∀ r : State, r.QueuesKept → (handle r).QueuesKept) : State.QueuesKept
      (s.arrive e x kind f (fun s => s.takeUnanswered e x f decode (fun _ s => s.onReply e (frameBit f) handle))) := by
  refine h.arrive fun r heard => heard.takeUnanswered fun _ => ?_
  unfold State.onReply
  exact heard.ite fun _ => k _ heard.modLine

end Sys2Proof.Machine
end


section
/-! PROOF. The switch, the purge at commit, the bypass and the votes keep every queue within its capacity and its class (R122,
R124 to R127, R129, R130, R136, R139, R161). -/

namespace Sys2Proof.Machine

open Sys2Proof

variable {s t r : State} {e d : EndId} {l : LaneId} {c : TrafficClass}

/-! ## Records and entries that join a queue -/

theorem State.admitted_iff : s.admitted e = true ↔ (s.endUnit e).state = .admitted := beq_iff_eq

/-- A record joins a class queue where the switch has found an ADMITTED end with room (R122). -/
theorem State.QueuesKept.enqueue (h : s.QueuesKept) {f : DataRecord} (admitted : (s.endUnit e).state = .admitted)
    (room : (s.endUnit e).queues.hasRoom f.frame.cls = true) : (s.enqueue e f).QueuesKept :=
  h.modEnd fun kept => kept.push admitted room

theorem State.QueuesKept.deliver (h : s.QueuesKept) {a : ReceiveEntry} : (s.deliver a).QueuesKept := by
  unfold State.deliver
  split
  · exact (h.modLane fun kept => kept.deliver a).modLane fun kept => kept.deliver a
  · exact h.rest rfl rfl rfl rfl

theorem State.QueuesKept.setSendQueue (h : s.QueuesKept) {q : List SendRecord} (room : q.length ≤ 8) :
    (s.setSendQueue l q).QueuesKept := h.modLane fun ⟨_, receive⟩ => ⟨room, receive⟩

theorem State.QueuesKept.queueSend (h : s.QueuesKept) {a : SendRecord} (room : (s.lane l).sendQueue.length < 8) :
    (s.queueSend l a).QueuesKept :=
  h.modLane fun ⟨_, receive⟩ => ⟨by rw [List.length_append]; exact room, receive⟩

/-- A delivery leaves the send queues. -/
theorem State.sendQueue_deliver (s : State) (a : ReceiveEntry) (l : LaneId) :
    ((s.deliver a).lane l).sendQueue = (s.lane l).sendQueue := by
  have port : ∀ p : LanePort, (p.deliver a).sendQueue = p.sendQueue := fun p => by
    unfold LanePort.deliver LanePort.receive
    split
    · split
      · rfl
      · split <;> rfl
    · rfl
  unfold State.deliver
  split
  · cases l
    · exact port _
    · exact port _
  · cases l <;> rfl

/-- A SEND joins the lane's send queue only where that is not full (R124). -/
theorem State.QueuesKept.judgeSend (h : s.QueuesKept) (l : LaneId) (m : Message) : (s.judgeSend l m).2.QueuesKept := by
  have room : ¬ s.sendFull l = true → (s.lane l).sendQueue.length < 8 := fun free =>
    Nat.not_le.1 fun full => free (decide_eq_true full)
  unfold State.judgeSend
  dsimp only
  split
  · split
    · exact h
    split
    · exact h.deliver
    split
    · exact h
    · rename_i free
      exact h.deliver.queueSend (by rw [State.sendQueue_deliver]; exact room free)
  · split
    · exact h
    · exact h
    · exact h
    · exact h.deliver
    · split
      · exact h
      · exact h.queueSend (room ‹_›)

/-! ## The resolver (R125 to R127) -/

theorem State.QueuesKept.placeCopy (h : s.QueuesKept) {a : SendRecord} {copy : Option (EndId × Nat)} {placed : Bool} :
    (s.placeCopy l a copy placed).2.QueuesKept := by
  unfold State.placeCopy
  split
  · exact h
  split
  · exact h
  split
  · exact h.lose
  · rename_i admitted
    split
    · exact h.enqueue (State.admitted_iff.1 (by simpa using admitted)) ‹_›
    · exact h

theorem State.QueuesKept.examineHead (h : s.QueuesKept) (l : LaneId) : (s.examineHead l).2.QueuesKept := by
  unfold State.examineHead
  split
  · exact h
  rename_i a rest queue
  have room : (a :: rest).length ≤ 8 := by
    obtain ⟨send, -⟩ := h.lane l
    rwa [queue] at send
  have popped : (s.setSendQueue l rest).QueuesKept := h.setSendQueue (Nat.le_of_succ_le room)
  split
  · unfold State.examineBroadcast
    split
    · exact popped.lose
    · dsimp only
      split
      · exact h.placeCopy.placeCopy.setSendQueue (Nat.le_of_succ_le room)
      · exact h.placeCopy.placeCopy.setSendQueue room
  · unfold State.examineUnicast
    dsimp only
    split
    · exact popped.lose
    split
    · split
      · exact popped.lose
      rename_i admitted
      split
      · rename_i free
        have unit : ∀ e, (s.setSendQueue l rest).endUnit e = s.endUnit e := fun _ => State.endUnit_modLane ..
        exact popped.enqueue (by rw [unit]; exact State.admitted_iff.1 (by simpa using admitted)) (by rw [unit]; exact free)
      · exact h
    · exact popped.deliver
    all_goals exact popped.lose

theorem State.QueuesKept.resolverOpportunity (h : s.QueuesKept) : s.resolverOpportunity.QueuesKept := by
  have turned : ∀ {t : State} {m : LaneId}, t.QueuesKept → State.QueuesKept { t with resolver := m } := fun k =>
    k.rest rfl rfl rfl rfl
  have first := h.examineHead s.resolver
  unfold State.resolverOpportunity
  dsimp only
  split
  · rename_i examined
    rw [examined] at first
    exact turned first
  · rename_i t examined
    rw [examined] at first
    have second := first.examineHead s.resolver.other
    split
    · rename_i other
      rw [other] at second
      exact turned second
    · rename_i other
      rw [other] at second
      exact second

/-! ## DATA frames (R114 to R117, R130) -/

/-- A frame that is forwarded joins the queue of its class at an ADMITTED end with room (R115). -/
theorem State.QueuesKept.forward (h : s.QueuesKept) {f : DataFrame} (admitted : ¬ (!s.admitted e) = true)
    (room : (s.endUnit e).queues.hasRoom f.cls = true) : (s.forward e f).QueuesKept :=
  h.enqueue (State.admitted_iff.1 (by simpa using admitted)) room

theorem State.QueuesKept.examineBroadcastFrame (h : s.QueuesKept) {f : DataFrame}
    (k : s.examineBroadcastFrame e f = some t) : t.QueuesKept := by
  unfold State.examineBroadcastFrame at k
  dsimp only at k
  split at k
  · cases k
  split at k
  · cases k
    exact h.deliver
  split at k
  · cases k
    exact h.deliver.count
  rename_i admitted
  split at k
  · rename_i room
    cases k
    have unit := s.endUnit_deliver (s.arrivedEntry f true) e.other
    exact h.deliver.forward (by unfold State.admitted at *; rwa [unit]) (by rwa [unit])
  · cases k

theorem State.QueuesKept.examineThrough (h : s.QueuesKept) {p : Nat} {o : Orientation} {f : DataFrame}
    (k : s.examineThrough e p o f = some t) : t.QueuesKept := by
  unfold State.examineThrough at k
  dsimp only at k
  split at k
  · cases k
    exact h.count
  split at k
  · cases k
    exact h.count
  rename_i admitted
  split at k
  · rename_i room
    cases k
    exact h.forward admitted room
  · cases k

theorem State.QueuesKept.examineData (h : s.QueuesKept) {f : DataFrame} (k : s.examineData e f = some t) : t.QueuesKept := by
  unfold State.examineData at k
  split at k
  · exact h.examineBroadcastFrame k
  split at k
  · cases k
    exact h.count
  split at k
  · split at k
    · split at k
      · cases k
        exact h.count
      split at k
      · cases k
      · cases k
        exact h.deliver
    · exact h.examineThrough k
  · cases k
    exact h.count

theorem State.QueuesKept.examineArrival (h : s.QueuesKept) {x : LineId} {bit : Bool} {f : DataFrame} :
    (s.examineArrival e x bit f).QueuesKept := by
  unfold State.examineArrival
  split
  · exact h.earn
  split
  · exact h.count.earn
  split
  · rename_i taken
    exact (h.examineData taken).earn
  · exact h.earn

/-! ## The purge at commit (R136) -/

theorem State.QueuesKept.purgeOne (h : s.QueuesKept) {f : DataRecord} : (s.purgeOne e f).2.QueuesKept := by
  unfold State.purgeOne
  split
  · exact h
  split
  · exact h.count
  split
  · exact h.lose
  split
  · split <;> exact h
  · exact h.deliver
  all_goals exact h.lose

/-- A frame that stays keeps its class, stamped again or not (R119). -/
theorem State.purgeOne_keep_cls {f g : DataRecord} (k : s.purgeOne e f = (.keep g, t)) : g.frame.cls = f.frame.cls := by
  unfold State.purgeOne at k
  split at k
  · cases k
    rfl
  split at k
  · cases k
  split at k
  · cases k
  split at k
  · split at k
    · cases k
      rfl
    · cases k
  all_goals cases k

/-- The walk keeps the node, and leaves some of the queue, in its order and of its classes. -/
theorem State.QueuesKept.purgeWalk (q : List DataRecord) (h : s.QueuesKept) :
    (State.purgeWalk e q s).2.2.QueuesKept ∧
    ((State.purgeWalk e q s).1.map (·.frame.cls)).Sublist (q.map (·.frame.cls)) := by
  induction q generalizing s with
  | nil => exact ⟨h, .slnil⟩
  | cons f q ih =>
    have one := h.purgeOne (e := e) (f := f)
    have cls := fun g t => State.purgeOne_keep_cls (s := s) (e := e) (f := f) (g := g) (t := t)
    generalize ran : s.purgeOne e f = p at *
    obtain ⟨verdict, t⟩ := p
    obtain ⟨kept, thins⟩ := ih one
    cases verdict with
    | keep g =>
      rw [State.purgeWalk_keep ran, List.map_cons, List.map_cons, cls g t rfl]
      exact ⟨kept, thins.cons_cons _⟩
    | setAside o g =>
      rw [State.purgeWalk_setAside ran]
      exact ⟨kept, thins.cons _⟩
    | remove =>
      rw [State.purgeWalk_remove ran]
      exact ⟨kept, thins.cons _⟩

/-- Relief counts that are 0 stay so. -/
theorem EndUnit.rewalked_relief {u : EndUnit} (q : List DataRecord) (leaves : Bool)
    (none_ : u.queues.reliefProcess = 0 ∧ u.queues.reliefBulk = 0) :
    (u.rewalked c q leaves).queues.reliefProcess = 0 ∧ (u.rewalked c q leaves).queues.reliefBulk = 0 := by
  obtain ⟨process, bulk⟩ := none_
  cases leaves with
  | false => cases c <;> exact ⟨process, bulk⟩
  | true =>
    cases c with
    | command => exact ⟨process, bulk⟩
    | process => exact ⟨rfl, bulk⟩
    | bulk => exact ⟨process, rfl⟩

/-- A class queue replaced by what is left of it. -/
theorem EndUnit.QueuesKept.rewalked {u : EndUnit} {q : List DataRecord} (h : u.QueuesKept) (leaves : Bool)
    (thins : (q.map (·.frame.cls)).Sublist ((u.queues.classQueue c).map (·.frame.cls))) : (u.rewalked c q leaves).QueuesKept := by
  obtain ⟨-, classes, closed⟩ := EndUnit.queuesKept_iff.1 h
  obtain ⟨room, of⟩ := classes c
  have shorter := thins.length_le
  rw [List.length_map, List.length_map] at shorter
  refine h.requeue (u.rewalked_requeues c q leaves) (Nat.le_trans shorter room) (fun f there => ?_) fun away => ?_
  · obtain ⟨g, old, same⟩ := List.mem_map.1 (thins.subset (List.mem_map_of_mem there))
    exact same.symm.trans (of g old)
  · obtain ⟨empty, relief⟩ := closed away
    rw [empty c] at shorter
    exact ⟨List.length_eq_zero_iff.1 (Nat.le_zero.1 shorter), EndUnit.rewalked_relief q leaves relief⟩

theorem State.QueuesKept.purgeClass (h : s.QueuesKept) : (s.purgeClass e c).2.QueuesKept := by
  obtain ⟨kept, thins⟩ := h.purgeWalk (e := e) ((s.endUnit e).queues.classQueue c)
  have spares := (State.purgeWalk_walked e ((s.endUnit e).queues.classQueue c) s).spares
  have queues := congrArg EndUnit.queues (spares.unit e)
  rw [State.purgeClass_eq]
  refine kept.modEnd fun unit => unit.rewalked _ ?_
  rwa [queues]

theorem State.QueuesKept.purgeQueues (qs : List (EndId × TrafficClass)) (h : s.QueuesKept) :
    (State.purgeQueues qs s).2.QueuesKept := by
  induction qs generalizing s with
  | nil => exact h
  | cons q qs ih => exact ih h.purgeClass

/-- The second pass places a frame only where its queue has room. -/
theorem State.QueuesKept.placeAside (h : s.QueuesKept) {f : DataRecord} : (s.placeAside e f).QueuesKept := by
  unfold State.placeAside
  split
  · rename_i free
    obtain ⟨admitted, room⟩ := Bool.and_eq_true_iff.1 free
    exact h.enqueue (State.admitted_iff.1 admitted) room
  · exact h.loseRecord

theorem State.QueuesKept.purgeAtCommit (h : s.QueuesKept) : s.purgeAtCommit.QueuesKept := by
  have placed : ∀ (ps : List (EndId × DataRecord)) {t : State}, t.QueuesKept →
      State.QueuesKept (ps.foldl (fun t p => t.placeAside p.1 p.2) t) := fun ps => by
    induction ps with
    | nil => exact id
    | cons p ps ih => exact fun k => ih k.placeAside
  exact placed _ (h.purgeQueues purgeOrder)

/-! ## The bypass and the votes (R139, R145 to R150) -/

/-- An engagement empties the queues of the ends and the send queues (R139). -/
theorem State.QueuesKept.engage (h : s.QueuesKept) : s.engage.QueuesKept := by
  obtain ⟨-, -, -, -, ends, lanes⟩ := s.engages_engage
  refine State.queuesKept_iff.2 ⟨fun e => ?_, fun l => ?_⟩
  · obtain ⟨-, -, -, -, empty, -⟩ := ends e
    exact EndUnit.queuesKept_of_empty empty
  · obtain ⟨-, receive⟩ := h.lane l
    rw [lanes l]
    exact ⟨Nat.zero_le _, receive⟩

theorem State.QueuesKept.testRelease (h : s.QueuesKept) : s.testRelease.QueuesKept := by
  unfold State.testRelease
  exact h.ite fun _ => h.setBypass

theorem State.QueuesKept.latch (h : s.QueuesKept) {a : LatchedCause} : (s.latch a).QueuesKept := by
  have latched := (h.setBypass (b := { s.bypass with latched := a })).raiseBoth (n := .bypassChange)
  unfold State.latch
  split
  · exact h
  · exact latched.ite fun _ => latched.engage

theorem State.QueuesKept.recombine (h : s.QueuesKept) : s.recombine.QueuesKept := by
  have combined : (s.withVotes (effectiveVotes s.laneA s.laneB)).QueuesKept := h.rest rfl rfl rfl rfl
  rw [State.recombine_eq rfl]
  refine State.QueuesKept.engine ?_ (State.votesAtEngine_engineFrame ..)
  refine combined.ite fun _ => ?_
  unfold State.bypassRequestChanged
  split
  · exact combined.ite fun _ => combined.engage
  · exact combined.testRelease

theorem State.QueuesKept.releaseEnded (h : s.QueuesKept) : s.releaseEnded.QueuesKept := by
  have off := (h.setBypass (b := { s.bypass with state := .off, transition := none })).raiseBoth (n := .bypassChange)
  have taken : ∀ {t : State} {e : EndId} {settle : Nat}, t.QueuesKept → (t.modEnd e (EndUnit.takeInputs settle)).QueuesKept :=
    fun k => k.keeps (EndUnit.KeepsQueues.refl _).modLine.modLine
  unfold State.releaseEnded State.enterOff
  split
  · exact h.engage
  · exact (taken (e := .end2) (taken (e := .end1) off)).afterLines.afterLines.engine (State.EngineFrame.refl _).topologyChange

theorem State.QueuesKept.startUp (h : s.QueuesKept) : s.startUp.QueuesKept := by
  have loaded := h.setStore (w := s.store.afterLoad)
  have told := loaded.raiseBoth (n := .settingsDefaulted)
  unfold State.startUp
  refine State.QueuesKept.testRelease (State.QueuesKept.setBypass ?_)
  split <;> split
  · exact told
  · exact told.latch
  · exact loaded
  · exact loaded.latch

theorem State.QueuesKept.storeDone (h : s.QueuesKept) : s.storeDone.QueuesKept := by
  have idle := h.setStore (w := { s.store with activity := .idle, writingLane := none, operation := none })
  unfold State.storeDone
  dsimp only
  split
  · exact idle.engine (State.EngineFrame.refl _).raise
  · exact idle

end Sys2Proof.Machine
end

section
/-! PROOF. Every command keeps every queue within its capacity and its class (R122, R129). -/

namespace Sys2Proof.Machine

open Sys2Proof

variable {s t : State} {l : LaneId}

/-! ## Requests (chapter 9) -/

theorem State.QueuesKept.handleKind (h : s.QueuesKept) {is : Byte → Bool} {f : List Byte → Reply × State}
    (k : ∀ body, (f body).2.QueuesKept) : (s.handleKind l is f).QueuesKept := by
  unfold State.handleKind
  split
  · exact h.ite fun _ => (k _).modLane id
  · exact h
  · exact h

theorem State.QueuesKept.handleAttached (h : s.QueuesKept) {code : Byte} {f : List Byte → Reply × State}
    (k : ∀ body, (f body).2.QueuesKept) : (s.handleAttached l code f).QueuesKept := by
  refine h.handleKind fun body => ?_
  split
  · exact k body
  · exact h

theorem State.QueuesKept.noBody (h : s.QueuesKept) {p : Reply × State} (k : p.2.QueuesKept) (body : List Byte) :
    (Machine.noBody s p body).2.QueuesKept := by
  unfold Machine.noBody
  split
  · exact k
  · exact h

theorem State.QueuesKept.withBody {β : Type} (h : s.QueuesKept) {decode : List Byte → Option β} {f : β → Reply × State}
    (k : ∀ b, (f b).2.QueuesKept) (body : List Byte) : (Machine.withBody s decode f body).2.QueuesKept := by
  unfold Machine.withBody
  split
  · exact k _
  · exact h

/-- A change of one lane, and the recombination of the votes (R50). -/
theorem State.QueuesKept.recombines (h : s.QueuesKept) {g : LanePort → LanePort}
    (k : (s.lane l).QueuesKept → (g (s.lane l)).QueuesKept) : (s.modLane l g).recombine.QueuesKept := (h.modLane k).recombine

/-- A lane that is DETACHED holds nothing (R161). -/
theorem LanePort.detached_queuesKept (p : LanePort) : p.detached.QueuesKept := ⟨Nat.zero_le _, Nat.zero_le _⟩

theorem State.QueuesKept.fetchEntry (h : s.QueuesKept) (l : LaneId) : (s.fetchEntry l).2.QueuesKept := by
  unfold State.fetchEntry
  split
  · exact h
  · rename_i a rest queue
    refine h.modLane fun ⟨send, receive⟩ => ⟨send, ?_⟩
    rw [queue] at receive
    exact Nat.le_of_succ_le receive

theorem State.QueuesKept.writeSetting (h : s.QueuesKept) (l : LaneId) (w : SettingWrite) : (s.writeSetting l w).2.QueuesKept := by
  unfold State.writeSetting
  split
  · exact h
  split
  · exact h
  split
  · exact h
  · exact h.setStore

theorem State.QueuesKept.lockCommissioning (h : s.QueuesKept) (l : LaneId) : (s.lockCommissioning l).2.QueuesKept := by
  unfold State.lockCommissioning
  split
  · exact h
  split
  · exact h
  split
  · exact h
  · exact h.setStore

/-! ## The commands -/

/-- The queues right after a reset are empty (R142, R170). -/
theorem State.resetBlocks_queuesKept (s : State) (cause : ResetCause) : (s.resetBlocks cause).QueuesKept :=
  State.queuesKept_iff.2 ⟨fun e => EndUnit.queuesKept_of_empty (by cases e <;> rfl),
    fun l => by cases l <;> exact ⟨Nat.zero_le _, Nat.zero_le _⟩⟩

theorem exec_queuesKept (h : s.QueuesKept) (c : Instr) : ∃ t, exec c s = .next t ∧ t.QueuesKept := by
  cases c with
  | powerOn => exact ⟨_, rfl, s.resetBlocks_queuesKept .powerOn⟩
  | nodeReset => exact ⟨_, rfl, (s.resetBlocks_queuesKept .nodeReset).rest rfl rfl rfl rfl⟩
  | startUpComplete => exact ⟨_, rfl, h.ite fun _ => h.startUp⟩
  | nodeResetRelease => exact ⟨_, rfl, h.rest rfl rfl rfl rfl⟩
  | laneReset l => exact ⟨_, rfl, h.recombines fun _ => ⟨Nat.zero_le _, Nat.zero_le _⟩⟩
  | laneResetRelease l => exact ⟨_, rfl, h.modLane id⟩
  | couplerSenseChange e coupled => exact ⟨_, rfl, h.senseChange⟩
  | carrierChange e x present => exact ⟨_, rfl, h.carrierChange⟩
  | settleTimerExpiry e x => exact ⟨_, rfl, h.ite fun _ => (h.keeps (.settleExpired _ x)).afterLines⟩
  | fullSweepStart e => exact ⟨_, rfl, h.keeps (.trainerTakes _)⟩
  | fullSweepEnd e sweep =>
    refine ⟨_, rfl, ?_⟩
    split
    · exact h.fullSweepEnded
    · exact h
    · exact h
  | trainingPauseEnd e x => exact ⟨_, rfl, h.ite fun _ => h.modLine⟩
  | silenceTimerExpiry e x => exact ⟨_, rfl, h.ite fun _ => h.lineSilent⟩
  | recentreTurn => exact ⟨_, rfl, h.ite fun _ => h.recentreTurn⟩
  | recentreSweepEnd e sweep =>
    refine ⟨_, rfl, ?_⟩
    split
    · exact h.recentreEnded
    · exact h
    · exact h
  | patternHoldEnd e x => exact ⟨_, rfl, h.ite fun _ => h.holdEnded⟩
  | beaconDue e x => exact ⟨_, rfl, h.ite fun _ => h.queueBeacon⟩
  | transmissionEnd e x => exact ⟨_, rfl, h.endTransmission⟩
  | unknownFrameKind e x kind f => exact ⟨_, rfl, h.arrive fun _ k => k.answer⟩
  | beacon e x f => exact ⟨_, rfl, h.arrive fun _ k => k.takeUnanswered fun _ => k.takeBeacon⟩
  | patternRequest e x f => exact ⟨_, rfl, h.arrive fun _ k => k.takeAwaiting fun _ => k.earn⟩
  | alert e x f => exact ⟨_, rfl, h.controlArrives fun _ r => (State.EngineFrame.refl r).onAlert⟩
  | tally e x f => exact ⟨_, rfl, h.controlArrives fun _ r => (State.EngineFrame.refl r).onTally⟩
  | closure e x f => exact ⟨_, rfl, h.controlArrives fun _ r => (State.EngineFrame.refl r).onClosure⟩
  | commit e x f => exact ⟨_, rfl, h.controlArrives fun _ r => (State.EngineFrame.refl r).onCommit⟩
  | dissent e x f => exact ⟨_, rfl, h.controlArrives fun _ r => (State.EngineFrame.refl r).onDissent⟩
  | defer e x f => exact ⟨_, rfl, h.controlArrives fun _ r => (State.EngineFrame.refl r).onDefer⟩
  | data e x f => exact ⟨_, rfl, h.arrive fun _ k => k.takeAwaiting fun _ => k.examineArrival⟩
  | accept e x f => exact ⟨_, rfl, h.replyArrives fun _ k => k.endFrame⟩
  | hold e x f => exact ⟨_, rfl, h.replyArrives fun _ k => k.onHold⟩
  | refuse e x f => exact ⟨_, rfl, h.replyArrives fun _ k => k.endFrame⟩
  | commitPurge => exact ⟨_, rfl, h.purgeAtCommit⟩
  | admissionAtCommit => exact ⟨_, rfl, h.decideEnd.decideEnd⟩
  | replyTimeout e => exact ⟨_, rfl, h.ite fun _ => h.replyTimedOut⟩
  | holdWaitEnd e => exact ⟨_, rfl, h.ite fun _ => h.sendHeld⟩
  | pendingSend e => exact ⟨_, rfl, h.ite fun _ => h.firstSend⟩
  | arbiterOffer e => exact ⟨_, rfl, h.offerFrame⟩
  | resolverExamination => exact ⟨_, rfl, h.resolverOpportunity⟩
  | deadlineExpiry => exact ⟨_, rfl, h.ite fun _ => h.engine (State.EngineFrame.refl s).deadlineExpired⟩
  | releaseEnd => exact ⟨_, rfl, h.ite fun _ => h.releaseEnded⟩
  | engageEnd => exact ⟨_, rfl, h.ite fun _ => h.setBypass.testRelease⟩
  | scrub =>
    refine ⟨_, rfl, h.ite fun _ => ?_⟩
    unfold State.scrubbed
    split
    · exact h.latch
    · exact h.ite fun _ => h.latch
  | writeComplete => exact ⟨_, rfl, h.ite fun _ => h.setStore.storeDone⟩
  | lockComplete => exact ⟨_, rfl, h.ite fun _ => h.setStore.storeDone⟩
  | laneTransaction l span bytes =>
    refine ⟨_, rfl, ?_⟩
    split
    · exact h
    · exact h.modLane fun kept => kept.transact ..
  | unknownRequest l => exact ⟨_, rfl, h.handleKind fun _ => h⟩
  | null l => exact ⟨_, rfl, h.handleKind (h.noBody h)⟩
  | attach l =>
    refine ⟨_, rfl, h.handleKind (h.noBody ?_)⟩
    dsimp only
    unfold State.attachLane
    split
    · exact h
    · exact h.recombines id
  | detach l =>
    exact ⟨_, rfl, h.handleKind (h.noBody (h.ite fun _ => h.recombines fun _ => LanePort.detached_queuesKept _))⟩
  | setVotes l => exact ⟨_, rfl, h.handleAttached (h.withBody fun _ => h.recombines id)⟩
  | send l => exact ⟨_, rfl, h.handleAttached (h.withBody fun m => h.judgeSend l m)⟩
  | fetch l => exact ⟨_, rfl, h.handleAttached (h.noBody (h.fetchEntry l))⟩
  | readDirectory l => exact ⟨_, rfl, h.handleKind (h.withBody fun _ => h)⟩
  | readLines l => exact ⟨_, rfl, h.handleKind (h.withBody fun _ => h)⟩
  | readSetting l => exact ⟨_, rfl, h.handleKind (h.withBody fun _ => h)⟩
  | readNode l => exact ⟨_, rfl, h.handleKind (h.noBody h)⟩
  | readCounters l => exact ⟨_, rfl, h.handleKind (h.noBody h)⟩
  | readNotices l => exact ⟨_, rfl, h.handleKind (h.noBody h)⟩
  | clearNotices l => exact ⟨_, rfl, h.handleKind (h.withBody fun _ => h.modLane id)⟩
  | setMask l =>
    refine ⟨_, rfl, h.handleKind (h.withBody fun _ => ?_)⟩
    dsimp only
    exact h.modLane id
  | startInauguration l =>
    refine ⟨_, rfl, h.handleAttached (h.noBody ?_)⟩
    unfold State.startInauguration
    split
    · exact h
    · exact h.engine (State.EngineFrame.refl s).topologyChange
  | retrainLine l => exact ⟨_, rfl, h.handleAttached (h.withBody fun _ => h.ite fun _ => h.modLine.afterLines)⟩
  | writeSetting l => exact ⟨_, rfl, h.handleAttached (h.withBody fun w => h.writeSetting l w)⟩
  | lockCommissioning l => exact ⟨_, rfl, h.handleAttached (h.noBody (h.lockCommissioning l))⟩

end Sys2Proof.Machine

open Sys2Proof Sys2Proof.Machine in
/-- Settles O7: a record joins a queue only where there is room and, at an end, only while it is ADMITTED; an end that departs is
emptied of its class records as its state is decided. -/
theorem queuesKeptByStep : Obligations.QueuesKeptByStep := by
  intro s t kept stepped
  rcases step_cases stepped with rfl | ⟨c, rest, run⟩
  · exact kept
  · obtain ⟨r, next, after⟩ := exec_queuesKept (s := { s with pending := rest }) kept c
    rwa [Host.Outcome.next.inj (run.symm.trans next)]
end
